-- ==== Sys2Proof/Word.lean ====
section
/-! DEFINITION. Plain arithmetic and fixed-length tables used everywhere: saturating addition, clamping, and
reading and writing one place of a fixed-length table. -/

namespace Sys2Proof

/-- A number 0..255, as one byte of a frame. -/
abbrev Byte := Nat

/-- Addition that stops at `cap` (00_scope.md, Counters: a saturating counter stops at its maximum). -/
def satAdd (cap a b : Nat) : Nat := min (a + b) cap

/-- A number brought to the nearest limit of `lo..hi` (00_scope.md, Parameters). -/
def clamp (lo hi v : Nat) : Nat := max lo (min v hi)

/-- Place `i` of a table of `n` places, or `d` where the table has no such place. -/
def vget {α : Type} {n : Nat} (v : Vector α n) (i : Nat) (d : α) : α :=
  if h : i < n then v[i] else d

/-- The table with place `i` replaced, unchanged where it has no such place. -/
def vset {α : Type} {n : Nat} (v : Vector α n) (i : Nat) (x : α) : Vector α n :=
  if h : i < n then v.set i x else v

/-- The table of `n` places whose place `i` holds `f i`. -/
def vinit {α : Type} (n : Nat) (f : Nat → α) : Vector α n :=
  ⟨⟨(List.range n).map f⟩, by simp⟩

end Sys2Proof
end

