-- ==== Sys2Proof/Config.lean ====
section
/-! DEFINITION. What the manual leaves open, as constants without a body, and the numbers the manual fixes for the
whole part (00_scope.md, Numbers at a glance). -/

namespace Sys2Proof

/-- The uptime a report carries once more than 4,294,967,295 seconds have passed since power-on.
00_scope.md gives a 32-bit count and does not say whether it wraps or stops. Free value (log entry 11). -/
opaque Config.uptimePastEnd : Nat → BitVec 32

/-- The rank of an order id among the orders whose LOAD_LATE falls due at one hold tick, by the time of the tick: R47
does not say in which order they are reported. Free value (log entry 12). -/
opaque Config.lateRank : Nat → Nat → Nat

/-- Lockers of a bank. -/
abbrev Config.lockerCount : Nat := 48

/-- All locker indices, in increasing order. -/
def Config.allLockers : List Nat := List.range 48

end Sys2Proof
end

