-- ==== Sys2Proof/Machine/Operands.lean ====
section
/-! DEFINITION. How operands stand in payloads: the field rule of R137 in both directions, the sizes of parameters
(R175), and the cyclic check of R134 that every frame of either line carries. -/

namespace Sys2Proof.Machine

/-- One encoded field of a payload, by the bytes its range takes (R137). -/
inductive Field where
  | b1 (v : Nat)
  | b2 (v : Nat)
  | b4 (v : Nat)
  deriving DecidableEq, Repr

/-- High byte first (R137). -/
def Field.bytes : Field → List Byte
  | .b1 v => [v % 256]
  | .b2 v => [v / 256 % 256, v % 256]
  | .b4 v => [v / 16777216 % 256, v / 65536 % 256, v / 256 % 256, v % 256]

def fieldsBytes (fs : List Field) : List Byte := fs.flatMap Field.bytes

/-- The two's complement number of a signed value (R137). -/
def twosComplement (t : Int) : Nat := (t % 65536).toNat

/-- A signed deci-degree value, two bytes (R137). -/
def Field.signed (t : Int) : Field := .b2 (twosComplement t)

/-- A yes/no value: 0 for no, 1 for yes (R168). -/
def Field.flag (b : Bool) : Field := .b1 (if b then 1 else 0)

/-- An order id that may be absent: 0 when it is (R137). -/
def Field.orderId : Option Nat → Field
  | some i => .b4 i
  | none => .b4 0

/-- Any other one-byte field that may be absent: 0xFF when it is (R137). -/
def Field.opt1 : Option Nat → Field
  | some v => .b1 v
  | none => .b1 255

/-- Reading payload bytes: the one, two or four bytes from offset `i`, high byte first (R137). -/
def rd1 (p : List Byte) (i : Nat) : Nat := p.getD i 0
def rd2 (p : List Byte) (i : Nat) : Nat := rd1 p i * 256 + rd1 p (i + 1)
def rd4 (p : List Byte) (i : Nat) : Nat := rd2 p i * 65536 + rd2 p (i + 2)

/-- The signed value of a two-byte two's complement number (R137). -/
def signedOf (v : Nat) : Int := if v < 32768 then (v : Int) else (v : Int) - 65536

/-- The value bytes of a parameter (R175); 0 for a number that names none (R173). -/
def paramBytes (p : Nat) : Nat :=
  if p = 0 then 0
  else if p ∈ [2, 3, 5, 6, 7, 8] then 2
  else if p ≤ 16 then 1 else 0

/-- One bit of the check register of R134: shift left, and apply the polynomial x^16 + x^12 + x^5 + 1 when a one
leaves the register. -/
def crcBit (r : Nat) : Nat :=
  if 32768 ≤ r then (r * 2 % 65536) ^^^ 0x1021 else r * 2

/-- One byte, most significant bit first (R134). -/
def crcByte (r b : Nat) : Nat :=
  crcBit (crcBit (crcBit (crcBit (crcBit (crcBit (crcBit (crcBit (r ^^^ (b * 256 % 65536)))))))))

/-- The check of R134 over a list of bytes: the register starts at all ones, the result is not inverted. -/
def crc16 (bytes : List Byte) : Nat := bytes.foldl crcByte 0xFFFF

/-- The two check bytes as they are sent, high byte first (R134). -/
def crcBytes (bytes : List Byte) : List Byte := (Field.b2 (crc16 bytes)).bytes

end Sys2Proof.Machine
end

