-- ==== Sys2Proof/Machine/Types.lean ====
section
/-! DEFINITION. The fixed sets of names and the records the units keep, as the chapters define them. Each `code` is
the position of a value in its definition's list (R137: an enumeration is sent as its position, from 0). -/

namespace Sys2Proof.Machine

/-! ### Lockers (chapter 01) -/

inductive SizeClass where | small | medium | large
  deriving DecidableEq, Repr

def SizeClass.code : SizeClass → Nat | .small => 0 | .medium => 1 | .large => 2

def SizeClass.ofCode : Nat → Option SizeClass
  | 0 => some .small | 1 => some .medium | 2 => some .large | _ => none

/-- The larger classes, in size order (00_scope.md, Size classes). -/
def SizeClass.larger : SizeClass → List SizeClass
  | .small => [.medium, .large] | .medium => [.large] | .large => []

inductive Door where | k | c
  deriving DecidableEq, Repr

def Door.code : Door → Nat | .k => 0 | .c => 1

def Door.ofCode : Nat → Option Door | 0 => some .k | 1 => some .c | _ => none

def Door.other : Door → Door | .k => .c | .c => .k

/-- LATCHED, CLOSED (closed, not latched), OPEN (00_scope.md, Doors). -/
inductive DoorState where | latched | closed | opened
  deriving DecidableEq, Repr

def DoorState.code : DoorState → Nat | .latched => 0 | .closed => 1 | .opened => 2

def DoorState.ofCode : Nat → Option DoorState
  | 0 => some .latched | 1 => some .closed | 2 => some .opened | _ => none

inductive Occupancy where | empty | occupied
  deriving DecidableEq, Repr

def Occupancy.code : Occupancy → Nat | .empty => 0 | .occupied => 1

def Occupancy.ofCode : Nat → Option Occupancy | 0 => some .empty | 1 => some .occupied | _ => none

/-- Module fault codes (R106), 0 for none. -/
inductive FaultCode where | none | latchFault | heaterFault | occupancyFault
  deriving DecidableEq, Repr

def FaultCode.code : FaultCode → Nat | .none => 0 | .latchFault => 1 | .heaterFault => 2 | .occupancyFault => 3

def FaultCode.ofCode : Nat → Option FaultCode
  | 0 => some .none | 1 => some .latchFault | 2 => some .heaterFault | 3 => some .occupancyFault | _ => Option.none

/-- The twelve phases, in the order of section 1.2 and R185. -/
inductive Phase where
  | absent | free | reserved | loading | holding | pickup | condemned | clearing | purging | service | offline
  | quarantine
  deriving DecidableEq, Repr

def Phase.code : Phase → Nat
  | .absent => 0 | .free => 1 | .reserved => 2 | .loading => 3 | .holding => 4 | .pickup => 5 | .condemned => 6
  | .clearing => 7 | .purging => 8 | .service => 9 | .offline => 10 | .quarantine => 11

def Phase.all : List Phase :=
  [.absent, .free, .reserved, .loading, .holding, .pickup, .condemned, .clearing, .purging, .service, .offline,
    .quarantine]

/-- A locker record (section 1.1): layout fields, observation fields, working fields. -/
structure Locker where
  populated : Bool
  cls : SizeClass
  feed : Nat
  power : Nat
  fenced : Bool
  kDoor : DoorState
  cDoor : DoorState
  kSeen : Nat
  cSeen : Nat
  occupancy : Occupancy
  sample : Option Int
  sampleAge : Nat
  fault : FaultCode
  pollFails : Nat
  phase : Phase
  orderRef : Option Nat
  resume : Option Phase
  clearOrigin : Option Phase
  unlatchPending : Option Door
  openedNoted : Option Bool
  transientTimer : Option Nat
  doorHeld : Option Bool
  purgeProgress : Option Nat
  purgeSuspended : Option Bool
  overheatInhibit : Bool
  heaterExcluded : Bool
  demand : Nat
  granted : Nat
  starved : Nat
  deriving DecidableEq, Repr

/-- The working and observation fields at power-on (R6), for a position that holds no module. -/
def Locker.blank : Locker where
  populated := false
  cls := .medium
  feed := 0
  power := 50
  fenced := false
  kDoor := .latched
  cDoor := .latched
  kSeen := 0
  cSeen := 0
  occupancy := .empty
  sample := none
  sampleAge := 65535
  fault := .none
  pollFails := 0
  phase := .absent
  orderRef := none
  resume := none
  clearOrigin := none
  unlatchPending := none
  openedNoted := some false
  transientTimer := some 0
  doorHeld := some false
  purgeProgress := none
  purgeSuspended := none
  overheatInhibit := false
  heaterExcluded := false
  demand := 0
  granted := 0
  starved := 0

def Locker.door (l : Locker) : Door → DoorState | .k => l.kDoor | .c => l.cDoor

/-- An observation (R106); `sample` is absent for the probe-fault marker. -/
structure Observation where
  sample : Option Int
  kDoor : DoorState
  cDoor : DoorState
  kCount : Nat
  cCount : Nat
  occupancy : Occupancy
  fault : FaultCode
  heaterOn : Bool
  deriving DecidableEq, Repr

/-! ### Orders (chapters 02 and 03) -/

/-- Condemnation causes (2.1). -/
inductive Cause where | expired | cold | cancelled | fault | lost
  deriving DecidableEq, Repr

def Cause.code : Cause → Nat | .expired => 0 | .cold => 1 | .cancelled => 2 | .fault => 3 | .lost => 4

/-- PENDING with its pending age, or PLACED with locker, reserved age and late-reported (2.1, R31). -/
inductive OrderStatus where
  | pending (age : Nat)
  | placed (locker reservedAge : Nat) (lateReported : Bool)
  deriving DecidableEq, Repr

/-- The hold fields of a loaded order (R55). -/
structure Hold where
  life : Nat
  cold : Nat
  warned : Bool
  deriving DecidableEq, Repr

/-- An order record (2.1). The hold fields are present from loading on. -/
structure Order where
  id : Nat
  code : Nat
  cls : SizeClass
  profile : Nat
  budget : Nat
  deadline : Nat
  status : OrderStatus
  attempts : Nat
  condemned : Option Cause
  hold : Option Hold
  deriving DecidableEq, Repr

/-- The locker of a PLACED order. -/
def Order.locker (o : Order) : Option Nat :=
  match o.status with | .pending _ => none | .placed n _ _ => some n

def Order.isPending (o : Order) : Bool :=
  match o.status with | .pending _ => true | .placed .. => false

/-! ### Settings (chapter 09) -/

structure LayoutEntry where
  populated : Bool
  cls : SizeClass
  feed : Nat
  power : Nat
  deriving DecidableEq, Repr

/-- A profile (R52). -/
structure Profile where
  setpoint : Int
  floor : Int
  overheat : Int
  coldLimit : Nat
  warn : Nat
  gain : Nat
  base : Nat
  deriving DecidableEq, Repr

structure FeedEntry where
  normal : Nat
  shed : Nat
  force : Bool
  deriving DecidableEq, Repr

/-- The fifteen stored parameters (R175). `reportMask` is the number 0..15 of R174. -/
structure Params where
  unlatchWindowS : Nat
  doorOpenLimitS : Nat
  linkSilenceS : Nat
  sampleStaleS : Nat
  pollGapMs : Nat
  purgeSlots : Nat
  purgeLimit : Nat
  pendingWaitS : Nat
  upsize : Bool
  isolate : Bool
  panelEnable : Bool
  reportMask : Nat
  fenceHigh : Bool
  fenceCount : Nat
  fenceInvert : Bool
  deriving DecidableEq, Repr

/-- A whole set of settings: what a store copy holds (R166). -/
structure Settings where
  layout : Vector LayoutEntry 48
  profiles : Vector Profile 8
  feeds : Vector FeedEntry 4
  params : Params
  deriving DecidableEq, Repr

/-- A valid copy of the non-volatile store (R166). An invalid copy is an absent one. -/
structure StoreCopy where
  generation : Nat
  settings : Settings
  deriving DecidableEq, Repr

inductive StoreSide where | a | b
  deriving DecidableEq, Repr

inductive SettingsSource where | stored | factory
  deriving DecidableEq, Repr

def SettingsSource.code : SettingsSource → Nat | .stored => 0 | .factory => 1

def Profile.factory : Profile := ⟨720, 630, 900, 600, 300, 8, 6⟩

def Params.factory : Params where
  unlatchWindowS := 20
  doorOpenLimitS := 90
  linkSilenceS := 30
  sampleStaleS := 6
  pollGapMs := 200
  purgeSlots := 600
  purgeLimit := 950
  pendingWaitS := 600
  upsize := true
  isolate := false
  panelEnable := true
  reportMask := 15
  fenceHigh := false
  fenceCount := 0
  fenceInvert := false

/-- Factory values (R184). -/
def Settings.factory : Settings where
  layout := vinit 48 fun n => ⟨true, .medium, n / 12, 300⟩
  profiles := vinit 8 fun _ => Profile.factory
  feeds := vinit 4 fun _ => ⟨6000, 2000, false⟩
  params := Params.factory

/-! ### Commands (chapter 06) -/

/-- The requests that make a transaction table entry (R112). -/
inductive CmdRequest where
  | loadOpen | release | clear | clearLocker | serviceUnlatch | panelRelease | moduleRead
  deriving DecidableEq, Repr

inductive Origin where | server | panel
  deriving DecidableEq, Repr

inductive Stage where | waiting | onBus
  deriving DecidableEq, Repr

/-- A transaction table entry (R112). -/
structure Entry where
  origin : Origin
  tag : Option Nat
  request : CmdRequest
  locker : Nat
  door : Option Door
  item : Option Nat
  seq : Nat
  stage : Stage
  deriving DecidableEq, Repr

/-- What a posted command sends (R113). -/
inductive PostedContent where
  | lamp (pattern : Nat)
  | label (text : List Byte)
  | moduleWrite (item value : Nat)
  deriving DecidableEq, Repr

/-- The position of a posted command's kind in R113's list. -/
def PostedContent.code : PostedContent → Nat | .lamp _ => 0 | .label _ => 1 | .moduleWrite .. => 2

/-- A posting queue entry (R113). -/
structure Posted where
  locker : Nat
  tag : Nat
  content : PostedContent
  seq : Nat
  stage : Stage
  deriving DecidableEq, Repr

/-- The reasons of a REFUSED reply (R152). -/
inductive Reason where | interlock | latchFault | badRequest
  deriving DecidableEq, Repr

def Reason.code : Reason → Nat | .interlock => 0 | .latchFault => 1 | .badRequest => 2

def Reason.ofCode : Nat → Option Reason
  | 0 => some .interlock | 1 => some .latchFault | 2 => some .badRequest | _ => none

/-- How a command ends (R92, R11, R125, R130). -/
inductive CmdOutcome where
  | ok (value : Option Nat)
  | refused (reason : Reason)
  | noReply
  | bankReset
  | offline
  | wrongPhase
  | tooLate
  | interlock
  | aborted
  | discarded
  deriving DecidableEq, Repr

/-- What holds the long-operation place (R127). -/
inductive LongOpKind where | store | rescan | bankReset | powerOnDiscovery
  deriving DecidableEq, Repr

/-- The position of a requested operation's kind in R131's list. -/
def LongOpKind.code : LongOpKind → Nat
  | .store => 0 | .rescan => 1 | .bankReset => 2 | .powerOnDiscovery => 3

structure LongOp where
  kind : LongOpKind
  tag : Option Nat
  deriving DecidableEq, Repr

/-! ### The concourse link (chapter 07) -/

/-- Answer statuses (R139), and STORE_FAULT, which only DONE carries (R182). -/
inductive Status where
  | ok | okClamped | pending | accepted | busy | badArgument | unknownKind | unknownOrder | duplicateOrder
  | duplicateCode | noLocker | wrongPhase | fenced | offline | interlock | tooLate | strict | retry | tagInUse
  | noTarget | noReply | moduleRefused | bankReset | aborted | abortLate | storeFault
  deriving DecidableEq, Repr

def Status.code : Status → Nat
  | .ok => 0 | .okClamped => 1 | .pending => 2 | .accepted => 3 | .busy => 4 | .badArgument => 5
  | .unknownKind => 6 | .unknownOrder => 7 | .duplicateOrder => 8 | .duplicateCode => 9 | .noLocker => 10
  | .wrongPhase => 11 | .fenced => 12 | .offline => 13 | .interlock => 14 | .tooLate => 15 | .strict => 16
  | .retry => 17 | .tagInUse => 18 | .noTarget => 19 | .noReply => 20 | .moduleRefused => 21 | .bankReset => 22
  | .aborted => 23 | .abortLate => 24 | .storeFault => 25

/-- Report groups (R141, R151). -/
inductive Group where | order | locker | thermal | power | panel | system
  deriving DecidableEq, Repr

def Group.code : Group → Nat
  | .order => 0 | .locker => 1 | .thermal => 2 | .power => 3 | .panel => 4 | .system => 5

/-- The groups REPORT_MASK can turn off and a full queue gives up (R141, R143). -/
def Group.maskable : Group → Bool
  | .locker | .thermal | .power | .panel => true
  | .order | .system => false

/-- Every report (R141). -/
inductive ReportKind where
  | loaded | loadEmpty | collected | pickupReturned | pickupTimeout | cleared | clearReturned | assigned
  | bookExpired | loadLate | condemned | nearExpiry
  | doorHeld | doorFault | moduleFault | quarantined | purgeDone | offline | online | postedLost
  | overheat | overheatClear | starved
  | shedOn | shedOff | purgeSuspended | purgeResumed
  | panelPickup | panelRefused | panelLockout
  | done | reportsLost | islandEnd | started
  deriving DecidableEq, Repr

/-- Kind numbers (R141). -/
def ReportKind.number : ReportKind → Nat
  | .loaded => 1 | .loadEmpty => 2 | .collected => 3 | .pickupReturned => 4 | .pickupTimeout => 5 | .cleared => 6
  | .clearReturned => 7 | .assigned => 8 | .bookExpired => 9 | .loadLate => 10 | .condemned => 11
  | .nearExpiry => 12
  | .doorHeld => 32 | .doorFault => 33 | .moduleFault => 34 | .quarantined => 35 | .purgeDone => 36
  | .offline => 37 | .online => 38 | .postedLost => 39
  | .overheat => 64 | .overheatClear => 65 | .starved => 66
  | .shedOn => 80 | .shedOff => 81 | .purgeSuspended => 82 | .purgeResumed => 83
  | .panelPickup => 96 | .panelRefused => 97 | .panelLockout => 98
  | .done => 112 | .reportsLost => 113 | .islandEnd => 114 | .started => 115

/-- Groups (R141). -/
def ReportKind.group : ReportKind → Group
  | .loaded | .loadEmpty | .collected | .pickupReturned | .pickupTimeout | .cleared | .clearReturned | .assigned
  | .bookExpired | .loadLate | .condemned | .nearExpiry => .order
  | .doorHeld | .doorFault | .moduleFault | .quarantined | .purgeDone | .offline | .online | .postedLost => .locker
  | .overheat | .overheatClear | .starved => .thermal
  | .shedOn | .shedOff | .purgeSuspended | .purgeResumed => .power
  | .panelPickup | .panelRefused | .panelLockout => .panel
  | .done | .reportsLost | .islandEnd | .started => .system

/-- A queued report: kind, the uptime stamped at submission, the tag byte of its frame, its fields (R142, R151). -/
structure Report where
  kind : ReportKind
  uptime : Nat
  tag : Nat
  fields : List Field
  deriving DecidableEq, Repr

/-- The class byte and kind number of a request (R138, R150). -/
structure Kind where
  cls : Nat
  num : Nat
  deriving DecidableEq, Repr

/-- A queued answer (R139, R151). -/
structure Answer where
  kind : Kind
  tag : Nat
  status : Status
  body : List Field
  deriving DecidableEq, Repr

/-- A frame of the transmit line. -/
inductive UpFrame where
  | answer (a : Answer)
  | report (r : Report)
  deriving DecidableEq, Repr

/-- The receive framer with the bytes of the frame so far, from the length byte on (R133). -/
inductive RxFramer where
  | hunt
  | length
  | body (len : Nat) (bytes : List Byte)
  | crc (bytes : List Byte) (first : Option Byte)
  deriving DecidableEq, Repr

/-- Causes of a discard (R135). -/
inductive LinkError where | length | gap | crc | cls | overrun
  deriving DecidableEq, Repr

/-- The link error count and its cause counts (R132, R135). -/
structure LinkErrors where
  total : Nat
  length : Nat
  gap : Nat
  crc : Nat
  cls : Nat
  overrun : Nat
  deriving DecidableEq, Repr

/-! ### The bank bus (chapter 05) -/

/-- A frame of the bank bus (R152), without its envelope. -/
structure BusFrame where
  addr : Nat
  kind : Nat
  payload : List Byte
  deriving DecidableEq, Repr

/-- The exchange in flight (R93). A command keeps the request frame that every attempt carries (R90). -/
inductive Exchange where
  | poll (locker attempt : Nat) (afterMap : Bool)
  | probe (locker attempt : Nat) (afterMap : Bool)
  | command (locker seq attempt : Nat) (request : BusFrame)
  | broadcast (offset : Nat)
  deriving DecidableEq, Repr

inductive Winner where | command | poll
  deriving DecidableEq, Repr

/-- The heat-map state of the current frame (R89). -/
inductive MapState where | none | waiting | sending | sent | withheld
  deriving DecidableEq, Repr

inductive PollCycle where | stopped | running | gap
  deriving DecidableEq, Repr

/-- The bank reset line (R108). -/
inductive ResetLine where | idle | pulse | quiet
  deriving DecidableEq, Repr

/-! ### Discovery (chapter 10) and panel (chapter 08) -/

inductive DiscoveryKind where | powerOn | rescan
  deriving DecidableEq, Repr

def DiscoveryKind.code : DiscoveryKind → Nat | .powerOn => 0 | .rescan => 1

inductive DiscoveryStage where | reset | probing
  deriving DecidableEq, Repr

structure Discovery where
  kind : DiscoveryKind
  stage : DiscoveryStage
  deriving DecidableEq, Repr

/-- Display messages (R155). -/
inductive PanelMessage where
  | opened (locker : Nat)
  | unknown | expired | notReady | busy | outOfService | notAvailable | lockedOut
  deriving DecidableEq, Repr

/-- The position of a message in the list of R163's PANEL_REFUSED. OPEN and UNKNOWN are never in that report. -/
def PanelMessage.refusalCode : PanelMessage → Nat
  | .expired => 0 | .notReady => 1 | .busy => 2 | .outOfService => 3 | .notAvailable => 4 | .lockedOut => 5
  | .opened _ => 255 | .unknown => 255

/-- Causes of PANEL_REFUSED, in R163's order. -/
inductive PanelCause where
  | lockout | disabled | discovery | condemned | notLoaded | inPickup | table | tooLate | offline | wrongPhase
  | interlock | noReply | moduleRefused | bankReset | discarded
  deriving DecidableEq, Repr

def PanelCause.code : PanelCause → Nat
  | .lockout => 0 | .disabled => 1 | .discovery => 2 | .condemned => 3 | .notLoaded => 4 | .inPickup => 5
  | .table => 6 | .tooLate => 7 | .offline => 8 | .wrongPhase => 9 | .interlock => 10 | .noReply => 11
  | .moduleRefused => 12 | .bankReset => 13 | .discarded => 14

/-- Something a command put on an output of the controller: a link frame whose transmission began, a bus frame
whose transmission began, a display message (log entry 8). -/
inductive PortEvent where
  | link (f : UpFrame)
  | bus (f : BusFrame)
  | display (m : PanelMessage)
  deriving DecidableEq, Repr

end Sys2Proof.Machine
end

