-- ==== Sys2Proof/Syntax.lean ====
section
/-! DEFINITION. The commands of the controller, one constructor per row of spec/opcode_table.json.
A request's operands are the fields of R138 in payload order, each as the number its bytes spell, after the tag. -/

namespace Sys2Proof

/-- The record of a TABLE_WRITE as it stands in the payload (R168): enumerations and yes/no values are the
numbers sent; S, F and O are the signed values of their two bytes. -/
inductive TableRecord where
  | layout (populated cls feed power : Nat)
  | profile (setpoint floor overheat : Int) (cold warn gain base : Nat)
  | feed (normal shed force : Nat)
  deriving DecidableEq, Repr

/-- One command. The rule each row belongs to is the one opcode_table.json names. -/
inductive Instr where
  -- requests of class ORDER
  | book (tag order code cls profile budget deadline : Nat)
  | cancel (tag order : Nat)
  | extend (tag order seconds : Nat)
  | loadOpen (tag order : Nat)
  | release (tag order : Nat)
  | clear (tag order : Nat)
  | queryOrder (tag order : Nat)
  -- requests of class MODULE
  | lamp (tag locker pattern : Nat)
  | label (tag locker : Nat) (text : List Byte)
  | moduleWrite (tag locker item value : Nat)
  | moduleRead (tag locker item : Nat)
  | abort (tag target : Nat)
  -- requests of class MGMT
  | tableRead (tag table index : Nat)
  | tableWrite (tag index : Nat) (record : TableRecord)
  | paramGet (tag param : Nat)
  | paramSet (tag param value : Nat)
  | store (tag : Nat)
  | rescan (tag : Nat)
  | bankReset (tag : Nat)
  | serviceOn (tag locker : Nat)
  | serviceOff (tag locker : Nat)
  | serviceUnlatch (tag locker door : Nat)
  | clearLocker (tag locker : Nat)
  | status (tag : Nat)
  | restart (tag : Nat)
  -- events of the concourse link
  | receiveByte (byte : Byte)
  | gapTimerExpiry
  | silenceTimerExpiry
  | transmitEnd
  -- events of the panel
  | scan (chars : List Nat)
  | windowTimerExpiry
  | lockoutTimerExpiry
  -- power and the controller's own timers
  | powerOn (shed0 shed1 shed2 shed3 : Bool)
  | holdTick
  | frameStart (shed0 shed1 shed2 shed3 : Bool)
  | pollGapTimerExpiry
  | doorHeld (locker : Nat)
  | pulseEnd
  | quietEnd
  | storeEnd (readBackGood : Bool)
  -- events of the bank bus
  | replyReceived (frame : List Byte)
  | replyTimeout
  | broadcastEnd
  deriving DecidableEq, Repr

end Sys2Proof
end

