-- ==== Sys2Proof/Machine/State.lean ====
section
/-! DEFINITION. The state of the controller, grouped by the unit that owns each part (00_scope.md, Blocks), the
reasons a step can stop, and the state right after power-on. -/

namespace Sys2Proof.Machine

/-- Link Interface (R132). Timers are `none` while stopped, else the milliseconds elapsed. -/
structure Lki where
  rx : RxFramer
  gapTimer : Option Nat
  tx : Option UpFrame
  answerQ : List Answer
  placesHeld : Nat
  reportQ : List Report
  lostReports : Nat
  silenceTimer : Option Nat
  island : Bool
  islandStart : Option Nat
  errors : LinkErrors
  islandEntries : Nat
  deriving DecidableEq, Repr

/-- Transaction Unit (R112 to R115, R124, R127). -/
structure Txu where
  table : List Entry
  posted : List Posted
  nextSeq : Nat
  recent : List Nat
  longOp : Option LongOp
  postedLost : Nat
  deriving DecidableEq, Repr

/-- Bank Bus Master (R89). `pollGap` holds the elapsed milliseconds and the length the gap started with (R99);
`lineMs` the milliseconds in the present line state (R108). -/
structure Bbm where
  exchange : Option Exchange
  lastWinner : Winner
  mapState : MapState
  cycle : PollCycle
  cursor : Nat
  pollGap : Option (Nat × Nat)
  line : ResetLine
  lineMs : Nat
  failedExchanges : Nat
  failedPolls : Nat
  deriving DecidableEq, Repr

/-- Locker Table Unit: the 48 records (R6) and the discovery state (R187). -/
structure Ltu where
  lockers : Vector Locker 48
  discovery : Option Discovery
  probeCursor : Nat
  probing : Option Nat
  answered : Nat
  deriving DecidableEq, Repr

/-- Order Unit (R30 to R35). -/
structure Oru where
  orders : List Order
  codeMap : List (Nat × Nat)
  queue : List Nat
  freeSmall : List Nat
  freeMedium : List Nat
  freeLarge : List Nat
  deriving DecidableEq, Repr

/-- Hold Accounting Unit (R56). The hold fields of an order stand in its record (R55). -/
structure Hau where
  tickTimer : Option Nat
  deriving DecidableEq, Repr

/-- Heater Arbiter (R68). `shed` is true for SHED. `rotation` holds place `3 * feed + tier - 1`. -/
structure Hta where
  frameTimer : Option Nat
  budgets : Vector Nat 4
  shed : Vector Bool 4
  rotation : Vector Nat 12
  heatMap : Vector (List Nat) 48
  deriving DecidableEq, Repr

/-- Panel Interface (R154). -/
structure Pni where
  unknownCount : Nat
  windowTimer : Option Nat
  lockoutTimer : Option Nat
  releases : List (Nat × Nat)
  deriving DecidableEq, Repr

/-- Settings Store (R165). `target` is the copy a running STORE writes and its generation (R182). -/
structure Sst where
  working : Settings
  strictHold : Bool
  copyA : Option StoreCopy
  copyB : Option StoreCopy
  busy : Bool
  snapshot : Option Settings
  target : Option (StoreSide × Nat)
  source : SettingsSource
  deriving DecidableEq, Repr

/-- The whole controller. `pending` is the queue of commands that wait, first in, first out. `ports` is what the
last command put on the outputs (log entry 8). `upMs` counts milliseconds since power-on (R186). `shedLines` are
the levels of SHED0..SHED3 (R70), true for asserted. -/
structure State where
  pending : List Instr
  ports : List PortEvent
  upMs : Nat
  shedLines : Vector Bool 4
  lki : Lki
  txu : Txu
  bbm : Bbm
  ltu : Ltu
  oru : Oru
  hau : Hau
  hta : Hta
  pni : Pni
  sst : Sst
  deriving DecidableEq, Repr

/-- Reasons a step can stop with a fault. There is none: the controller has no exception and no halt, every
command changes the state or leaves it (INVENTORY.md, Faults). -/
inductive Fault where
  deriving DecidableEq, Repr

/-- Reasons a command is refused by the model. -/
inductive Refusal where
  /-- Raised by an arm of `exec` whose command has no meaning yet. Safe: the model stops where the part goes on. -/
  | notModelled (mnemonic : String)
  deriving DecidableEq, Repr

/-- The record of a populated locker right after power-on with factory settings: OFFLINE with no resume phase,
every other field at its power-on value (R6, R184). -/
def Locker.factoryReset (n : Nat) : Locker :=
  { Locker.blank with populated := true, cls := .medium, feed := n / 12, power := 300, phase := .offline }

/-- Right after power-on (R186) with a store that has never been written (log entry 9): every unit at its power-on
values, factory settings loaded, discovery of kind POWER_ON in stage RESET and the bank reset line in PULSE. -/
def State.reset : State where
  pending := []
  ports := []
  upMs := 0
  shedLines := vinit 4 fun _ => false
  lki :=
    { rx := .hunt, gapTimer := none, tx := none, answerQ := [], placesHeld := 0, reportQ := [], lostReports := 0,
      silenceTimer := none, island := false, islandStart := none, errors := ⟨0, 0, 0, 0, 0, 0⟩, islandEntries := 0 }
  txu :=
    { table := [], posted := [], nextSeq := 0, recent := [], longOp := some ⟨.powerOnDiscovery, none⟩,
      postedLost := 0 }
  bbm :=
    { exchange := none, lastWinner := .poll, mapState := .none, cycle := .stopped, cursor := 0, pollGap := none,
      line := .pulse, lineMs := 0, failedExchanges := 0, failedPolls := 0 }
  ltu :=
    { lockers := vinit 48 Locker.factoryReset, discovery := some ⟨.powerOn, .reset⟩, probeCursor := 0,
      probing := none, answered := 0 }
  oru := { orders := [], codeMap := [], queue := [], freeSmall := [], freeMedium := [], freeLarge := [] }
  hau := { tickTimer := none }
  hta :=
    { frameTimer := none, budgets := vinit 4 fun _ => 0, shed := vinit 4 fun _ => false,
      rotation := vinit 12 fun _ => 0, heatMap := vinit 48 fun _ => [] }
  pni := { unknownCount := 0, windowTimer := none, lockoutTimer := none, releases := [] }
  sst :=
    { working := Settings.factory, strictHold := false, copyA := none, copyB := none, busy := false,
      snapshot := none, target := none, source := .factory }

end Sys2Proof.Machine
end

