-- ==== Sys2Proof/Machine/Ops.lean ====
section
/-! DEFINITION. The named operations every unit uses: reading and writing one locker record, one order, one table
entry of the settings; letting time pass; the fields that change on entering and leaving a phase (R7). -/

namespace Sys2Proof.Machine

/-! ### Reading and writing -/

/-- The record of locker `n`; a blank record for a number that names no locker. -/
def State.locker (s : State) (n : Nat) : Locker := vget s.ltu.lockers n Locker.blank

def State.setLocker (s : State) (n : Nat) (l : Locker) : State :=
  { s with ltu := { s.ltu with lockers := vset s.ltu.lockers n l } }

def State.modLocker (s : State) (n : Nat) (f : Locker → Locker) : State := s.setLocker n (f (s.locker n))

/-- Records are found by order id (2.1). -/
def State.order? (s : State) (id : Nat) : Option Order := s.oru.orders.find? fun o => o.id == id

def State.modOrder (s : State) (id : Nat) (f : Order → Order) : State :=
  { s with oru := { s.oru with orders := s.oru.orders.map fun o => if o.id == id then f o else o } }

def State.freeList (s : State) : SizeClass → List Nat
  | .small => s.oru.freeSmall | .medium => s.oru.freeMedium | .large => s.oru.freeLarge

def State.setFreeList (s : State) (c : SizeClass) (q : List Nat) : State :=
  match c with
  | .small => { s with oru := { s.oru with freeSmall := q } }
  | .medium => { s with oru := { s.oru with freeMedium := q } }
  | .large => { s with oru := { s.oru with freeLarge := q } }

def State.params (s : State) : Params := s.sst.working.params

def State.setParams (s : State) (p : Params) : State :=
  { s with sst := { s.sst with working := { s.sst.working with params := p } } }

/-- Profile `i` of the working profile table (R54). -/
def State.profile (s : State) (i : Nat) : Profile := vget s.sst.working.profiles i Profile.factory

def State.feedEntry (s : State) (f : Nat) : FeedEntry := vget s.sst.working.feeds f ⟨0, 0, false⟩

def State.layoutEntry (s : State) (n : Nat) : LayoutEntry :=
  vget s.sst.working.layout n ⟨false, .medium, 0, 50⟩

/-- The discovery flag (R187): "discovery in progress" in every chapter. -/
def State.discovering (s : State) : Bool := s.ltu.discovery.isSome

/-- A command's state with the outputs of the command before it taken away (log entry 8). -/
def State.clearPorts (s : State) : State := { s with ports := [] }

def State.emit (s : State) (e : PortEvent) : State := { s with ports := s.ports ++ [e] }

/-- The shed lines take the levels given (R70, R73). -/
def State.setShedLines (l0 l1 l2 l3 : Bool) (s : State) : State := { s with shedLines := #v[l0, l1, l2, l3] }

/-! ### Time -/

/-- Uptime in seconds, as reports carry it (00_scope.md, Time); a free value past 32 bits (log entry 11). -/
def uptimeOfSeconds (sec : Nat) : Nat :=
  if sec < 4294967296 then sec else (Config.uptimePastEnd sec).toNat

def State.uptimeSeconds (s : State) : Nat := s.upMs / 1000

def State.uptime (s : State) : Nat := uptimeOfSeconds s.uptimeSeconds

/-- A running timer `d` ms later, holding at `cap`. -/
def timerAfter (cap d : Nat) (t : Option Nat) : Option Nat := t.map fun e => satAdd cap e d

/-- The timers of a locker record `d` ms later: the sample age grows in every phase and stops at 65,535 (R3); the
transient timer grows while it runs and stops at its maximum (R19, 1.1). -/
def Locker.after (d : Nat) (l : Locker) : Locker :=
  { l with
    sampleAge := satAdd 65535 l.sampleAge d
    transientTimer :=
      match l.phase with
      | .loading | .pickup | .clearing => timerAfter 4294967295 d l.transientTimer
      | _ => l.transientTimer }

/-- `d` ms pass (log entries 1 and 2). Each running timer grows and holds at the end of its period, where its expiry
command takes it up. The silence timer has no end of its own (R145). -/
def State.elapse (d : Nat) (s : State) : State :=
  { s with
    upMs := s.upMs + d
    lki :=
      { s.lki with
        gapTimer := timerAfter 5 d s.lki.gapTimer
        silenceTimer := s.lki.silenceTimer.map (· + d) }
    bbm :=
      { s.bbm with
        pollGap := s.bbm.pollGap.map fun g => (satAdd g.2 g.1 d, g.2)
        lineMs :=
          match s.bbm.line with
          | .idle => s.bbm.lineMs
          | .pulse => satAdd 100 s.bbm.lineMs d
          | .quiet => satAdd 500 s.bbm.lineMs d }
    ltu := { s.ltu with lockers := vinit 48 fun n => (s.locker n).after d }
    hau := { s.hau with tickTimer := timerAfter 1000 d s.hau.tickTimer }
    hta := { s.hta with frameTimer := timerAfter 1999 d s.hta.frameTimer }
    pni :=
      { s.pni with
        windowTimer := timerAfter 60000 d s.pni.windowTimer
        lockoutTimer := timerAfter 30000 d s.pni.lockoutTimer } }

/-! ### Phases (R7) -/

/-- The watched door of a transient phase (R4). -/
def Phase.watched : Phase → Option Door
  | .loading | .clearing => some .k
  | .pickup => some .c
  | _ => none

/-- The fields that become absent on leaving a phase (R7). -/
def Locker.leave (l : Locker) : Locker :=
  match l.phase with
  | .loading | .pickup => { l with openedNoted := none, transientTimer := none, doorHeld := none }
  | .clearing => { l with openedNoted := none, transientTimer := none, doorHeld := none, clearOrigin := none }
  | .purging => { l with purgeProgress := none, purgeSuspended := none }
  | .offline => { l with resume := none }
  | _ => l

/-- The fields set on entering phase `p` (R7). OFFLINE is entered with no resume phase; the rules of R27 give it one
afterwards. -/
def Locker.arrive (p : Phase) (l : Locker) : Locker :=
  match p with
  | .loading | .pickup | .clearing =>
    { l with
      phase := p, openedNoted := some false, transientTimer := some 0, doorHeld := some false,
      unlatchPending := p.watched }
  | .purging => { l with phase := p, orderRef := none, purgeProgress := some 0, purgeSuspended := some false }
  | .offline => { l with phase := p, resume := none }
  | _ => { l with phase := p }

/-- A change of phase: the fields of R7 for the phase left, then for the phase entered. -/
def Locker.enter (p : Phase) (l : Locker) : Locker := l.leave.arrive p

end Sys2Proof.Machine
end

