-- ==== Sys2Proof/Machine/Flags.lean ====
section
/-! DEFINITION. The conditions the rules test: freshness of a sample, the door interlock, the fence, agreement of
phase and occupancy, the order's state of loading, whether the bus is free. -/

namespace Sys2Proof.Machine

/-- The sample if it is fresh: present, at most SAMPLE_STALE_S old, and the locker not OFFLINE (R58). -/
def freshSample (s : State) (l : Locker) : Option Int :=
  if l.phase = .offline ∨ s.params.sampleStaleS * 1000 < l.sampleAge then none else l.sample

/-- The interlock of R9 for door `d`: the other door LATCHED, no unlatch pending, the phase not OFFLINE. -/
def interlockHolds (l : Locker) (d : Door) : Bool :=
  decide (l.door d.other = .latched) && l.unlatchPending.isNone && decide (l.phase ≠ .offline)

/-- Whether side and count of the fence parameters cover locker `n`, reversed under FENCE_INVERT (R2). -/
def fenceCovers (p : Params) (n : Nat) : Bool :=
  let inside := if p.fenceHigh then decide (48 - p.fenceCount ≤ n) else decide (n < p.fenceCount)
  if p.fenceInvert then !inside else inside

def bothLatched (l : Locker) : Bool := decide (l.kDoor = .latched) && decide (l.cDoor = .latched)

/-- The phases that last until the watched door is latched again (1.2). -/
def Phase.transient (p : Phase) : Bool := p.watched.isSome

/-- The occupancy a phase calls for, where it calls for one (R22, R28). -/
def Phase.expects : Phase → Option Occupancy
  | .free | .reserved | .purging => some .empty
  | .holding | .condemned => some .occupied
  | _ => none

/-- Whether an occupancy agrees with a phase (R28: QUARANTINE and SERVICE agree with either). -/
def Phase.agrees (p : Phase) (o : Occupancy) : Bool :=
  match p.expects with | some e => decide (e = o) | none => true

/-- Not yet loaded (R47): no hold fields yet. -/
def Order.loaded (o : Order) : Bool := o.hold.isSome

/-- The order a locker refers to, as ORU holds it. -/
def heldOrder (s : State) (l : Locker) : Option Order := l.orderRef.bind s.order?

/-- Whether the order a locker refers to is condemned. -/
def orderCondemned (s : State) (l : Locker) : Bool :=
  match heldOrder s l with | some o => o.condemned.isSome | none => false

/-- The bus is free when no exchange is in flight and the line state is IDLE (R95). -/
def busFree (s : State) : Bool := s.bbm.exchange.isNone && decide (s.bbm.line = .idle)

/-- The panel is locked out while the lockout timer runs (R154). -/
def lockedOut (s : State) : Bool := s.pni.lockoutTimer.isSome

/-- Whether reports of a group are enabled; ORDER and SYSTEM always are (R141, R174). -/
def groupEnabled (p : Params) : Group → Bool
  | .order | .system => true
  | .locker => p.reportMask.testBit 0
  | .thermal => p.reportMask.testBit 1
  | .power => p.reportMask.testBit 2
  | .panel => p.reportMask.testBit 3

end Sys2Proof.Machine
end

