-- ==== Sys2Proof/Machine/Link.lean ====
section
/-! DEFINITION. The Link Interface's shared operations (chapter 07): submitting a report, producing an answer, the
transmit framer's choice, discarding a frame, and what the completion of a valid frame does. -/

namespace Sys2Proof.Machine

def State.withLki (s : State) (l : Lki) : State := { s with lki := l }

/-! ### Reports (7.6) -/

/-- The queue without its oldest report of a maskable group, if it holds one (R143). -/
def dropOldestMaskable : List Report → Option (List Report)
  | [] => none
  | r :: rest => if r.kind.group.maskable then some rest else (dropOldestMaskable rest).map (r :: ·)

/-- A stamped report joins the queue, or a full queue decides by R143. -/
def enqueueReport (r : Report) (l : Lki) : Lki :=
  if l.reportQ.length < 32 then { l with reportQ := l.reportQ ++ [r] }
  else if r.kind.group.maskable then { l with lostReports := satAdd 65535 l.lostReports 1 }
  else
    match dropOldestMaskable l.reportQ with
    | some q => { l with reportQ := q ++ [r], lostReports := satAdd 65535 l.lostReports 1 }
    | none => { l with lostReports := satAdd 65535 l.lostReports 1 }

/-- A unit submits a report: masked, queued or lost (R142, R143). Its frame's tag byte is `tag` (R150). -/
def submitTagged (tag : Nat) (k : ReportKind) (fields : List Field) (s : State) : State :=
  if groupEnabled s.params k.group then s.withLki (enqueueReport ⟨k, s.uptime, tag, fields⟩ s.lki) else s

/-- A report other than DONE has 0 in its tag byte (R150). -/
def submit (k : ReportKind) (fields : List Field) (s : State) : State := submitTagged 0 k fields s

/-- REPORTS_LOST carrying the lost-report count, which returns to 0; nothing when the count is 0 (R144, R148). -/
def submitReportsLost (s : State) : State :=
  if s.lki.lostReports = 0 then s
  else
    let s' := submit .reportsLost [.b2 s.lki.lostReports] s
    s'.withLki { s'.lki with lostReports := 0 }

/-! ### Answers (7.5) -/

/-- An answer joins the tail of the answer queue, in the place held for it (R139). -/
def answer (k : Kind) (tag : Nat) (st : Status) (body : List Field) (s : State) : State :=
  s.withLki { s.lki with answerQ := s.lki.answerQ ++ [⟨k, tag, st, body⟩] }

/-- The transmit framer begins a frame. -/
def beginTransmit (f : UpFrame) (s : State) : State :=
  (s.withLki { s.lki with tx := some f }).emit (.link f)

/-- The transmit framer's choice (R140), made when it is IDLE: nothing during island; else the answer at the head,
whose place is released; else the report at the head, which queues REPORTS_LOST if reports were lost (R144). -/
def chooseTransmit (s : State) : State :=
  if s.lki.tx.isSome || s.lki.island then s
  else
    match s.lki.answerQ with
    | a :: rest =>
      beginTransmit (.answer a) (s.withLki { s.lki with answerQ := rest, placesHeld := s.lki.placesHeld - 1 })
    | [] =>
      match s.lki.reportQ with
      | r :: rest => submitReportsLost (beginTransmit (.report r) (s.withLki { s.lki with reportQ := rest }))
      | [] => s

/-! ### Taking a frame (7.2, 7.3) -/

def LinkErrors.count (e : LinkErrors) (c : LinkError) : LinkErrors :=
  let e := { e with total := satAdd 65535 e.total 1 }
  match c with
  | .length => { e with length := satAdd 65535 e.length 1 }
  | .gap => { e with gap := satAdd 65535 e.gap 1 }
  | .crc => { e with crc := satAdd 65535 e.crc 1 }
  | .cls => { e with cls := satAdd 65535 e.cls 1 }
  | .overrun => { e with overrun := satAdd 65535 e.overrun 1 }

/-- A frame is dropped and its cause counted (R135). -/
def discardFrame (c : LinkError) (s : State) : State :=
  s.withLki { s.lki with errors := s.lki.errors.count c }

/-- What the completion of any valid frame does before it is taken: the silence timer restarts where it runs
(R145: stopped until the first STARTED report), island ends with ISLAND_END (R147). -/
def hearValidFrame (s : State) : State :=
  let s := s.withLki { s.lki with silenceTimer := s.lki.silenceTimer.map fun _ => 0 }
  if s.lki.island then
    let start := s.lki.islandStart.getD 0
    let s := s.withLki { s.lki with island := false, islandStart := none }
    submit .islandEnd [.b4 (uptimeOfSeconds start), .b4 (uptimeOfSeconds (s.uptimeSeconds - start))] s
  else s

/-- The state in which a valid frame has been heard: the outputs of the command before it taken away, the silence
timer restarted, island ended (R134). -/
def State.heard (s : State) : State := hearValidFrame s.clearPorts

/-- The state in which a request is served: its frame heard, and an answer place held for it (R136). -/
def State.accepted (s : State) : State :=
  s.heard.withLki { s.heard.lki with placesHeld := s.heard.lki.placesHeld + 1 }

/-- A valid frame is complete: it is heard; with a free place it is taken as a request and served, with none it is
discarded for OVERRUN (R136); the transmit framer then chooses (R140, R147). -/
def takeRequest (serve : State → State) (s : State) : State :=
  if 32 ≤ s.heard.lki.placesHeld then chooseTransmit (discardFrame .overrun s.heard)
  else chooseTransmit (serve s.accepted)

/-! ### Class bytes and kind numbers (R138, R150) -/

def clsOrder : Nat := 0x10
def clsModule : Nat := 0x11
def clsMgmt : Nat := 0x12

def kBook : Kind := ⟨clsOrder, 1⟩
def kCancel : Kind := ⟨clsOrder, 2⟩
def kExtend : Kind := ⟨clsOrder, 3⟩
def kLoadOpen : Kind := ⟨clsOrder, 4⟩
def kRelease : Kind := ⟨clsOrder, 5⟩
def kClear : Kind := ⟨clsOrder, 6⟩
def kQueryOrder : Kind := ⟨clsOrder, 7⟩
def kLamp : Kind := ⟨clsModule, 1⟩
def kLabel : Kind := ⟨clsModule, 2⟩
def kModuleWrite : Kind := ⟨clsModule, 3⟩
def kModuleRead : Kind := ⟨clsModule, 4⟩
def kAbort : Kind := ⟨clsModule, 5⟩
def kTableRead : Kind := ⟨clsMgmt, 1⟩
def kTableWrite : Kind := ⟨clsMgmt, 2⟩
def kParamGet : Kind := ⟨clsMgmt, 3⟩
def kParamSet : Kind := ⟨clsMgmt, 4⟩
def kStore : Kind := ⟨clsMgmt, 5⟩
def kRescan : Kind := ⟨clsMgmt, 6⟩
def kBankReset : Kind := ⟨clsMgmt, 7⟩
def kServiceOn : Kind := ⟨clsMgmt, 8⟩
def kServiceOff : Kind := ⟨clsMgmt, 9⟩
def kServiceUnlatch : Kind := ⟨clsMgmt, 10⟩
def kClearLocker : Kind := ⟨clsMgmt, 11⟩
def kStatus : Kind := ⟨clsMgmt, 12⟩
def kRestart : Kind := ⟨clsMgmt, 13⟩

/-- The kind of the request that made a server entry, for its answer (R122, R139). A panel release has none and is
never answered on the link (R119). -/
def CmdRequest.kind : CmdRequest → Kind
  | .loadOpen => kLoadOpen | .release => kRelease | .clear => kClear | .clearLocker => kClearLocker
  | .serviceUnlatch => kServiceUnlatch | .moduleRead => kModuleRead | .panelRelease => kRelease

end Sys2Proof.Machine
end

