-- ==== Sys2Proof/Machine/Orders.lean ====
section
/-! DEFINITION. The Order Unit's shared operations (chapter 02): the free lists, placement, the offer of a free
locker, the pending sweep, allocation, condemnation and removal. -/

namespace Sys2Proof.Machine

/-! ### Free lists (2.4) -/

/-- "Left FREE": the locker leaves its class's list wherever it stands (R35). -/
def leftFree (c : SizeClass) (n : Nat) (s : State) : State :=
  s.setFreeList c ((s.freeList c).filter fun m => m != n)

def appendFree (c : SizeClass) (n : Nat) (s : State) : State := s.setFreeList c (s.freeList c ++ [n])

/-- The first locker a booking of class `c` would get: the head of its own list, else under UPSIZE the head of the
first larger list that is not empty (R40). -/
def allocate (s : State) (c : SizeClass) : Option Nat :=
  match s.freeList c with
  | n :: _ => some n
  | [] => if s.params.upsize then c.larger.findSome? fun k => (s.freeList k).head? else none

/-! ### Placement (R41) -/

/-- Position of an order in the pending queue, 1 for the head (2.5). -/
def queuePosition (s : State) (id : Nat) : Nat := s.oru.queue.idxOf id + 1

def leaveQueue (id : Nat) (s : State) : State :=
  { s with oru := { s.oru with queue := s.oru.queue.filter fun i => i != id } }

/-- LTU reserves the locker: its order reference names the order and it goes from FREE to RESERVED (R41). -/
def Locker.reserve (id : Nat) (l : Locker) : Locker := { l.enter .reserved with orderRef := some id }

/-- An order of the table and a locker are joined: the locker off its free list, the order PLACED with reserved age
0 and late-reported clear, out of the pending queue, the locker RESERVED (R41, R31). -/
def join (id n : Nat) (s : State) : State :=
  let s := leftFree (s.locker n).cls n s
  let s := leaveQueue id (s.modOrder id fun o => { o with status := .placed n 0 false })
  s.modLocker n (Locker.reserve id)

/-- The placement of a pending order: joined, and ASSIGNED with the pending age it had (R41, R51). -/
def placePending (o : Order) (n : Nat) (s : State) : State :=
  let age := match o.status with | .pending a => a | .placed .. => 0
  submit .assigned [.b4 o.id, .b1 n, .b1 (s.locker n).cls.code, .b2 age] (join o.id n s)

/-- Whether a locker of class `c` may take an order of class `k` (R43). -/
def eligible (upsize : Bool) (c k : SizeClass) : Bool :=
  decide (k = c) || (upsize && decide (c ∈ k.larger))

/-- "Became FREE": an unfenced locker is offered to the pending queue, one walk from its head, and joins the tail of
its class's list if no order takes it; a fenced one joins nothing (R35, R43). -/
def becameFree (n : Nat) (s : State) : State :=
  let l := s.locker n
  if l.fenced then s
  else
    match (s.oru.queue.filterMap s.order?).find? fun o => eligible s.params.upsize l.cls o.cls with
    | some o => placePending o n s
    | none => appendFree l.cls n s

/-- The pending sweep over the ids of the queue as it stood (R37). -/
def sweepOver : List Nat → State → State
  | [], s => s
  | id :: rest, s =>
    match s.order? id with
    | some o =>
      match allocate s o.cls with
      | some n => sweepOver rest (placePending o n s)
      | none => sweepOver rest s
    | none => sweepOver rest s

def pendingSweep (s : State) : State := sweepOver s.oru.queue s

/-- A fence recomputation changed FREE lockers: the newly fenced leave their lists, the newly unfenced join the tail
of theirs, and the sweep runs where both the second list and the queue are not empty (R36). -/
def fenceChanged (fenced unfenced : List Nat) (s : State) : State :=
  let s := fenced.foldl (fun s n => leftFree (s.locker n).cls n s) s
  let s := unfenced.foldl (fun s n => appendFree (s.locker n).cls n s) s
  if unfenced ≠ [] ∧ s.oru.queue ≠ [] then pendingSweep s else s

/-! ### Condemnation and removal (2.10) -/

/-- The notice of a condemnation at LTU, by the locker's phase (R23). -/
def Locker.condemnNotice (l : Locker) : Locker :=
  if l.phase = .holding then l.enter .condemned
  else if l.phase = .offline ∧ l.resume = some .holding then { l with resume := some .condemned }
  else l

/-- A condemnation request: dropped for an unknown order; an order already condemned keeps its cause; otherwise the
cause is set, CONDEMNED is reported and LTU gets the notice (R48). -/
def condemn (id : Nat) (cause : Cause) (s : State) : State :=
  match s.order? id with
  | none => s
  | some o =>
    if o.condemned.isSome then s
    else
      let s := s.modOrder id fun o => { o with condemned := some cause }
      let s := submit .condemned [.b4 id, .b1 cause.code, .opt1 o.locker] s
      match o.locker with
      | some n => s.modLocker n Locker.condemnNotice
      | none => s

/-- Removal: the order leaves the pending queue and the code map, a placed order's locker loses its order
reference, the record leaves the table (R49). -/
def removeOrder (id : Nat) (s : State) : State :=
  let s :=
    match (s.order? id).bind Order.locker with
    | some n => s.modLocker n fun l => { l with orderRef := none }
    | none => s
  let s := leaveQueue id s
  { s with
    oru :=
      { s.oru with
        codeMap := s.oru.codeMap.filter fun e => e.2 != id
        orders := s.oru.orders.filter fun o => o.id != id } }

/-- The withdrawal of the order of a locker that enters QUARANTINE: condemned with cause LOST unless condemned
already, then removed (R22, R28, R49). -/
def withdrawLost (id : Nat) (s : State) : State := removeOrder id (condemn id .lost s)

end Sys2Proof.Machine
end

