-- ==== Sys2Proof/Machine/Lockers.lean ====
section
/-! DEFINITION. The Locker Table Unit's shared operations (chapter 01): changes of phase with their notices, door
requests and their recheck, the end of a door command, storing an observation and the five steps that follow it,
faults, going OFFLINE and returning. -/

namespace Sys2Proof.Machine

/-! ### Changes of phase (R7) -/

/-- A locker changes phase; ORU is told when it leaves FREE (R7, R35). The notice of entering FREE is `announceFree`,
given after the report of the rule that frees the locker (log entry 13). -/
def moveTo (p : Phase) (n : Nat) (s : State) : State :=
  let l := s.locker n
  let s' := s.setLocker n (l.enter p)
  if l.phase = .free then leftFree l.cls n s' else s'

/-- The phase a rule's FREE or PURGING comes to: SERVICE while heater excluded is set (R21). -/
def redirect (l : Locker) (p : Phase) : Phase :=
  if l.heaterExcluded ∧ (p = .free ∨ p = .purging) then .service else p

/-- A change of phase under the redirection of R21. -/
def moveToUnlessExcluded (p : Phase) (n : Nat) (s : State) : State := moveTo (redirect (s.locker n) p) n s

/-- ORU is told that the locker became FREE, if it did (R7, R35). -/
def announceFree (n : Nat) (s : State) : State :=
  if (s.locker n).phase = .free then becameFree n s else s

/-! ### Door requests (1.3) -/

/-- The phase a door command entered at acceptance (1.3); none for SERVICE_UNLATCH. -/
def CmdRequest.phase : CmdRequest → Option Phase
  | .loadOpen => some .loading
  | .release | .panelRelease => some .pickup
  | .clear | .clearLocker => some .clearing
  | .serviceUnlatch | .moduleRead => none

def CmdRequest.isUnlatch : CmdRequest → Bool
  | .moduleRead => false
  | _ => true

/-- LTU's checks of LOAD_OPEN, in order (R13); none when all pass. -/
def checkLoadOpen (l : Locker) : Option Status :=
  if l.phase = .offline then some .offline
  else if l.phase ≠ .reserved then some .wrongPhase
  else if l.fenced then some .fenced
  else if interlockHolds l .k then none else some .interlock

/-- LTU's checks of RELEASE and of a panel release, in order (R15). -/
def checkRelease (s : State) (l : Locker) : Option Status :=
  if orderCondemned s l then some .tooLate
  else if l.phase = .offline then some .offline
  else if l.phase ≠ .holding then some .wrongPhase
  else if interlockHolds l .c then none else some .interlock

/-- LTU's checks of CLEAR, in order (R17). -/
def checkClear (l : Locker) : Option Status :=
  if l.phase = .offline then some .offline
  else if l.phase ≠ .condemned then some .wrongPhase
  else if interlockHolds l .k then none else some .interlock

/-- LTU's checks of CLEAR_LOCKER, in order (R17). -/
def checkClearLocker (l : Locker) : Option Status :=
  if l.phase = .offline then some .offline
  else if l.phase = .quarantine ∨ (l.phase = .service ∧ l.orderRef.isSome) then
    if interlockHolds l .k then none else some .interlock
  else some .wrongPhase

/-- LTU's checks of SERVICE_UNLATCH, in order (R26; an OFFLINE locker: log entry 18). -/
def checkServiceUnlatch (l : Locker) (d : Door) : Option Status :=
  if l.phase ≠ .service then some .wrongPhase
  else if d = .c ∧ l.orderRef.isSome then some .tooLate
  else if interlockHolds l d then none else some .interlock

/-- CLEARING with the phase it was entered from (R17). -/
def enterClearing (n : Nat) (s : State) : State :=
  s.modLocker n fun l => { l.enter .clearing with clearOrigin := some l.phase }

/-- The recheck of a door unlatch that wins the bus; none when the exchange may be sent (R11). A panel release whose
order a door fault condemned finds its locker in SERVICE and ends WRONG_PHASE, by R20 and R11 and not by the first row
of R160's table, the model's choice (log entry 32). -/
def recheck (e : Entry) (s : State) : Option CmdOutcome :=
  let l := s.locker e.locker
  let d := e.door.getD .k
  if l.phase = .offline then some .offline
  else if l.phase ≠ e.request.phase.getD .service then some .wrongPhase
  else if d = .c ∧ orderCondemned s l then some .tooLate
  else if l.door d.other ≠ .latched then some .interlock
  else none

/-- The phase a reservation reverts to (R12). -/
def revertPhase (s : State) (l : Locker) : Phase :=
  match l.phase with
  | .loading => .reserved
  | .pickup => if orderCondemned s l then .condemned else .holding
  | .clearing => l.clearOrigin.getD .quarantine
  | p => p

/-! ### Faults and OFFLINE (1.7, 1.11) -/

/-- What a DOOR_FAULT names (R29), in the order R20 lists the findings (log entry 14). -/
inductive Finding where | bothUnlatched | latchFault | occupancyFault
  deriving DecidableEq, Repr

def Finding.code : Finding → Nat | .bothUnlatched => 0 | .latchFault => 1 | .occupancyFault => 2

/-- A door fault in the record as the reply has just set it (R20). -/
def doorFinding (l : Locker) : Option Finding :=
  if l.kDoor ≠ .latched ∧ l.cDoor ≠ .latched then some .bothUnlatched
  else if l.fault = .latchFault then some .latchFault
  else if l.fault = .occupancyFault then some .occupancyFault
  else none

/-- A door fault takes the locker to SERVICE, reports DOOR_FAULT and condemns its order with cause FAULT; nothing in
ABSENT or SERVICE (R20). -/
def doorFault (n : Nat) (f : Finding) (s : State) : State :=
  let l := s.locker n
  if l.phase = .absent ∨ l.phase = .service then s
  else
    let s := moveTo .service n s
    let s := submit .doorFault [.b1 n, .b1 f.code, .orderId l.orderRef] s
    match l.orderRef with
    | some id => condemn id .fault s
    | none => s

/-- The heater excluded flag is set, with MODULE_FAULT when it was clear (R21). -/
def setExcluded (n : Nat) (s : State) : State :=
  if (s.locker n).heaterExcluded then s
  else
    let s := s.modLocker n fun l => { l with heaterExcluded := true }
    submit .moduleFault [.b1 n, .b1 FaultCode.heaterFault.code] s

/-- A heater finding in a good reply: HEATER_FAULT, or heater on with no slot granted under an after-map mark
(R21). -/
def heaterFinding (l : Locker) (heaterOn mark : Bool) : Bool :=
  decide (l.fault = .heaterFault) || (heaterOn && mark && decide (l.granted = 0))

/-- The heater fault check of a poll: the flag, and SERVICE for a FREE or PURGING locker (R21). -/
def heaterCheck (n : Nat) (heaterOn mark : Bool) (s : State) : State :=
  if heaterFinding (s.locker n) heaterOn mark ∧ (s.locker n).heaterExcluded = false then
    let s := setExcluded n s
    if (s.locker n).phase = .free ∨ (s.locker n).phase = .purging then moveTo .service n s else s
  else s

/-- The resume phase on going OFFLINE (R27). -/
def resumeOf (s : State) (l : Locker) : Option Phase :=
  match l.phase with
  | .free => some .free
  | .reserved | .loading => some .reserved
  | .holding => some .holding
  | .pickup => some (if orderCondemned s l then .condemned else .holding)
  | .condemned => some .condemned
  | .clearing => l.clearOrigin
  | .purging => some .purging
  | .quarantine => some .quarantine
  | .service => some .service
  | .offline => l.resume
  | .absent => none

/-- Why a locker goes OFFLINE (R27). -/
inductive OfflineCause where | polls | command
  deriving DecidableEq, Repr

def OfflineCause.code : OfflineCause → Nat | .polls => 0 | .command => 1

/-- A locker goes OFFLINE with its resume phase and OFFLINE is reported (R27). One that is OFFLINE stays, without a
second report (R102); an ABSENT one stays ABSENT (R5; log entry 17). -/
def goOffline (n : Nat) (c : OfflineCause) (s : State) : State :=
  let l := s.locker n
  if l.phase = .offline ∨ l.phase = .absent then s
  else
    let r := resumeOf s l
    let s := moveTo .offline n s
    let s := s.modLocker n fun l => { l with resume := r }
    submit .offline [.b1 n, .b1 c.code, .opt1 (r.map Phase.code)] s

/-- QUARANTINE, the withdrawal of any order, and QUARANTINED with its id (R22, R28). -/
def quarantine (n : Nat) (s : State) : State :=
  let ref := (s.locker n).orderRef
  let s := moveTo .quarantine n s
  let s := match ref with | some id => withdrawLost id s | none => s
  submit .quarantined [.b1 n, .orderId ref] s

/-! ### The end of a door command (R12) -/

/-- A door unlatch command ends at LTU: unlatch pending is cleared; any outcome but OK reverts the reservation if
the phase is still the one the command entered; LATCH_FAULT is a door fault; NO_REPLY under ISOLATE takes the locker
OFFLINE (R12, R102). A LATCH_FAULT that meets a locker a RESCAN has just set aside is a door fault too, by R20 and not
by R188's words on the outcome, the model's choice (log entry 30). -/
def doorCommandEnd (e : Entry) (o : CmdOutcome) (s : State) : State :=
  let n := e.locker
  let s := s.modLocker n fun l => { l with unlatchPending := none }
  match o with
  | .ok _ => s
  | _ =>
    let l := s.locker n
    let s := if e.request.phase = some l.phase then moveTo (revertPhase s l) n s else s
    match o with
    | .refused .latchFault => doorFault n .latchFault s
    | .noReply => if s.params.isolate then goOffline n .command s else s
    | _ => s

/-! ### A good reply (1.1, R8) -/

/-- The difference of a new open count to the last-seen one, modulo 256 (R4). -/
def countMoved (seen new : Nat) : Bool := decide ((new + 256 - seen) % 256 ≠ 0)

/-- An observation stored in the record: R3's fields, R4's counts, and opened-noted in a transient phase with no
unlatch pending when the watched door is OPEN or its count moved. -/
def Locker.observe (o : Observation) (l : Locker) : Locker :=
  let noted :=
    match l.phase.watched with
    | some .k => decide (o.kDoor = .opened) || countMoved l.kSeen o.kCount
    | some .c => decide (o.cDoor = .opened) || countMoved l.cSeen o.cCount
    | none => false
  { l with
    kDoor := o.kDoor
    cDoor := o.cDoor
    kSeen := o.kCount
    cSeen := o.cCount
    occupancy := o.occupancy
    fault := o.fault
    sample := o.sample.bind fun t => if -400 ≤ t ∧ t ≤ 1500 then some t else none
    sampleAge := 0
    pollFails := 0
    openedNoted := if noted && l.unlatchPending.isNone then some true else l.openedNoted }

/-- The order's meal is loaded: H at the hold budget, C at 0, warned clear (R14, R55). -/
def startHold (id : Nat) (s : State) : State :=
  s.modOrder id fun o => { o with hold := some ⟨o.budget, 0, false⟩ }

/-- A return at the end of LOADING: RESERVED and LOAD_EMPTY with its not-opened flag (R14). -/
def loadEmpty (n id : Nat) (notOpened : Bool) (s : State) : State :=
  submit .loadEmpty [.b1 n, .b4 id, .flag notOpened] (moveTo .reserved n s)

/-- The end of LOADING (R14). -/
def completeLoading (n : Nat) (s : State) : State :=
  let l := s.locker n
  let id := l.orderRef.getD 0
  if l.openedNoted = some true then
    match l.occupancy with
    | .occupied => submit .loaded [.b1 n, .b4 id] (startHold id (moveTo .holding n s))
    | .empty => loadEmpty n id false s
  else loadEmpty n id true s

/-- The end of PICKUP (R16). -/
def completePickup (n : Nat) (s : State) : State :=
  let l := s.locker n
  let id := l.orderRef.getD 0
  let back := if orderCondemned s l then Phase.condemned else Phase.holding
  if l.openedNoted = some true then
    match l.occupancy with
    | .empty =>
      let s := submit .collected [.b1 n, .b4 id, .flag (orderCondemned s l)] s
      moveToUnlessExcluded .purging n (removeOrder id s)
    | .occupied =>
      let s := s.modOrder id fun o => { o with attempts := satAdd 255 o.attempts 1 }
      let attempts := ((s.order? id).map Order.attempts).getD 0
      moveTo back n (submit .pickupReturned [.b1 n, .b4 id, .b1 attempts] s)
  else moveTo back n (submit .pickupTimeout [.b1 n, .b4 id] s)

/-- The end of CLEARING (R18). -/
def completeClearing (n : Nat) (s : State) : State :=
  let l := s.locker n
  let origin := l.clearOrigin.getD .quarantine
  let returned (notOpened : Bool) (s : State) : State :=
    moveTo origin n (submit .clearReturned [.b1 n, .orderId l.orderRef, .flag notOpened] s)
  if l.openedNoted = some true then
    match l.occupancy with
    | .empty =>
      let s := submit .cleared [.b1 n, .orderId l.orderRef] s
      let s := match l.orderRef with | some id => removeOrder id s | none => s
      moveToUnlessExcluded .purging n s
    | .occupied => returned false s
  else returned true s

/-- Step 3 of R8: the completion rule of a transient phase, with no unlatch pending and the watched door LATCHED. -/
def completeTransient (n : Nat) (s : State) : State :=
  let l := s.locker n
  match l.phase.watched with
  | none => s
  | some d =>
    if l.unlatchPending.isSome ∨ l.door d ≠ .latched then s
    else
      match l.phase with
      | .loading => completeLoading n s
      | .pickup => completePickup n s
      | .clearing => completeClearing n s
      | _ => s

/-- Step 2 of R8: the first good reply of an OFFLINE locker settles its phase (R28). -/
def resolveOffline (n : Nat) (s : State) : State :=
  let l := s.locker n
  if l.phase ≠ .offline then s
  else
    match l.resume with
    | some p =>
      if p.agrees l.occupancy then
        let s := moveToUnlessExcluded p n s
        announceFree n (submit .online [.b1 n, .b1 (s.locker n).phase.code] s)
      else quarantine n s
    | none =>
      match l.occupancy with
      | .empty =>
        let s := moveToUnlessExcluded .purging n s
        submit .online [.b1 n, .b1 (s.locker n).phase.code] s
      | .occupied => quarantine n s

/-- Step 4 of R8: occupancy that disagrees with a stable phase, both doors LATCHED (R22). -/
def occupancyCheck (n : Nat) (s : State) : State :=
  let l := s.locker n
  match l.phase.expects with
  | some e => if bothLatched l ∧ e ≠ l.occupancy then quarantine n s else s
  | none => s

/-- Whether DOOR_HELD falls due: watched door OPEN in the record, timer past the limit, not yet reported (R19). -/
def doorHeldDue (s : State) (l : Locker) : Bool :=
  match l.phase.watched, l.transientTimer with
  | some d, some t =>
    decide (l.door d = .opened) && decide (s.params.doorOpenLimitS * 1000 < t) && decide (l.doorHeld ≠ some true)
  | _, _ => false

/-- DOOR_HELD is reported if it is due (R19, R29). -/
def examineDoorHeld (n : Nat) (s : State) : State :=
  let l := s.locker n
  if doorHeldDue s l then
    let door := (l.phase.watched.map Door.code).getD 0
    submit .doorHeld [.b1 n, .b1 door, .orderId l.orderRef] (s.modLocker n fun l => { l with doorHeld := some true })
  else s

/-- Step 5 of R8: the transient timer restarts when the watched door is first seen OPEN, and DOOR_HELD is examined
(R19). `before` is the record before the reply. -/
def doorHeldBookkeeping (n : Nat) (before : Locker) (s : State) : State :=
  let l := s.locker n
  match l.phase.watched with
  | none => s
  | some d =>
    let s :=
      if l.door d = .opened ∧ before.door d ≠ .opened then
        s.modLocker n fun l => { l with transientTimer := some 0 }
      else s
    examineDoorHeld n s

/-- A step of R8 that is taken only while no earlier step changed the phase `p`. -/
def ifStill (p : Phase) (n : Nat) (f : State → State) (s : State) : State :=
  if (s.locker n).phase = p then f s else s

/-- Step 1 of R8: the door fault check and the heater fault check. -/
def faultChecks (n : Nat) (heaterOn mark : Bool) (s : State) : State :=
  let s' := match doorFinding (s.locker n) with | some f => doorFault n f s | none => s
  heaterCheck n heaterOn mark s'

/-- A good poll reply: stored, then the five steps of R8. `mark` is the after-map mark as BBM hands it. -/
def goodPoll (n : Nat) (o : Observation) (mark : Bool) (s : State) : State :=
  let before := s.locker n
  let p := before.phase
  let s := s.modLocker n (Locker.observe o)
  let s := faultChecks n o.heaterOn mark s
  let s := ifStill p n (resolveOffline n) s
  let s := ifStill p n (completeTransient n) s
  let s := ifStill p n (occupancyCheck n) s
  doorHeldBookkeeping n before s

/-- A failed poll: the count grows to 3; reaching 3 takes a locker that is neither OFFLINE nor ABSENT OFFLINE
(R5). -/
def failedPoll (n : Nat) (s : State) : State :=
  let fails := (s.locker n).pollFails
  let s := s.modLocker n fun l => { l with pollFails := satAdd 3 l.pollFails 1 }
  if fails + 1 = 3 then goOffline n .polls s else s

/-! ### Purges, discovery's setting aside, the reset notice -/

/-- The purge-done notice: a locker still PURGING becomes FREE (SERVICE under R21), PURGE_DONE is reported, and ORU
is told (R24; log entries 13, 23). -/
def purgeDone (n : Nat) (s : State) : State :=
  if (s.locker n).phase = .purging then
    announceFree n (submit .purgeDone [.b1 n] (moveToUnlessExcluded .free n s))
  else s

/-- A RESCAN sets a locker aside: OFFLINE with no resume phase unless ABSENT or SERVICE (R188). -/
def setAside (n : Nat) (s : State) : State :=
  let p := (s.locker n).phase
  if p = .absent ∨ p = .service then s else moveTo .offline n s

def setAsideAll (s : State) : State := Config.allLockers.foldl (fun s n => setAside n s) s

/-- A record at the reset notice: failures and last-seen counts 0, no unlatch pending, opened-noted set in the
transient phases (R6, R196). -/
def Locker.afterBankReset (l : Locker) : Locker :=
  { l with
    pollFails := 0
    kSeen := 0
    cSeen := 0
    unlatchPending := none
    openedNoted := if l.phase.transient then some true else l.openedNoted }

def State.resetNotice (s : State) : State :=
  { s with ltu := { s.ltu with lockers := vinit 48 fun n => (s.locker n).afterBankReset } }

end Sys2Proof.Machine
end

