-- ==== Sys2Proof/Machine/Commands.lean ====
section
/-! DEFINITION. The Transaction Unit's shared operations (chapter 06) and the panel's end of a release (R159): taking
a command, the dispatch head, the end of a command, the long-operation place, the discards of a bank reset and of a
RESTART. -/

namespace Sys2Proof.Machine

def State.withTxu (s : State) (t : Txu) : State := { s with txu := t }

/-! ### The panel's end of a release (R159) -/

/-- A display message is sent (R155). -/
def display (m : PanelMessage) (s : State) : State := s.emit (.display m)

/-- PANEL_REFUSED with its message, cause, order and locker (R163). -/
def reportRefused (m : PanelMessage) (c : PanelCause) (id n : Option Nat) (s : State) : State :=
  submit .panelRefused [.b1 m.refusalCode, .b1 c.code, .orderId id, .opt1 n] s

/-- The message and cause of an outcome that did not open the door (R159). -/
def refusalOf : CmdOutcome → PanelMessage × PanelCause
  | .tooLate => (.expired, .tooLate)
  | .offline => (.outOfService, .offline)
  | .wrongPhase => (.outOfService, .wrongPhase)
  | .interlock => (.outOfService, .interlock)
  | .noReply => (.outOfService, .noReply)
  | .refused _ => (.outOfService, .moduleRefused)
  | .bankReset => (.busy, .bankReset)
  | .discarded => (.busy, .discarded)
  | .aborted => (.busy, .discarded)
  | .ok _ => (.busy, .discarded)

/-- The outstanding release of a locker (R154). -/
def releaseOf (n : Nat) (s : State) : Option Nat := (s.pni.releases.find? fun r => r.1 == n).map Prod.snd

def dropRelease (n : Nat) (s : State) : State :=
  { s with pni := { s.pni with releases := s.pni.releases.filter fun r => r.1 != n } }

/-- A panel release ends: its entry is removed, the message of the outcome is sent and the outcome reported
(R159). -/
def panelReleaseEnd (n : Nat) (o : CmdOutcome) (s : State) : State :=
  let id := releaseOf n s
  let s := dropRelease n s
  match o with
  | .ok _ => submit .panelPickup [.orderId id, .b1 n] (display (.opened n) s)
  | _ =>
    let r := refusalOf o
    reportRefused r.1 r.2 id (some n) (display r.1 s)

/-! ### Taking a command (6.2) -/

/-- Whether a tag is carried by an entry of the table (R118, R127). -/
def tagInTable (s : State) (tag : Nat) : Bool := s.txu.table.any fun e => decide (e.tag = some tag)

/-- Whether the long operation in progress carries a tag (R118, R125). -/
def tagOfLongOp (s : State) (tag : Nat) : Bool :=
  match s.txu.longOp with | some op => decide (op.tag = some tag) | none => false

/-- The checks of R119, the last two of R118: room in the table and no entry for the locker. -/
def tableTakes (s : State) (n : Nat) : Bool :=
  decide (s.txu.table.length < 8) && s.txu.table.all fun e => decide (e.locker ≠ n)

/-- TXU's checks of a confirmed command of the server, in order (R118); none when it is taken. -/
def checkServer (s : State) (tag n : Nat) : Option Status :=
  if tagInTable s tag || tagOfLongOp s tag then some .tagInUse
  else if tableTakes s n then none else some .retry

/-- The next acceptance sequence number is taken (R114). -/
def bumpSeq (t : Txu) : Txu := { t with nextSeq := (t.nextSeq + 1) % 65536 }

def addEntry (origin : Origin) (tag : Option Nat) (r : CmdRequest) (n : Nat) (d : Option Door) (item : Option Nat)
    (s : State) : State :=
  s.withTxu
    { bumpSeq s.txu with table := s.txu.table ++ [⟨origin, tag, r, n, d, item, s.txu.nextSeq, .waiting⟩] }

def addPosted (n tag : Nat) (c : PostedContent) (s : State) : State :=
  s.withTxu { bumpSeq s.txu with posted := s.txu.posted ++ [⟨n, tag, c, s.txu.nextSeq, .waiting⟩] }

/-! ### Dispatch (6.3) -/

/-- Of two held commands, whether the one numbered `a` is the older (R114). -/
def olderSeq (a b : Nat) : Bool := decide ((b + 65536 - a) % 65536 < 32768)

/-- The older of a command and the oldest found so far. -/
def pickOlder (best : Option Nat) (a : Nat) : Option Nat :=
  match best with
  | none => some a
  | some b => if olderSeq a b then some a else some b

/-- The sequence numbers of all WAITING commands of both collections. -/
def waitingSeqs (t : Txu) : List Nat :=
  (t.table.filter fun e => decide (e.stage = .waiting)).map Entry.seq ++
    (t.posted.filter fun p => decide (p.stage = .waiting)).map Posted.seq

/-- The dispatch head: the oldest WAITING command (R120). -/
def dispatchHead (t : Txu) : Option Nat := (waitingSeqs t).foldl pickOlder none

def entryBySeq (t : Txu) (q : Nat) : Option Entry := t.table.find? fun e => e.seq == q
def postedBySeq (t : Txu) (q : Nat) : Option Posted := t.posted.find? fun p => p.seq == q

/-- The stage of a command becomes ON_BUS (R120). -/
def putOnBus (q : Nat) (s : State) : State :=
  s.withTxu
    { s.txu with
      table := s.txu.table.map fun e => if e.seq == q then { e with stage := .onBus } else e
      posted := s.txu.posted.map fun p => if p.seq == q then { p with stage := .onBus } else p }

/-! ### Completion (6.4) -/

def removeEntry (q : Nat) (s : State) : State :=
  s.withTxu { s.txu with table := s.txu.table.filter fun e => e.seq != q }

def removePosted (q : Nat) (s : State) : State :=
  s.withTxu { s.txu with posted := s.txu.posted.filter fun p => p.seq != q }

/-- A tag joins the recent completions: the earlier occurrence removed, at most 8 kept (R124). -/
def addRecent (tag : Nat) (r : List Nat) : List Nat :=
  let r := (r.filter fun t => t != tag) ++ [tag]
  r.drop (r.length - 8)

/-- Status and body of the answer to a confirmed command (R122; the body of MODULE_READ: log entry 19). -/
def completionAnswer (e : Entry) : CmdOutcome → Status × List Field
  | .ok v =>
    match e.request with
    | .moduleRead => (.ok, [.b1 (e.item.getD 0), .b2 (v.getD 0)])
    | _ => (.ok, [.b1 e.locker, .opt1 (e.door.map Door.code)])
  | .refused r => (.moduleRefused, [.b1 e.locker, .b1 r.code])
  | .noReply => (.noReply, [.b1 e.locker])
  | .bankReset => (.bankReset, [.b1 e.locker])
  | .offline => (.offline, [.b1 e.locker])
  | .wrongPhase => (.wrongPhase, [.b1 e.locker])
  | .tooLate => (.tooLate, [.b1 e.locker])
  | .interlock => (.interlock, [.b1 e.locker])
  | .aborted | .discarded => (.aborted, [])

/-- TXU's part of a confirmed command's end: the entry leaves the table; a tagged server entry is answered and its
tag joins the recent completions; a panel entry's outcome goes to PNI (R122, R124, R125). -/
def completeEntry (e : Entry) (o : CmdOutcome) (s : State) : State :=
  let s := removeEntry e.seq s
  match e.origin with
  | .panel => panelReleaseEnd e.locker o s
  | .server =>
    match e.tag with
    | none => s
    | some tag =>
      let a := completionAnswer e o
      let s := answer e.request.kind tag a.1 a.2 s
      s.withTxu { s.txu with recent := addRecent tag s.txu.recent }

/-- What LTU does with the end of a confirmed command: for a door unlatch R12; for a MODULE_READ that ends NO_REPLY
under ISOLATE, OFFLINE (R92, R102). -/
def lockerCommandEnd (e : Entry) (o : CmdOutcome) (s : State) : State :=
  if e.request.isUnlatch then doorCommandEnd e o s
  else if o = .noReply ∧ s.params.isolate then goOffline e.locker .command s
  else s

/-- A confirmed command ends: LTU first, then TXU (R92, R122). -/
def endConfirmed (e : Entry) (o : CmdOutcome) (s : State) : State := completeEntry e o (lockerCommandEnd e o s)

def countPostedLost (s : State) : State := s.withTxu { s.txu with postedLost := satAdd 65535 s.txu.postedLost 1 }

/-- POSTED_LOST with its cause, the module's reason where there is one, and the count after the increase (R131). -/
def reportPostedLost (p : Posted) (r : Option Reason) (s : State) : State :=
  submit .postedLost
    [.b1 p.locker, .b1 p.content.code, .b1 p.tag, .b1 (if r.isSome then 1 else 0), .opt1 (r.map Reason.code),
      .b2 s.txu.postedLost] s

/-- A posted command ends by its outcome (R123). -/
def endPosted (p : Posted) (o : CmdOutcome) (s : State) : State :=
  let s := removePosted p.seq s
  match o with
  | .ok _ => s
  | .noReply =>
    let s := countPostedLost s
    if s.params.isolate then reportPostedLost p none s else s
  | .refused r => reportPostedLost p (some r) (countPostedLost s)
  | _ => countPostedLost s

/-- A command of either collection ends with an outcome. -/
def endCommand (q : Nat) (o : CmdOutcome) (s : State) : State :=
  match entryBySeq s.txu q with
  | some e => endConfirmed e o s
  | none =>
    match postedBySeq s.txu q with
    | some p => endPosted p o s
    | none => s

/-! ### Long operations (6.6) -/

/-- A long operation of a kind is taken with its tag and answered ACCEPTED (R127). -/
def acceptLongOp (k : Kind) (op : LongOpKind) (tag : Nat) (s : State) : State :=
  answer k tag .accepted [] (s.withTxu { s.txu with longOp := some ⟨op, some tag⟩ })

/-- TXU's checks of a long operation that do not depend on its kind, in order (R127). -/
def checkLongOp (s : State) (tag : Nat) : Option Status :=
  if s.txu.longOp.isSome then some .busy
  else if tagInTable s tag then some .tagInUse
  else none

/-- The end of the operation in progress: DONE with its tag, kind and status for a requested one, and the place is
freed (R128). -/
def endLongOp (st : Status) (s : State) : State :=
  match s.txu.longOp with
  | none => s
  | some op =>
    let s :=
      match op.tag with
      | some tag => submitTagged tag .done [.b1 tag, .b1 op.kind.code, .b1 st.code] s
      | none => s
    s.withTxu { s.txu with longOp := none }

/-! ### Bank reset and restart (6.7) -/

/-- The entries of a list of sequence numbers in order, oldest first: repeatedly the oldest of what remains. -/
def inSeqOrder : Nat → List Nat → List Nat
  | 0, _ => []
  | k + 1, qs =>
    match qs.foldl pickOlder none with
    | none => []
    | some q => q :: inSeqOrder k (qs.filter fun r => r != q)

def waitingEntrySeqs (t : Txu) : List Nat :=
  let qs := (t.table.filter fun e => decide (e.stage = .waiting)).map Entry.seq
  inSeqOrder qs.length qs

/-- The WAITING posted commands leave the queue and are counted (R129, R130). -/
def discardPosted (s : State) : State :=
  let n := (s.txu.posted.filter fun p => decide (p.stage = .waiting)).length
  s.withTxu
    { s.txu with
      posted := s.txu.posted.filter fun p => decide (p.stage ≠ .waiting)
      postedLost := satAdd 65535 s.txu.postedLost n }

/-- TXU at the start of a reset pulse, after the entry on the bus has been cut off: each WAITING confirmed command
ends with BANK_RESET in sequence order, the WAITING posted commands are discarded and counted (R129). -/
def txuBankReset (s : State) : State :=
  discardPosted ((waitingEntrySeqs s.txu).foldl (fun s q => endCommand q .bankReset s) s)

end Sys2Proof.Machine
end

