-- ==== Sys2Proof/Machine/Frames.lean ====
section
/-! DEFINITION. The byte layouts of the frames the controller sends and receives (R150 to R153, R106). -/

namespace Sys2Proof.Machine

/-! ### Concourse link, upward (R150, R151) -/

/-- Envelope of a link frame: sync, length, class, kind, tag, payload, check (R150). -/
def linkFrame (cls kind tag : Nat) (payload : List Byte) : List Byte :=
  let body := [payload.length + 4, cls, kind, tag] ++ payload
  0xC3 :: body ++ crcBytes body

/-- Payload of an answer: request class, status, body (R151). -/
def Answer.payload (a : Answer) : List Byte := [a.kind.cls, a.status.code] ++ fieldsBytes a.body

/-- Payload of a report: group, uptime, fields (R151). -/
def Report.payload (r : Report) : List Byte :=
  [r.kind.group.code] ++ (Field.b4 r.uptime).bytes ++ fieldsBytes r.fields

/-- The bytes of a frame of the transmit line (R150, R151). -/
def UpFrame.bytes : UpFrame → List Byte
  | .answer a => linkFrame 0x20 a.kind.num a.tag a.payload
  | .report r => linkFrame 0x21 r.kind.number r.tag r.payload

/-! ### Bank bus (R152, R153) -/

/-- The bytes of a frame of the bank bus (R152). -/
def BusFrame.bytes (f : BusFrame) : List Byte :=
  let body := [f.addr, f.kind, f.payload.length] ++ f.payload
  0x96 :: body ++ crcBytes body

/-- A whole frame of the bank bus whose check is correct, read from its bytes (R152). -/
def parseBusFrame (bytes : List Byte) : Option BusFrame :=
  match bytes with
  | 0x96 :: addr :: kind :: len :: rest =>
    let payload := rest.take len
    if rest.length = len + 2 ∧ len ≤ 200 ∧ rest.drop len = crcBytes ([addr, kind, len] ++ payload) then
      some ⟨addr, kind, payload⟩
    else none
  | _ => none

def pollFrame (n : Nat) : BusFrame := ⟨n, 0x01, []⟩

/-- The request frame of a confirmed command; an UNLATCH carries the door and the window (R90, R152). -/
def entryFrame (window : Nat) (e : Entry) : BusFrame :=
  match e.request with
  | .moduleRead => ⟨e.locker, 0x03, (Field.b1 (e.item.getD 0)).bytes⟩
  | _ => ⟨e.locker, 0x02, fieldsBytes [.b1 ((e.door.map Door.code).getD 0), .b1 window]⟩

/-- The request frame of a posted command (R90, R152). -/
def postedFrame (p : Posted) : BusFrame :=
  match p.content with
  | .lamp pat => ⟨p.locker, 0x04, (Field.b1 pat).bytes⟩
  | .label text => ⟨p.locker, 0x05, text⟩
  | .moduleWrite item value => ⟨p.locker, 0x06, fieldsBytes [.b1 item, .b2 value]⟩

/-- Eight slots of a map entry from slot `base` on, the lowest slot the least significant bit (R153). -/
def slotByte (slots : List Nat) (base : Nat) : Byte :=
  (List.range 8).foldl (fun b i => if slots.contains (base + i) && decide (base + i < 20) then b + 2 ^ i else b) 0

/-- The three bytes of a locker (R153). -/
def slotBytes (slots : List Nat) : List Byte := [slotByte slots 0, slotByte slots 8, slotByte slots 16]

/-- The HEAT_MAP broadcast: frame offset, then three bytes per locker (R153), to all modules (R152). -/
def heatMapFrame (offset : Nat) (map : Vector (List Nat) 48) : BusFrame :=
  ⟨0xFF, 0x07, (Field.b2 offset).bytes ++ Config.allLockers.flatMap fun n => slotBytes (vget map n [])⟩

/-! ### Replies (R91, R152) -/

/-- A reply whose kind answers some request, with its content. -/
inductive Reply where
  | ok
  | observation (o : Observation)
  | item (v : Nat)
  | refused (r : Reason)
  deriving DecidableEq, Repr

/-- The temperature of an observation; 0x8000 is the probe-fault marker (R152). -/
def temperatureOf (v : Nat) : Option Int := if v = 32768 then none else some (signedOf v)

/-- An observation from its nine payload bytes, in the order of R106 (R152). -/
def decodeObservation (p : List Byte) : Option Observation :=
  match p with
  | [t1, t0, k, c, kn, cn, o, f, h] =>
    match DoorState.ofCode k, DoorState.ofCode c, Occupancy.ofCode o, FaultCode.ofCode f with
    | some kd, some cd, some oc, some fc =>
      if h ≤ 1 then some ⟨temperatureOf (t1 * 256 + t0), kd, cd, kn, cn, oc, fc, decide (h = 1)⟩ else none
    | _, _, _, _ => none
  | _ => none

/-- The nine payload bytes of an observation (R106, R152): the module's side of `decodeObservation`. -/
def encodeObservation (o : Observation) : List Byte :=
  fieldsBytes
    [match o.sample with | some t => .signed t | none => .b2 32768, .b1 o.kDoor.code, .b1 o.cDoor.code,
      .b1 o.kCount, .b1 o.cCount, .b1 o.occupancy.code, .b1 o.fault.code, .flag o.heaterOn]

/-- The reply a request frame of kind `request` to module `n` receives in these bytes, if they make the attempt
succeed (R91): whole, check correct, address `n`, a kind that answers the request, its payload of that kind
(log entry 15). -/
def readReply (n request : Nat) (bytes : List Byte) : Option Reply :=
  match parseBusFrame bytes with
  | none => none
  | some f =>
    if f.addr ≠ n then none
    else if f.kind = 0x8F then
      match f.payload with
      | [r] => (Reason.ofCode r).map .refused
      | _ => none
    else if f.kind = 0x81 ∧ request = 0x01 then (decodeObservation f.payload).map .observation
    else if f.kind = 0x83 ∧ request = 0x03 then
      match f.payload with
      | [hi, lo] => some (.item (hi * 256 + lo))
      | _ => none
    else if f.kind = 0x80 ∧ request ≠ 0x01 ∧ request ≠ 0x03 then some .ok
    else none

end Sys2Proof.Machine
end

