-- ==== Sys2Proof/Machine/Heater.lean ====
section
/-! DEFINITION. The Heater Arbiter's frame start (chapter 04), by the steps of R71. -/

namespace Sys2Proof.Machine

/-! ### Step 1: budgets and shed (R72) -/

def State.shedLine (s : State) (f : Nat) : Bool := vget s.shedLines f false
def State.isShed (s : State) (f : Nat) : Bool := vget s.hta.shed f false
def State.budget (s : State) (f : Nat) : Nat := vget s.hta.budgets f 0

/-- The source of a shed: LINE 0, FORCE 1, BOTH 2 (R72). -/
def shedSource (line force : Bool) : Nat := if line && force then 2 else if force then 1 else 0

/-- The budget and shed state of one feed for the frame, with SHED_ON or SHED_OFF on a change (R72). -/
def latchFeed (f : Nat) (s : State) : State :=
  let e := s.feedEntry f
  let line := s.shedLine f
  let now := line || e.force
  let before := s.isShed f
  let b := if now then e.shed else e.normal
  let s := { s with hta := { s.hta with budgets := vset s.hta.budgets f b, shed := vset s.hta.shed f now } }
  if now && !before then submit .shedOn [.b1 f, .b2 b, .b1 (shedSource line e.force)] s
  else if before && !now then submit .shedOff [.b1 f, .b2 b] s
  else s

def latchFeeds (s : State) : State := [0, 1, 2, 3].foldl (fun s f => latchFeed f s) s

/-! ### Steps 2 and 3: purges (R83 to R85) -/

/-- A PURGING locker whose progress has reached PURGE_SLOTS (R83). -/
def purgeComplete (s : State) (n : Nat) : Bool :=
  let l := s.locker n
  decide (l.phase = .purging) && decide (s.params.purgeSlots ≤ l.purgeProgress.getD 0)

/-- The lockers whose purge is complete at this frame start, in increasing index (R83). -/
def completedPurges (s : State) : List Nat := Config.allLockers.filter (purgeComplete s)

/-- Suspension and resumption of one purge by its feed's shed state (R84, R85). -/
def suspendOrResume (n : Nat) (s : State) : State :=
  let l := s.locker n
  let fields : List Field := [.b1 n, .b1 l.feed, .b2 (l.purgeProgress.getD 0)]
  if l.phase ≠ .purging then s
  else if s.isShed l.feed ∧ l.purgeSuspended ≠ some true then
    submit .purgeSuspended fields (s.modLocker n fun l => { l with purgeSuspended := some true })
  else if s.isShed l.feed = false ∧ l.purgeSuspended = some true then
    submit .purgeResumed fields (s.modLocker n fun l => { l with purgeSuspended := some false })
  else s

/-! ### Step 4: overheat inhibit (R74) -/

/-- The applicable limit of a locker's phase (R74). -/
def overheatLimit (s : State) (l : Locker) : Option Int :=
  match l.phase with
  | .reserved | .holding | .pickup => (heldOrder s l).map fun o => (s.profile o.profile).overheat
  | .purging => some s.params.purgeLimit
  | _ => none

/-- The overheat inhibit flag of one locker, with OVERHEAT or OVERHEAT_CLEAR (R74). -/
def examineInhibit (n : Nat) (s : State) : State :=
  let l := s.locker n
  match overheatLimit s l, freshSample s l with
  | some limit, some t =>
    let fields : List Field := [.b1 n, .signed t, .signed limit, .orderId l.orderRef]
    if l.overheatInhibit = false ∧ limit ≤ t then
      submit .overheat fields (s.modLocker n fun l => { l with overheatInhibit := true })
    else if l.overheatInhibit = true ∧ t ≤ limit - 50 then
      submit .overheatClear fields (s.modLocker n fun l => { l with overheatInhibit := false })
    else s
  | _, _ => s

/-! ### Step 5: demand (R75 to R77) -/

/-- The demand of a profile at a sample: base slots plus the error by Kp over 64, rounded toward minus infinity (as
integer division by a positive number rounds), limited to 0..20;
the base slots where the sample is not fresh (R76). -/
def profileDemand (p : Profile) : Option Int → Nat
  | none => min p.base 20
  | some t => (max 0 (min 20 ((p.base : Int) + (p.setpoint - t) * p.gain / 64))).toNat

/-- A locker's demand for the frame; `done` lists the purges noticed complete at this frame start (R75, R83). -/
def demandOf (done : List Nat) (s : State) (n : Nat) : Nat :=
  let l := s.locker n
  if l.overheatInhibit || l.heaterExcluded || done.contains n then 0
  else
    match l.phase with
    | .reserved | .holding | .pickup =>
      match heldOrder s l with
      | some o => if o.condemned.isSome then 0 else profileDemand (s.profile o.profile) (freshSample s l)
      | none => 0
    | .purging => if l.purgeSuspended = some true then 0 else 20
    | _ => 0

/-! ### Step 6: tiers and rotation (R78, R79) -/

/-- The tier of a locker with a demand: 1 URGENT, 2 HOLD, 3 PURGE (R78). -/
def tierOf (s : State) (n : Nat) : Nat :=
  let l := s.locker n
  match l.phase with
  | .holding | .pickup =>
    match freshSample s l, heldOrder s l with
    | some t, some o => if t < (s.profile o.profile).floor then 1 else 2
    | _, _ => 1
  | .reserved => 2
  | _ => 3

def rotationOf (s : State) (f tier : Nat) : Nat := vget s.hta.rotation (3 * f + tier - 1) 0

/-- The lockers of a feed and tier that take part, in increasing index (R78). -/
def tierMembers (s : State) (demands : List Nat) (f tier : Nat) : List Nat :=
  Config.allLockers.filter fun n =>
    decide (0 < demands.getD n 0) && decide ((s.locker n).feed = f) && decide (tierOf s n = tier)

/-- Increasing index from the pointer on, then from the lowest (R79). -/
def rotated (p : Nat) (ns : List Nat) : List Nat :=
  (ns.filter fun n => decide (p ≤ n)) ++ ns.filter fun n => decide (n < p)

def tierOrder (s : State) (demands : List Nat) (f tier : Nat) : List Nat :=
  rotated (rotationOf s f tier) (tierMembers s demands f tier)

/-- The grant order of a feed: tier 1, then 2, then 3 (R79). -/
def grantOrder (s : State) (demands : List Nat) (f : Nat) : List Nat :=
  tierOrder s demands f 1 ++ tierOrder s demands f 2 ++ tierOrder s demands f 3

/-! ### Step 7: the slot fill (R80) -/

/-- The fill of a feed in progress: the load of each of the 20 slots, the cursor, the grants made so far. -/
structure Fill where
  loads : List Nat
  cursor : Nat
  grants : List (Nat × List Nat)
  deriving DecidableEq, Repr

def Fill.start : Fill := ⟨List.replicate 20 0, 0, []⟩

/-- One locker's turn: at most `k` more slots examined from `cur`, `d` more wanted; a slot that keeps within the
budget `b` with power `p` is granted (R80). -/
def fillSlots (p b : Nat) : Nat → Nat → Nat → List Nat → List Nat → Nat × List Nat × List Nat
  | 0, _, cur, loads, got => (cur, loads, got)
  | k + 1, d, cur, loads, got =>
    if d = 0 then (cur, loads, got)
    else if loads.getD cur 0 + p ≤ b then
      fillSlots p b k (d - 1) ((cur + 1) % 20) (loads.set cur (loads.getD cur 0 + p)) (got ++ [cur])
    else fillSlots p b k d ((cur + 1) % 20) loads got

def fillLocker (s : State) (demands : List Nat) (b : Nat) (x : Fill) (n : Nat) : Fill :=
  let r := fillSlots (s.locker n).power b 20 (demands.getD n 0) x.cursor x.loads []
  ⟨r.2.1, r.1, x.grants ++ [(n, r.2.2)]⟩

/-- The fill of one feed in its grant order, within its budget in force (R80). -/
def fillFeed (s : State) (demands : List Nat) (f : Nat) : Fill :=
  (grantOrder s demands f).foldl (fillLocker s demands (s.budget f)) Fill.start

/-- The grants of all feeds. -/
def allGrants (s : State) (demands : List Nat) : List (Nat × List Nat) :=
  [0, 1, 2, 3].flatMap fun f => (fillFeed s demands f).grants

/-- A locker's entry of the heat map: its granted slots in increasing order (R87). -/
def mapEntry (grants : List (Nat × List Nat)) (n : Nat) : List Nat :=
  let got := ((grants.find? fun g => g.1 == n).map Prod.snd).getD []
  (List.range 20).filter fun k => got.contains k

/-- A pointer after the frame: the first of its tier's order plus 1, modulo 48; kept where the tier was empty
(R79). -/
def rotationAfter (s : State) (demands : List Nat) (i : Nat) : Nat :=
  let f := i / 3
  let tier := i % 3 + 1
  match tierOrder s demands f tier with
  | n :: _ => (n + 1) % 48
  | [] => rotationOf s f tier

/-- Purge credit (R82), starved count (R86), demand and granted count (R87) of one record. `urgent` says whether
the locker stood in tier 1. -/
def creditLocker (purgeSlots demand granted : Nat) (urgent : Bool) (l : Locker) : Locker :=
  { l with
    purgeProgress :=
      if l.phase = .purging then some (min (l.purgeProgress.getD 0 + granted) purgeSlots) else l.purgeProgress
    starved := if urgent && decide (granted < demand) then satAdd 5 l.starved 1 else 0
    demand := demand
    granted := granted }

/-- Credit for one locker, and STARVED when its count goes from 4 to 5 (R86, R88). -/
def creditAndStarve (demands : List Nat) (map : Vector (List Nat) 48) (tiers : List Nat) (n : Nat) (s : State) :
    State :=
  let l := s.locker n
  let d := demands.getD n 0
  let g := (vget map n []).length
  let urgent := decide (0 < d) && decide (tiers.getD n 0 = 1)
  let l' := creditLocker s.params.purgeSlots d g urgent l
  let s' := s.setLocker n l'
  if l.starved = 4 ∧ l'.starved = 5 then
    submit .starved [.b1 n, .b1 l.feed, .orderId l.orderRef, .b1 d, .b1 g] s'
  else s'

/-! ### The frame start (R69 to R71) -/

/-- Steps 6 to 8: tiers, fill, credit, starvation, the new heat map handed to BBM in state WAITING (R87, R89). -/
def grantFrame (demands : List Nat) (s : State) : State :=
  let grants := allGrants s demands
  let map : Vector (List Nat) 48 := vinit 48 (mapEntry grants)
  let rotation : Vector Nat 12 := vinit 12 (rotationAfter s demands)
  let tiers := Config.allLockers.map (tierOf s)
  let s := { s with hta := { s.hta with heatMap := map, rotation := rotation } }
  let s := { s with bbm := { s.bbm with mapState := .waiting } }
  Config.allLockers.foldl (fun s n => creditAndStarve demands map tiers n s) s

/-- A frame start: the steps of R71 in order. The frame timer starts at 0. -/
def frameStart (s : State) : State :=
  let s := { s with hta := { s.hta with frameTimer := some 0 } }
  let s := latchFeeds s
  let done := completedPurges s
  let s := done.foldl (fun s n => purgeDone n s) s
  let s := Config.allLockers.foldl (fun s n => suspendOrResume n s) s
  let s := Config.allLockers.foldl (fun s n => examineInhibit n s) s
  grantFrame (Config.allLockers.map (demandOf done s)) s

end Sys2Proof.Machine
end

