-- ==== Sys2Proof/Machine/Bus.lean ====
section
/-! DEFINITION. The Bank Bus Master's shared operations (chapter 05): the arbiter and its choice, the poll cycle, the
reset pulse. -/

namespace Sys2Proof.Machine

def State.withBbm (s : State) (b : Bbm) : State := { s with bbm := b }

/-! ### The poll cycle (5.5) -/

/-- The lowest locker at or above `c`, not ABSENT (R99). -/
def nextPolled (s : State) (c : Nat) : Option Nat :=
  Config.allLockers.find? fun n => decide (c ≤ n) && decide ((s.locker n).phase ≠ .absent)

/-- The lowest locker at or above `c`, populated and not in SERVICE (R189). -/
def nextProbed (s : State) (c : Nat) : Option Nat :=
  Config.allLockers.find? fun n =>
    decide (c ≤ n) && (s.locker n).populated && decide ((s.locker n).phase ≠ .service)

/-- The cycle enters GAP and its timer starts with the value of POLL_GAP_MS; with 0 the timer expires as it starts
and the new cycle begins (R99). -/
def startGap (s : State) : State :=
  if s.params.pollGapMs = 0 then s.withBbm { s.bbm with cycle := .running, cursor := 0, pollGap := none }
  else s.withBbm { s.bbm with cycle := .gap, pollGap := some (0, s.params.pollGapMs) }

/-- A cycle begins at 0; one that finds no locker to poll ends at once (R99). -/
def beginCycle (s : State) : State :=
  let s := s.withBbm { s.bbm with cycle := .running, cursor := 0, pollGap := none }
  if (nextPolled s 0).isNone then startGap s else s

/-- The end of a poll: with the cycle RUNNING and no locker left at or above the cursor, the cycle ends (R99). -/
def endOfPoll (s : State) : State :=
  if s.bbm.cycle = .running ∧ (nextPolled s s.bbm.cursor).isNone then startGap s else s

/-- Whether a poll is on the bus. -/
def pollOnBus (s : State) : Bool :=
  match s.bbm.exchange with | some (.poll ..) => true | _ => false

/-- A layout write that leaves a running cycle no locker ends it (R99). -/
def cycleAfterLayoutWrite (s : State) : State :=
  if s.bbm.cycle = .running ∧ 0 < s.bbm.cursor ∧ pollOnBus s = false ∧ (nextPolled s s.bbm.cursor).isNone then
    startGap s
  else s

/-! ### The arbiter (5.3) -/

/-- What waits as the poll requester (R95): discovery's probe, else the cycle's next poll. -/
inductive PollRequest where
  | probe (locker : Nat)
  | poll (locker : Nat)
  deriving DecidableEq, Repr

def pollRequest (s : State) : Option PollRequest :=
  match s.ltu.discovery with
  | some ⟨_, .probing⟩ =>
    if s.ltu.probing.isNone then (nextProbed s s.ltu.probeCursor).map .probe else none
  | _ => if s.bbm.cycle = .running then (nextPolled s s.bbm.cursor).map .poll else none

/-- Milliseconds from the frame start, as a broadcast carries them (R98). -/
def frameOffset (s : State) : Nat := s.hta.frameTimer.getD 0

/-- The heat map wins the bus: SENDING, and the broadcast begins with its frame offset (R98). -/
def beginBroadcast (s : State) : State :=
  let off := frameOffset s
  (s.withBbm { s.bbm with mapState := .sending, exchange := some (.broadcast off) }).emit
    (.bus (heatMapFrame off s.hta.heatMap))

/-- A poll or probe wins the bus: the cursor passes its locker, and the after-map mark is set when the map is SENT
(R93, R96, R99, R189). -/
def beginPoll (r : PollRequest) (s : State) : State :=
  let mark := decide (s.bbm.mapState = .sent)
  match r with
  | .poll n =>
    (s.withBbm { s.bbm with lastWinner := .poll, cursor := n + 1, exchange := some (.poll n 1 mark) }).emit
      (.bus (pollFrame n))
  | .probe n =>
    let s := { s with ltu := { s.ltu with probing := some n, probeCursor := n + 1 } }
    (s.withBbm { s.bbm with lastWinner := .poll, exchange := some (.probe n 1 mark) }).emit (.bus (pollFrame n))

/-- A command's exchange begins with its first attempt (R90, R93). -/
def beginExchange (n q : Nat) (f : BusFrame) (s : State) : State :=
  (s.withBbm { s.bbm with exchange := some (.command n q 1 f) }).emit (.bus f)

/-- The command that wins the bus becomes ON_BUS; a door unlatch is rechecked first, and a failed recheck ends it
without bus traffic (R97, R120). -/
def beginCommand (q : Nat) (s : State) : State :=
  let s := putOnBus q (s.withBbm { s.bbm with lastWinner := .command })
  match entryBySeq s.txu q with
  | some e =>
    if e.request.isUnlatch then
      match recheck e s with
      | some o => endCommand q o s
      | none => beginExchange e.locker q (entryFrame s.params.unlatchWindowS e) s
    else beginExchange e.locker q (entryFrame s.params.unlatchWindowS e) s
  | none =>
    match postedBySeq s.txu q with
    | some p => beginExchange p.locker q (postedFrame p) s
    | none => s

/-- The arbiter's choice (R96), repeated after a command that fails its recheck (R97), at most `k` times. -/
def chooseBusLoop : Nat → State → State
  | 0, s => s
  | k + 1, s =>
    if busFree s then
      if s.bbm.mapState = .waiting then beginBroadcast s
      else
        match dispatchHead s.txu, pollRequest s with
        | some q, some r =>
          if s.bbm.lastWinner = .command then beginPoll r s else chooseBusLoop k (beginCommand q s)
        | some q, none => chooseBusLoop k (beginCommand q s)
        | none, some r => beginPoll r s
        | none, none => s
    else s

/-- The choice at the end of an event (log entry 7). A failed recheck takes a command out of the table, so as many
rounds as there are commands, and one more, always reach a winner. -/
def chooseBus (s : State) : State := chooseBusLoop (s.txu.table.length + s.txu.posted.length + 1) s

/-! ### Door commands of the server (R10) -/

/-- A door request of the server that has passed LTU's checks: refused by TXU with its status, or taken together
with `enter`, LTU's change of the record, after which it may win the bus (R10, R118, R96). -/
def takeDoorCommand (r : CmdRequest) (tag n : Nat) (d : Door) (enter : State → State) (s : State) : State :=
  match checkServer s tag n with
  | some st => answer r.kind tag st [] s
  | none => chooseBus (enter (addEntry .server (some tag) r n (some d) none s))

/-! ### The reset pulse (5.8) -/

/-- The exchange in flight is cut off: a command ends with BANK_RESET, a poll, probe or broadcast is dropped
(R109). -/
def cutOff (s : State) : State :=
  match s.bbm.exchange with
  | none => s
  | some (.command _ q _ _) => endCommand q .bankReset (s.withBbm { s.bbm with exchange := none })
  | some (.probe ..) =>
    { s.withBbm { s.bbm with exchange := none } with ltu := { s.ltu with probing := none } }
  | some _ => s.withBbm { s.bbm with exchange := none }

/-- The bus state on entry to PULSE (R89, R109): map withheld where there is one, cursor 0, gap stopped, a running or
resting cycle RUNNING (log entry 22). -/
def busAtPulse (b : Bbm) : Bbm :=
  { b with
    line := .pulse
    lineMs := 0
    mapState := if b.mapState = .none then .none else .withheld
    cursor := 0
    pollGap := none
    cycle := if b.cycle = .stopped then .stopped else .running }

/-- The pulse starts: the bus is acted on at once, TXU ends and discards, then LTU takes the values of a bank reset;
a RESCAN sets aside again what its last poll settled (R109, R129, R188, R196). -/
def startPulse (s : State) : State :=
  let s := cutOff s
  let s := s.withBbm (busAtPulse s.bbm)
  let s := txuBankReset s
  let s := s.resetNotice
  match s.ltu.discovery with
  | some ⟨.rescan, _⟩ => setAsideAll s
  | _ => s

end Sys2Proof.Machine
end

