-- ==== Sys2Proof/Machine/Discovery.lean ====
section
/-! DEFINITION. Discovery (chapter 10): its beginning, its probe results, its end; and the end of an exchange on the
bank bus, after which the pulse a RESCAN waits for begins or the bus is given away again. -/

namespace Sys2Proof.Machine

def State.withLtu (s : State) (l : Ltu) : State := { s with ltu := l }

/-! ### Beginning (R188) -/

/-- Whether a discovery still waits for its pulse: stage RESET with the line IDLE (R188). -/
def pulseWanted (s : State) : Bool :=
  match s.ltu.discovery with
  | some ⟨_, .reset⟩ => decide (s.bbm.line = .idle)
  | _ => false

/-- The pulse request of a discovery is taken at once when no exchange is in flight (R188). -/
def pulseIfIdle (s : State) : State :=
  if pulseWanted s && s.bbm.exchange.isNone then startPulse s else s

/-- A discovery begins: flag set, stage RESET, cursor 0, no probe, tally 0, the poll cycle STOPPED; a RESCAN sets the
bank aside; the pulse is requested (R188). -/
def beginDiscovery (k : DiscoveryKind) (s : State) : State :=
  let s :=
    s.withLtu { s.ltu with discovery := some ⟨k, .reset⟩, probeCursor := 0, probing := none, answered := 0 }
  let s := s.withBbm { s.bbm with cycle := .stopped, pollGap := none }
  let s := match k with | .rescan => setAsideAll s | .powerOn => s
  pulseIfIdle s

/-! ### The end (R191) -/

def countPhase (s : State) (p : Phase) : Nat :=
  (Config.allLockers.filter fun n => decide ((s.locker n).phase = p)).length

/-- STARTED: kind, answered tally, lockers ABSENT, OFFLINE, QUARANTINE and SERVICE (R191). -/
def reportStarted (k : DiscoveryKind) (s : State) : State :=
  submit .started
    [.b1 k.code, .b1 s.ltu.answered, .b1 (countPhase s .absent), .b1 (countPhase s .offline),
      .b1 (countPhase s .quarantine), .b1 (countPhase s .service)] s

/-- A discovery ends: STARTED, flag cleared, the poll cycle RUNNING; after POWER_ON the timers start and the first
frame start is taken, after a RESCAN its DONE follows (R191). -/
def endDiscovery (k : DiscoveryKind) (s : State) : State :=
  let s := reportStarted k s
  let s := s.withLtu { s.ltu with discovery := none }
  let s := beginCycle s
  match k with
  | .powerOn =>
    let s := frameStart s
    let s := { s with hau := { s.hau with tickTimer := some 0 } }
    let s := s.withLki { s.lki with silenceTimer := some 0 }
    endLongOp .ok s
  | .rescan => endLongOp .ok s

/-- Ends the discovery when its PROBING stage finds no locker the next probe could target (R189). -/
def endDiscoveryIfSurveyed (s : State) : State :=
  match s.ltu.discovery with
  | some ⟨k, .probing⟩ =>
    if s.ltu.probing.isNone ∧ (nextProbed s s.ltu.probeCursor).isNone then endDiscovery k s else s
  | _ => s

/-- The stage becomes PROBING (R188). -/
def beginProbing (s : State) : State :=
  match s.ltu.discovery with
  | some ⟨k, _⟩ => endDiscoveryIfSurveyed (s.withLtu { s.ltu with discovery := some ⟨k, .probing⟩ })
  | none => s

/-! ### Probe results (R190) -/

def tallyAnswered (s : State) : State := s.withLtu { s.ltu with answered := satAdd 48 s.ltu.answered 1 }

/-- The row of R190's table a good probe's stored reply meets, for a locker that `moves` to the phase given. -/
def settleProbed (n : Nat) (heaterOn mark : Bool) (s : State) : State :=
  let l := s.locker n
  match doorFinding l with
  | some f =>
    let s := moveTo .service n s
    submit .doorFault [.b1 n, .b1 f.code, .orderId l.orderRef] s
  | none =>
    if heaterFinding l heaterOn mark then
      let s := setExcluded n s
      match l.occupancy with
      | .empty => moveTo .service n s
      | .occupied => submit .quarantined [.b1 n, .orderId none] (moveTo .quarantine n s)
    else
      match l.occupancy with
      | .empty => moveToUnlessExcluded .purging n s
      | .occupied => submit .quarantined [.b1 n, .orderId none] (moveTo .quarantine n s)

/-- A good probe: the reply stored, the locker given its phase, the tally increased (R190). -/
def probeAnswered (n : Nat) (o : Observation) (mark : Bool) (s : State) : State :=
  tallyAnswered (settleProbed n o.heaterOn mark (s.modLocker n (Locker.observe o)))

/-- A failed probe: OFFLINE with no resume phase, consecutive poll failures 3 (R190). -/
def probeFailed (n : Nat) (s : State) : State :=
  (moveTo .offline n s).modLocker n fun l => { l with pollFails := 3, resume := none }

/-- A probe's result has been handled: no probe in flight, and the discovery ends if nothing is left (R189). -/
def endOfProbe (s : State) : State := endDiscoveryIfSurveyed (s.withLtu { s.ltu with probing := none })

/-! ### The end of an exchange (5.2) -/

def countFailedPoll (s : State) : State := s.withBbm { s.bbm with failedPolls := satAdd 65535 s.bbm.failedPolls 1 }

def countFailedExchange (s : State) : State :=
  s.withBbm { s.bbm with failedExchanges := satAdd 65535 s.bbm.failedExchanges 1 }

/-- The after-map mark as it is handed: set only while no frame start has been taken since the poll began, that is
while the map is still SENT (R98). -/
def handedMark (s : State) (mark : Bool) : Bool := mark && decide (s.bbm.mapState = .sent)

/-- The bus is done with an exchange: a pulse a RESCAN waits for begins at the same event, else BBM chooses
(R96, R188). -/
def afterExchange (s : State) : State := if pulseWanted s then startPulse s else chooseBus s

def clearExchange (s : State) : State := s.withBbm { s.bbm with exchange := none }

/-- A poll ends, good or failed; a poll adds to the failed poll count when it fails (R92, R94, R100). -/
def pollEnded (n : Nat) (r : Option Observation) (mark : Bool) (s : State) : State :=
  let m := handedMark s mark
  let s := clearExchange s
  let s := match r with | some o => goodPoll n o m s | none => failedPoll n (countFailedPoll s)
  afterExchange (endOfPoll s)

/-- A probe ends, good or failed (R92, R94, R190). -/
def probeEnded (n : Nat) (r : Option Observation) (mark : Bool) (s : State) : State :=
  let m := handedMark s mark
  let s := clearExchange s
  let s := match r with | some o => probeAnswered n o m s | none => probeFailed n (countFailedPoll s)
  afterExchange (endOfProbe s)

/-- A command exchange ends with its outcome; NO_REPLY adds to the failed exchange count (R92, R94). -/
def commandEnded (q : Nat) (o : CmdOutcome) (s : State) : State :=
  let s := clearExchange s
  let s := if o = .noReply then countFailedExchange s else s
  afterExchange (endCommand q o s)

/-- The outcome of a command exchange by the reply of its successful attempt (R92). -/
def replyOutcome : Reply → CmdOutcome
  | .refused r => .refused r
  | .item v => .ok (some v)
  | _ => .ok none

/-- A failed attempt: the next begins at once with the same request, the third ends the exchange (R91, R92). -/
def attemptFailed (s : State) : State :=
  match s.bbm.exchange with
  | some (.poll n a m) =>
    if a < 3 then
      (s.withBbm { s.bbm with exchange := some (.poll n (a + 1) m) }).emit (.bus (pollFrame n))
    else pollEnded n none m s
  | some (.probe n a m) =>
    if a < 3 then
      (s.withBbm { s.bbm with exchange := some (.probe n (a + 1) m) }).emit (.bus (pollFrame n))
    else probeEnded n none m s
  | some (.command n q a f) =>
    if a < 3 then (s.withBbm { s.bbm with exchange := some (.command n q (a + 1) f) }).emit (.bus f)
    else commandEnded q .noReply s
  | _ => s

/-- A successful attempt ends the exchange by its reply; REFUSED makes a poll a failed one, not retried (R92). -/
def attemptSucceeded (r : Reply) (s : State) : State :=
  match s.bbm.exchange, r with
  | some (.poll n _ m), .observation o => pollEnded n (some o) m s
  | some (.poll n _ m), _ => pollEnded n none m s
  | some (.probe n _ m), .observation o => probeEnded n (some o) m s
  | some (.probe n _ m), _ => probeEnded n none m s
  | some (.command _ q _ _), r => commandEnded q (replyOutcome r) s
  | _, _ => s

/-- The module addressed and the kind of the request on the bus; none while no reply is awaited (R91). -/
def awaited (s : State) : Option (Nat × Nat) :=
  match s.bbm.exchange with
  | some (.poll n _ _) => some (n, 0x01)
  | some (.probe n _ _) => some (n, 0x01)
  | some (.command n _ _ f) => some (n, f.kind)
  | _ => none

end Sys2Proof.Machine
end

