-- ==== Sys2Proof/Machine/BusEvents.lean ====
section
/-! DEFINITION. The events of the bank bus (chapter 05): a reply, the end of the reply window, the end of a
broadcast. -/

namespace Sys2Proof.Machine

/-- REPLY_RECEIVED: a whole reply within the window succeeds or fails the attempt by its check, address and kind
(R91); bytes outside a reply window are discarded. -/
def execReplyReceived (frame : List Byte) (s : State) : Host.Outcome State Fault Refusal :=
  let s := s.clearPorts
  match awaited s with
  | none => .next s
  | some (n, kind) =>
    match readReply n kind frame with
    | some r => .next (chooseTransmit (attemptSucceeded r s))
    | none => .next (chooseTransmit (attemptFailed s))

/-- REPLY_TIMEOUT: no whole reply within 12 ms fails the attempt (R91); nothing while no reply is awaited
(log entry 3). -/
def execReplyTimeout (s : State) : Host.Outcome State Fault Refusal :=
  let s := s.clearPorts
  if (awaited s).isSome then .next (chooseTransmit (attemptFailed s)) else .next s

/-- The broadcast ends: the map is SENT unless a frame start has been taken meanwhile (R98). -/
def endBroadcast (s : State) : State :=
  s.withBbm
    { s.bbm with
      exchange := none
      mapState := if s.bbm.mapState = .sending then .sent else s.bbm.mapState }

/-- BROADCAST_END (R98); nothing while no broadcast is on the bus (log entry 3). -/
def execBroadcastEnd (s : State) : Host.Outcome State Fault Refusal :=
  let s := s.clearPorts
  match s.bbm.exchange with
  | some (.broadcast _) => .next (chooseTransmit (afterExchange (endBroadcast s)))
  | _ => .next s

end Sys2Proof.Machine
end

