-- ==== Sys2Proof/WellFormed.lean ====
section
/-! DEFINITION. Which command terms a far end can send: every field fits the bytes R137 gives it, a locker that an
event names exists, a reply frame is no longer than the envelope of R152 allows. The machine gives every term a
meaning; statements that speak of frames on a line assume this. -/

namespace Sys2Proof

/-- Fits in one, two or four bytes (R137). -/
def fits1 (v : Nat) : Bool := decide (v < 256)
def fits2 (v : Nat) : Bool := decide (v < 65536)
def fits4 (v : Nat) : Bool := decide (v < 4294967296)
/-- A signed value of two bytes (R137). -/
def fitsSigned (v : Int) : Bool := decide (-32768 ≤ v) && decide (v < 32768)

def TableRecord.wf : TableRecord → Bool
  | .layout p c f w => fits1 p && fits1 c && fits1 f && fits2 w
  | .profile s f o c w g b =>
    fitsSigned s && fitsSigned f && fitsSigned o && fits2 c && fits2 w && fits1 g && fits1 b
  | .feed n s f => fits2 n && fits2 s && fits1 f

def WellFormed : Instr → Bool
  | .book t o c k p b d => fits1 t && fits4 o && fits4 c && fits1 k && fits1 p && fits2 b && fits2 d
  | .cancel t o | .loadOpen t o | .release t o | .clear t o | .queryOrder t o => fits1 t && fits4 o
  | .extend t o n => fits1 t && fits4 o && fits2 n
  | .lamp t l p => fits1 t && fits1 l && fits1 p
  | .label t l x => fits1 t && fits1 l && decide (x.length ≤ 245) && x.all fits1
  | .moduleWrite t l i v => fits1 t && fits1 l && fits1 i && fits2 v
  | .moduleRead t l i => fits1 t && fits1 l && fits1 i
  | .abort t a => fits1 t && fits1 a
  | .tableRead t a i => fits1 t && decide (a ≤ 2) && fits1 i
  | .tableWrite t i r => fits1 t && fits1 i && r.wf
  | .paramGet t p => fits1 t && decide (1 ≤ p) && decide (p ≤ 16)
  | .paramSet t p v =>
    fits1 t && decide (1 ≤ p) && decide (p ≤ 16) && (if Machine.paramBytes p = 2 then fits2 v else fits1 v)
  | .store t | .rescan t | .bankReset t | .status t | .restart t => fits1 t
  | .serviceOn t l | .serviceOff t l | .clearLocker t l => fits1 t && fits1 l
  | .serviceUnlatch t l d => fits1 t && fits1 l && fits1 d
  | .receiveByte b => fits1 b
  | .scan cs => cs.all fun c => decide (c < 1114112)
  | .doorHeld l => decide (l < 48)
  | .replyReceived f => decide (f.length ≤ 206) && f.all fits1
  | .gapTimerExpiry | .silenceTimerExpiry | .transmitEnd | .windowTimerExpiry | .lockoutTimerExpiry
  | .powerOn .. | .holdTick | .frameStart .. | .pollGapTimerExpiry | .pulseEnd | .quietEnd | .storeEnd _
  | .replyTimeout | .broadcastEnd => true

end Sys2Proof
end

