-- ==== Sys2Proof/Decode.lean ====
section
/-! DEFINITION. Reading commands from what the outside world sends. The opcode table gives no bits to any row, so no
word spells a command. The concourse link does spell its requests: R137 and R138 read here a request from the class,
kind, tag and payload of a frame, and the other way round its frame (R150). -/

namespace Sys2Proof

/-- The command a word spells by the table's bits: no row of the table gives bits (log entry 25). -/
def decodeTableWord (_nbits _w : Nat) : Option Instr := none

open Machine (rd1 rd2 rd4 signedOf paramBytes twosComplement crcBytes fieldsBytes Field)

/-- What LKI finds in a valid frame (R137). -/
inductive Decoded where
  | request (i : Instr)
  | unknownKind
  | badLength
  deriving DecidableEq, Repr

/-- A request where the payload has the length its kind requires (R137). -/
def Decoded.sized (p : List Byte) (n : Nat) (i : Instr) : Decoded :=
  if p.length = n then .request i else .badLength

/-- Requests of class ORDER (R138). -/
def decodeOrder (kind tag : Nat) (p : List Byte) : Decoded :=
  match kind with
  | 1 => .sized p 14 (.book tag (rd4 p 0) (rd4 p 4) (rd1 p 8) (rd1 p 9) (rd2 p 10) (rd2 p 12))
  | 2 => .sized p 4 (.cancel tag (rd4 p 0))
  | 3 => .sized p 6 (.extend tag (rd4 p 0) (rd2 p 4))
  | 4 => .sized p 4 (.loadOpen tag (rd4 p 0))
  | 5 => .sized p 4 (.release tag (rd4 p 0))
  | 6 => .sized p 4 (.clear tag (rd4 p 0))
  | 7 => .sized p 4 (.queryOrder tag (rd4 p 0))
  | _ => .unknownKind

/-- Requests of class MODULE (R138). A LABEL's text takes the rest of the payload (R137). -/
def decodeModule (kind tag : Nat) (p : List Byte) : Decoded :=
  match kind with
  | 1 => .sized p 2 (.lamp tag (rd1 p 0) (rd1 p 1))
  | 2 => if 1 ≤ p.length then .request (.label tag (rd1 p 0) (p.drop 1)) else .badLength
  | 3 => .sized p 4 (.moduleWrite tag (rd1 p 0) (rd1 p 1) (rd2 p 2))
  | 4 => .sized p 2 (.moduleRead tag (rd1 p 0) (rd1 p 1))
  | 5 => .sized p 1 (.abort tag (rd1 p 0))
  | _ => .unknownKind

/-- A TABLE_WRITE's record by its table number; other table numbers have no defined length (R168). -/
def decodeTableWrite (tag : Nat) (p : List Byte) : Decoded :=
  if p.length < 2 then .badLength
  else
    match rd1 p 0 with
    | 0 => .sized p 7 (.tableWrite tag (rd1 p 1) (.layout (rd1 p 2) (rd1 p 3) (rd1 p 4) (rd2 p 5)))
    | 1 =>
      .sized p 14
        (.tableWrite tag (rd1 p 1)
          (.profile (signedOf (rd2 p 2)) (signedOf (rd2 p 4)) (signedOf (rd2 p 6)) (rd2 p 8) (rd2 p 10) (rd1 p 12)
            (rd1 p 13)))
    | 2 => .sized p 7 (.tableWrite tag (rd1 p 1) (.feed (rd2 p 2) (rd2 p 4) (rd1 p 6)))
    | _ => .badLength

/-- A PARAM_SET's value by its parameter's value bytes; other numbers have no defined length (R173, R175). -/
def decodeParamSet (tag : Nat) (p : List Byte) : Decoded :=
  match paramBytes (rd1 p 0) with
  | 1 => .sized p 2 (.paramSet tag (rd1 p 0) (rd1 p 1))
  | 2 => .sized p 3 (.paramSet tag (rd1 p 0) (rd2 p 1))
  | _ => .badLength

/-- Requests of class MGMT (R138). -/
def decodeMgmt (kind tag : Nat) (p : List Byte) : Decoded :=
  match kind with
  | 1 => if rd1 p 0 ≤ 2 then .sized p 2 (.tableRead tag (rd1 p 0) (rd1 p 1)) else .badLength
  | 2 => decodeTableWrite tag p
  | 3 => if paramBytes (rd1 p 0) = 0 then .badLength else .sized p 1 (.paramGet tag (rd1 p 0))
  | 4 => decodeParamSet tag p
  | 5 => .sized p 0 (.store tag)
  | 6 => .sized p 0 (.rescan tag)
  | 7 => .sized p 0 (.bankReset tag)
  | 8 => .sized p 1 (.serviceOn tag (rd1 p 0))
  | 9 => .sized p 1 (.serviceOff tag (rd1 p 0))
  | 10 => .sized p 2 (.serviceUnlatch tag (rd1 p 0) (rd1 p 1))
  | 11 => .sized p 1 (.clearLocker tag (rd1 p 0))
  | 12 => .sized p 0 (.status tag)
  | 13 => .sized p 0 (.restart tag)
  | _ => .unknownKind

/-- The request a frame of one of the three downward classes carries (R137, R138). -/
def decodeRequest (cls kind tag : Nat) (p : List Byte) : Decoded :=
  if cls = 0x10 then decodeOrder kind tag p
  else if cls = 0x11 then decodeModule kind tag p
  else decodeMgmt kind tag p

/-! ### The order server's side -/

/-- The record bytes of a TABLE_WRITE (R168). -/
def TableRecord.payload : TableRecord → List Byte
  | .layout p c f w => fieldsBytes [.b1 p, .b1 c, .b1 f, .b2 w]
  | .profile s f o c w g b => fieldsBytes [.signed s, .signed f, .signed o, .b2 c, .b2 w, .b1 g, .b1 b]
  | .feed n s f => fieldsBytes [.b2 n, .b2 s, .b1 f]

def TableRecord.number : TableRecord → Nat | .layout .. => 0 | .profile .. => 1 | .feed .. => 2

/-- Class byte, kind number, tag and payload of a request (R138); none for a command that is no request. -/
def encodeRequest : Instr → Option (Nat × Nat × Nat × List Byte)
  | .book t o c k p b d => some (0x10, 1, t, fieldsBytes [.b4 o, .b4 c, .b1 k, .b1 p, .b2 b, .b2 d])
  | .cancel t o => some (0x10, 2, t, fieldsBytes [.b4 o])
  | .extend t o n => some (0x10, 3, t, fieldsBytes [.b4 o, .b2 n])
  | .loadOpen t o => some (0x10, 4, t, fieldsBytes [.b4 o])
  | .release t o => some (0x10, 5, t, fieldsBytes [.b4 o])
  | .clear t o => some (0x10, 6, t, fieldsBytes [.b4 o])
  | .queryOrder t o => some (0x10, 7, t, fieldsBytes [.b4 o])
  | .lamp t l p => some (0x11, 1, t, fieldsBytes [.b1 l, .b1 p])
  | .label t l x => some (0x11, 2, t, fieldsBytes [.b1 l] ++ x)
  | .moduleWrite t l i v => some (0x11, 3, t, fieldsBytes [.b1 l, .b1 i, .b2 v])
  | .moduleRead t l i => some (0x11, 4, t, fieldsBytes [.b1 l, .b1 i])
  | .abort t a => some (0x11, 5, t, fieldsBytes [.b1 a])
  | .tableRead t a i => some (0x12, 1, t, fieldsBytes [.b1 a, .b1 i])
  | .tableWrite t i r => some (0x12, 2, t, fieldsBytes [.b1 r.number, .b1 i] ++ r.payload)
  | .paramGet t p => some (0x12, 3, t, fieldsBytes [.b1 p])
  | .paramSet t p v => some (0x12, 4, t, fieldsBytes [.b1 p, if paramBytes p = 2 then .b2 v else .b1 v])
  | .store t => some (0x12, 5, t, [])
  | .rescan t => some (0x12, 6, t, [])
  | .bankReset t => some (0x12, 7, t, [])
  | .serviceOn t l => some (0x12, 8, t, fieldsBytes [.b1 l])
  | .serviceOff t l => some (0x12, 9, t, fieldsBytes [.b1 l])
  | .serviceUnlatch t l d => some (0x12, 10, t, fieldsBytes [.b1 l, .b1 d])
  | .clearLocker t l => some (0x12, 11, t, fieldsBytes [.b1 l])
  | .status t => some (0x12, 12, t, [])
  | .restart t => some (0x12, 13, t, [])
  | .receiveByte _ | .gapTimerExpiry | .silenceTimerExpiry | .transmitEnd | .scan _ | .windowTimerExpiry
  | .lockoutTimerExpiry | .powerOn .. | .holdTick | .frameStart .. | .pollGapTimerExpiry | .doorHeld _
  | .pulseEnd | .quietEnd | .storeEnd _ | .replyReceived _ | .replyTimeout | .broadcastEnd => none

/-- The bytes of the frame that carries a request, sync byte first (R150). -/
def requestFrame (i : Instr) : Option (List Byte) :=
  (encodeRequest i).map fun r =>
    let body := [r.2.2.2.length + 4, r.1, r.2.1, r.2.2.1] ++ r.2.2.2
    0xC3 :: body ++ crcBytes body

end Sys2Proof
end

