-- ==== Sys2Proof/Machine/Settings.lean ====
section
/-! DEFINITION. The Settings Store's shared operations (chapter 09): the tables, the parameter catalogue, the fence,
the non-volatile store, STATUS. -/

namespace Sys2Proof.Machine

def State.withSst (s : State) (t : Sst) : State := { s with sst := t }

def State.withWorking (s : State) (w : Settings) : State := s.withSst { s.sst with working := w }

/-! ### Records and their bytes (R168) -/

def LayoutEntry.fields (e : LayoutEntry) : List Field :=
  [.flag e.populated, .b1 e.cls.code, .b1 e.feed, .b2 e.power]

def Profile.fields (p : Profile) : List Field :=
  [.signed p.setpoint, .signed p.floor, .signed p.overheat, .b2 p.coldLimit, .b2 p.warn, .b1 p.gain, .b1 p.base]

def FeedEntry.fields (e : FeedEntry) : List Field := [.b2 e.normal, .b2 e.shed, .flag e.force]

/-- A yes/no value of a payload (R168). -/
def boolOf : Nat → Option Bool | 0 => some false | 1 => some true | _ => none

/-- A power brought into its range, then down to a multiple of 10 (R170). -/
def clampTens (lo hi v : Nat) : Nat := clamp lo hi v / 10 * 10

/-! ### LAYOUT writes (R1, R171) -/

/-- R171's checks, in order; the last applies to SERVICE lockers only. -/
def checkLayout (l : Locker) (populated : Bool) : Option Status :=
  if l.phase ≠ .absent ∧ l.phase ≠ .free ∧ l.phase ≠ .service then some .wrongPhase
  else if populated = false ∧ l.phase = .service ∧ l.orderRef.isSome then some .wrongPhase
  else if populated = false ∧ l.phase = .service ∧ l.unlatchPending.isSome then some .interlock
  else none

/-- LTU copies a layout entry into the record (R1). -/
def Locker.copyLayout (e : LayoutEntry) (l : Locker) : Locker :=
  { l with populated := e.populated, cls := e.cls, feed := e.feed, power := e.power }

/-- The phase an accepted layout write gives the record, after the copy (R1). -/
def Locker.layoutPhase (e : LayoutEntry) (l : Locker) : Locker :=
  if e.populated then
    if l.phase = .absent then { l.enter .offline with pollFails := 0, sample := none } else l
  else if l.phase = .absent then l else l.enter .absent

/-- LTU takes an accepted layout entry and acts on each changed field, with its notices to ORU (R1, R35). -/
def layoutAccepted (n : Nat) (e : LayoutEntry) (s : State) : State :=
  let l := s.locker n
  let s' := s.setLocker n ((l.copyLayout e).layoutPhase e)
  if l.phase = .free then
    if e.populated = false then leftFree l.cls n s'
    else if e.cls ≠ l.cls then becameFree n (leftFree l.cls n s')
    else s'
  else s'

/-! ### The fence (R2, R179) -/

/-- The fenced field recomputed, and ORU handed the FREE lockers newly fenced and newly unfenced, each in increasing
index (R2, R36). -/
def recomputeFence (s : State) : State :=
  let newly (becomes : Bool) : List Nat :=
    Config.allLockers.filter fun n =>
      decide ((s.locker n).phase = .free) && decide ((s.locker n).fenced ≠ becomes) &&
        decide (fenceCovers s.params n = becomes)
  let fenced := newly true
  let unfenced := newly false
  let s' :=
    s.withLtu
      { s.ltu with lockers := vinit 48 fun n => { s.locker n with fenced := fenceCovers s.params n } }
  fenceChanged fenced unfenced s'

/-! ### Parameters (R174, R175) -/

/-- The value of a parameter as PARAM_GET returns it (R174). -/
def paramValue (s : State) (p : Nat) : Nat :=
  let q := s.params
  let bit (b : Bool) : Nat := if b then 1 else 0
  match p with
  | 1 => q.unlatchWindowS
  | 2 => q.doorOpenLimitS
  | 3 => q.linkSilenceS
  | 4 => q.sampleStaleS
  | 5 => q.pollGapMs
  | 6 => q.purgeSlots
  | 7 => q.purgeLimit
  | 8 => q.pendingWaitS
  | 9 => bit q.upsize
  | 10 => bit q.isolate
  | 11 => bit q.panelEnable
  | 12 => q.reportMask
  | 13 => bit q.fenceHigh
  | 14 => q.fenceCount
  | 15 => bit q.fenceInvert
  | 16 => bit s.sst.strictHold
  | _ => 0

/-- A parameter's value as a field of its value bytes (R175). -/
def paramField (p v : Nat) : Field := if paramBytes p = 2 then .b2 v else .b1 v

/-- The value a written number comes to: clamped for a numeric parameter, kept or refused for the others (R174).
LINK_SILENCE_S has a gap in its range: 1..4 goes to 5 (R145). -/
def acceptedValue (p v : Nat) : Option Nat :=
  match p with
  | 1 => some (clamp 5 60 v)
  | 2 => some (clamp 10 600 v)
  | 3 => some (if v = 0 then 0 else clamp 5 300 v)
  | 4 => some (clamp 2 30 v)
  | 5 => some (clamp 0 2000 v)
  | 6 => some (clamp 0 1800 v)
  | 7 => some (clamp 600 1200 v)
  | 8 => some (clamp 0 3600 v)
  | 14 => some (clamp 0 48 v)
  | 12 => if v ≤ 15 then some v else none
  | 9 | 10 | 11 | 13 | 15 | 16 => if v ≤ 1 then some v else none
  | _ => none

/-- The working parameters with one value replaced (R174). -/
def Params.write (q : Params) (p v : Nat) : Params :=
  match p with
  | 1 => { q with unlatchWindowS := v }
  | 2 => { q with doorOpenLimitS := v }
  | 3 => { q with linkSilenceS := v }
  | 4 => { q with sampleStaleS := v }
  | 5 => { q with pollGapMs := v }
  | 6 => { q with purgeSlots := v }
  | 7 => { q with purgeLimit := v }
  | 8 => { q with pendingWaitS := v }
  | 9 => { q with upsize := decide (v = 1) }
  | 10 => { q with isolate := decide (v = 1) }
  | 11 => { q with panelEnable := decide (v = 1) }
  | 12 => { q with reportMask := v }
  | 13 => { q with fenceHigh := decide (v = 1) }
  | 14 => { q with fenceCount := v }
  | 15 => { q with fenceInvert := decide (v = 1) }
  | _ => q

/-- The acts a parameter's entry attaches to an accepted write: the door-held examination (R176), the sweep when
UPSIZE goes from false to true (R178), the fence (R179). `upsizeBefore` is UPSIZE before the write. The lockers are
examined for DOOR_HELD in increasing index, the model's choice: R176 names no order (log entry 33). -/
def paramActs (p : Nat) (upsizeBefore : Bool) (s : State) : State :=
  match p with
  | 2 => Config.allLockers.foldl (fun s n => examineDoorHeld n s) s
  | 9 => if upsizeBefore = false ∧ s.params.upsize = true then pendingSweep s else s
  | 13 | 14 | 15 => recomputeFence s
  | _ => s

/-! ### The non-volatile store (R166, R167, R182) -/

/-- Whether generation `b` is newer than `a` (R166). -/
def newerGeneration (a b : Nat) : Bool :=
  let d := (b + 65536 - a) % 65536
  decide (1 ≤ d) && decide (d ≤ 32767)

/-- The copy a power-on loads: the newer of two valid ones, the only valid one, or none (R167). -/
def loadedCopy : Option StoreCopy → Option StoreCopy → Option StoreCopy
  | some a, some b => if newerGeneration a.generation b.generation then some b else some a
  | some a, none => some a
  | none, b => b

/-- The copy a STORE writes and its generation: the invalid one (A if both), else the older; the generation of the
newer valid copy plus 1, or 1 (R166, R182). -/
def storeTarget : Option StoreCopy → Option StoreCopy → StoreSide × Nat
  | none, none => (.a, 1)
  | none, some b => (.a, (b.generation + 1) % 65536)
  | some a, none => (.b, (a.generation + 1) % 65536)
  | some a, some b =>
    if newerGeneration a.generation b.generation then (.a, (b.generation + 1) % 65536)
    else (.b, (a.generation + 1) % 65536)

def Sst.setCopy (t : Sst) (side : StoreSide) (c : Option StoreCopy) : Sst :=
  match side with
  | .a => { t with copyA := c }
  | .b => { t with copyB := c }

/-- SST takes the snapshot, sets the busy flag, chooses the copy and begins writing it, which leaves it invalid
until the write is complete (R182). -/
def beginStore (s : State) : State :=
  let target := storeTarget s.sst.copyA s.sst.copyB
  s.withSst
    { s.sst.setCopy target.1 none with snapshot := some s.sst.working, busy := true, target := some target }

/-- The end of a STORE: the copy valid with the snapshot and its generation where the read-back is good, else left
invalid; the snapshot absent, the flag clear (R182). -/
def finishStore (good : Bool) (s : State) : State :=
  let written : Sst :=
    match s.sst.target, s.sst.snapshot with
    | some (side, g), some snap => if good then s.sst.setCopy side (some ⟨g, snap⟩) else s.sst.setCopy side none
    | _, _ => s.sst
  s.withSst { written with snapshot := none, busy := false, target := none }

/-! ### STATUS (R185) -/

def countOrders (s : State) (p : Order → Bool) : Nat := (s.oru.orders.filter p).length

/-- The body of a STATUS answer, in the order of R185. -/
def statusBody (s : State) : List Field :=
  let e := s.lki.errors
  let counters : List Nat :=
    [e.total, e.length, e.gap, e.crc, e.cls, e.overrun, s.txu.postedLost, s.bbm.failedExchanges,
      s.bbm.failedPolls, s.lki.lostReports, s.lki.islandEntries]
  let phases : List Nat := Phase.all.map (countPhase s)
  let fenced : Nat := (Config.allLockers.filter fun n => (s.locker n).fenced).length
  let orders : List Nat :=
    [s.oru.orders.length, countOrders s Order.isPending,
      countOrders s fun o => !o.isPending && !o.loaded && o.condemned.isNone,
      countOrders s fun o => o.loaded && o.condemned.isNone,
      countOrders s fun o => o.condemned.isSome]
  (counters ++ phases ++ [fenced] ++ orders).map Field.b2 ++
    [.flag s.lki.island, .flag s.discovering, .flag s.sst.busy, .flag s.sst.strictHold, .b1 s.sst.source.code]

end Sys2Proof.Machine
end

