-- ==== Sys2Proof/Machine/ManagementRequests.lean ====
section
/-! DEFINITION. The requests of class MGMT (chapters 01, 06, 07, 09, 10). -/

namespace Sys2Proof.Machine

/-! ### TABLE_READ (R169) -/

/-- What LTU adds to a LAYOUT entry read: fenced, phase, demand and granted slots (R169). -/
def layoutExtra (l : Locker) : List Field := [.flag l.fenced, .b1 l.phase.code, .b1 l.demand, .b1 l.granted]

/-- The record of a table entry as the working copy holds it, none for an index out of range (R168, R169). -/
def tableRecord (s : State) (table index : Nat) : Option (List Field) :=
  match table with
  | 0 => if index < 48 then some ((s.layoutEntry index).fields ++ layoutExtra (s.locker index)) else none
  | 1 => if index < 8 then some (s.profile index).fields else none
  | 2 => if index < 4 then some (s.feedEntry index).fields else none
  | _ => none

def serveTableRead (tag table index : Nat) (s : State) : State :=
  match tableRecord s table index with
  | some r => answer kTableRead tag .ok ([.b1 table, .b1 index] ++ r) s
  | none => answer kTableRead tag .badArgument [] s

/-- TABLE_READ (R169). -/
def execTableRead (tag table index : Nat) (s : State) : Host.Outcome State Fault Refusal :=
  .next (takeRequest (serveTableRead tag table index) s)

/-! ### TABLE_WRITE (R170 to R172, R53) -/

/-- The answer of an accepted write: table, index and the record as now held (R170). -/
def answerWrite (tag table index : Nat) (clamped : Bool) (record : List Field) (s : State) : State :=
  answer kTableWrite tag (if clamped then .okClamped else .ok) ([.b1 table, .b1 index] ++ record) s

def refuseWrite (tag : Nat) (st : Status) (s : State) : State := answer kTableWrite tag st [] s

/-- A LAYOUT write (R170, R171, R1). -/
def writeLayout (tag n populated cls feed power : Nat) (s : State) : State :=
  if 47 < n then refuseWrite tag .badArgument s
  else
    match boolOf populated, SizeClass.ofCode cls with
    | some p, some c =>
      if 3 < feed then refuseWrite tag .badArgument s
      else
        match checkLayout (s.locker n) p with
        | some st => refuseWrite tag st s
        | none =>
          let w := clampTens 50 1000 power
          let e : LayoutEntry := ⟨p, c, feed, w⟩
          let s := s.withWorking { s.sst.working with layout := vset s.sst.working.layout n e }
          let s := cycleAfterLayoutWrite (layoutAccepted n e s)
          chooseBus (answerWrite tag 0 n (decide (w ≠ power)) e.fields s)
    | _, _ => refuseWrite tag .badArgument s

/-- Whether an order of any status names a profile (R53). -/
def profileNamed (s : State) (i : Nat) : Bool := s.oru.orders.any fun o => decide (o.profile = i)

/-- A PROFILE write (R53). -/
def writeProfile (tag i : Nat) (setpoint floor overheat : Int) (cold warn gain base : Nat) (s : State) : State :=
  if 7 < i then refuseWrite tag .badArgument s
  else if s.sst.strictHold && profileNamed s i then refuseWrite tag .strict s
  else if -400 < floor ∧ floor < setpoint ∧ setpoint < overheat ∧ overheat ≤ 1200 then
    let p : Profile := ⟨setpoint, floor, overheat, clamp 30 1800 cold, clamp 0 3600 warn, clamp 0 255 gain, clamp 0 20 base⟩
    let clamped :=
      decide (p.coldLimit ≠ cold) || decide (p.warn ≠ warn) || decide (p.gain ≠ gain) || decide (p.base ≠ base)
    answerWrite tag 1 i clamped p.fields
      (s.withWorking { s.sst.working with profiles := vset s.sst.working.profiles i p })
  else refuseWrite tag .badArgument s

/-- A FEED write (R172). -/
def writeFeed (tag f normal shed force : Nat) (s : State) : State :=
  if 3 < f then refuseWrite tag .badArgument s
  else
    match boolOf force with
    | none => refuseWrite tag .badArgument s
    | some b =>
      let e : FeedEntry := ⟨clampTens 0 12000 normal, clampTens 0 12000 shed, b⟩
      answerWrite tag 2 f (decide (e.normal ≠ normal) || decide (e.shed ≠ shed)) e.fields
        (s.withWorking { s.sst.working with feeds := vset s.sst.working.feeds f e })

def serveTableWrite (tag index : Nat) (r : TableRecord) (s : State) : State :=
  match r with
  | .layout p c f w => writeLayout tag index p c f w s
  | .profile sp f o c w g b => writeProfile tag index sp f o c w g b s
  | .feed n sh fo => writeFeed tag index n sh fo s

/-- TABLE_WRITE (R170). -/
def execTableWrite (tag index : Nat) (r : TableRecord) (s : State) : Host.Outcome State Fault Refusal :=
  .next (takeRequest (serveTableWrite tag index r) s)

/-! ### PARAM_GET, PARAM_SET (R173, R174, R180) -/

def paramBody (s : State) (p : Nat) : List Field := [.b1 p, paramField p (paramValue s p)]

def serveParamGet (tag p : Nat) (s : State) : State :=
  if p = 0 ∨ 16 < p then answer kParamGet tag .badArgument [] s
  else answer kParamGet tag .ok (paramBody s p) s

/-- PARAM_GET (R174). -/
def execParamGet (tag p : Nat) (s : State) : Host.Outcome State Fault Refusal :=
  .next (takeRequest (serveParamGet tag p) s)

/-- A write of STRICT_HOLD: once true it stays true (R180). -/
def writeStrictHold (tag v : Nat) (s : State) : State :=
  if v = 0 ∧ s.sst.strictHold then answer kParamSet tag .strict [] s
  else
    let s := s.withSst { s.sst with strictHold := decide (v = 1) }
    answer kParamSet tag .ok (paramBody s 16) s

def serveParamSet (tag p v : Nat) (s : State) : State :=
  match acceptedValue p v with
  | none => answer kParamSet tag .badArgument [] s
  | some w =>
    if p = 16 then writeStrictHold tag w s
    else
      let before := s.params.upsize
      let s := paramActs p before (s.setParams (s.params.write p w))
      answer kParamSet tag (if w = v then .ok else .okClamped) (paramBody s p) s

/-- PARAM_SET (R174). -/
def execParamSet (tag p v : Nat) (s : State) : Host.Outcome State Fault Refusal :=
  .next (takeRequest (serveParamSet tag p v) s)

/-! ### STORE, RESCAN, BANK_RESET (R127) -/

def serveStore (tag : Nat) (s : State) : State :=
  match checkLongOp s tag with
  | some st => answer kStore tag st [] s
  | none => beginStore (acceptLongOp kStore .store tag s)

/-- STORE (R127, R182). -/
def execStore (tag : Nat) (s : State) : Host.Outcome State Fault Refusal :=
  .next (takeRequest (serveStore tag) s)

/-- RESCAN's own condition is that no order is PLACED (R194). -/
def anyPlaced (s : State) : Bool := s.oru.orders.any fun o => !o.isPending

def serveRescan (tag : Nat) (s : State) : State :=
  match checkLongOp s tag with
  | some st => answer kRescan tag st [] s
  | none =>
    if anyPlaced s then answer kRescan tag .wrongPhase [] s
    else beginDiscovery .rescan (acceptLongOp kRescan .rescan tag s)

/-- RESCAN (R194). -/
def execRescan (tag : Nat) (s : State) : Host.Outcome State Fault Refusal :=
  .next (takeRequest (serveRescan tag) s)

def serveBankReset (tag : Nat) (s : State) : State :=
  match checkLongOp s tag with
  | some st => answer kBankReset tag st [] s
  | none => startPulse (acceptLongOp kBankReset .bankReset tag s)

/-- BANK_RESET (R196). -/
def execBankReset (tag : Nat) (s : State) : Host.Outcome State Fault Refusal :=
  .next (takeRequest (serveBankReset tag) s)

/-! ### Locker requests (R25, R26, R17) -/

/-- The checks of a management request that names a locker: LKI's index check (R137), then BUSY during discovery
(R192). -/
def checkNamedLocker (s : State) (n : Nat) : Option Status :=
  if 47 < n then some .badArgument else if s.discovering then some .busy else none

/-- Whether SERVICE_ON is taken in a locker's phase (R25). -/
def serviceOnTaken (l : Locker) : Bool :=
  match l.phase with
  | .free | .purging | .quarantine | .service => true
  | .offline => l.orderRef.isNone
  | _ => false

def serveServiceOn (tag n : Nat) (s : State) : State :=
  match checkNamedLocker s n with
  | some st => answer kServiceOn tag st [] s
  | none =>
    if serviceOnTaken (s.locker n) then
      answer kServiceOn tag .ok [] (if (s.locker n).phase = .service then s else moveTo .service n s)
    else answer kServiceOn tag .wrongPhase [] s

/-- SERVICE_ON (R25). -/
def execServiceOn (tag n : Nat) (s : State) : Host.Outcome State Fault Refusal :=
  .next (takeRequest (serveServiceOn tag n) s)

def serveServiceOff (tag n : Nat) (s : State) : State :=
  match checkNamedLocker s n with
  | some st => answer kServiceOff tag st [] s
  | none =>
    let l := s.locker n
    if l.phase ≠ .service ∨ l.orderRef.isSome then answer kServiceOff tag .wrongPhase [] s
    else if l.unlatchPending.isSome then answer kServiceOff tag .interlock [] s
    else
      answer kServiceOff tag .ok []
        (moveTo .purging n (s.modLocker n fun l => { l with heaterExcluded := false }))

/-- SERVICE_OFF (R26). -/
def execServiceOff (tag n : Nat) (s : State) : Host.Outcome State Fault Refusal :=
  .next (takeRequest (serveServiceOff tag n) s)

def serveServiceUnlatch (tag n door : Nat) (s : State) : State :=
  match Door.ofCode door with
  | none => answer kServiceUnlatch tag .badArgument [] s
  | some d =>
    match checkNamedLocker s n with
    | some st => answer kServiceUnlatch tag st [] s
    | none =>
      match checkServiceUnlatch (s.locker n) d with
      | some st => answer kServiceUnlatch tag st [] s
      | none =>
        takeDoorCommand .serviceUnlatch tag n d (fun s => s.modLocker n fun l => { l with unlatchPending := some d }) s

/-- SERVICE_UNLATCH (R26). -/
def execServiceUnlatch (tag n door : Nat) (s : State) : Host.Outcome State Fault Refusal :=
  .next (takeRequest (serveServiceUnlatch tag n door) s)

def serveClearLocker (tag n : Nat) (s : State) : State :=
  match checkNamedLocker s n with
  | some st => answer kClearLocker tag st [] s
  | none =>
    match checkClearLocker (s.locker n) with
    | some st => answer kClearLocker tag st [] s
    | none => takeDoorCommand .clearLocker tag n .k (enterClearing n) s

/-- CLEAR_LOCKER (R17). -/
def execClearLocker (tag n : Nat) (s : State) : Host.Outcome State Fault Refusal :=
  .next (takeRequest (serveClearLocker tag n) s)

/-! ### STATUS (R185) -/

def serveStatus (tag : Nat) (s : State) : State := answer kStatus tag .ok (statusBody s) s

/-- STATUS (R185). -/
def execStatus (tag : Nat) (s : State) : Host.Outcome State Fault Refusal :=
  .next (takeRequest (serveStatus tag) s)

/-! ### RESTART (R148, R130, R200) -/

/-- Step 1 of R200: what LKI clears. The place of the RESTART itself stays held (R148). -/
def restartLink (l : Lki) : Lki :=
  { l with
    rx := .hunt
    gapTimer := none
    tx := none
    answerQ := []
    placesHeld := 1
    lostReports := satAdd 65535 l.lostReports l.reportQ.length
    reportQ := []
    island := false
    islandStart := none
    silenceTimer := some 0 }

/-- A WAITING entry is discarded: a door unlatch reverts at LTU, a panel release shows BUSY; its report is made by
`reportDiscarded` after REPORTS_LOST (R130, R200). -/
def discardEntry (s : State) (q : Nat) : State :=
  match entryBySeq s.txu q with
  | none => s
  | some e =>
    let s := removeEntry q (lockerCommandEnd e .discarded s)
    match e.origin with
    | .server => s
    | .panel => display .busy (dropRelease e.locker s)

/-- The panel releases among the WAITING entries, with their order ids, in sequence order (R159). -/
def discardedReleases (s : State) : List (Option Nat × Nat) :=
  (waitingEntrySeqs s.txu).filterMap fun q =>
    (entryBySeq s.txu q).bind fun e =>
      if e.origin = .panel then some (releaseOf e.locker s, e.locker) else none

def reportDiscarded (rs : List (Option Nat × Nat)) (s : State) : State :=
  rs.foldl (fun s r => reportRefused .busy .discarded r.1 (some r.2) s) s

/-- Step 2 of R200: TXU discards what waits, keeps an entry on the bus without its tag, empties the recent
completions (R130). -/
def restartCommands (s : State) : State :=
  let s := (waitingEntrySeqs s.txu).foldl discardEntry s
  let s := discardPosted s
  s.withTxu { s.txu with table := s.txu.table.map fun e => { e with tag := none }, recent := [] }

/-- Whether a POWER_ON discovery runs (R192). -/
def powerOnDiscovering (s : State) : Bool :=
  match s.ltu.discovery with | some ⟨.powerOn, _⟩ => true | _ => false

def serveRestart (tag : Nat) (s : State) : State :=
  if powerOnDiscovering s then answer kRestart tag .busy [] s
  else
    let discarded := discardedReleases s
    let s := restartCommands (s.withLki (restartLink s.lki))
    reportDiscarded discarded (submitReportsLost (answer kRestart tag .ok [] s))

/-- RESTART (R200). -/
def execRestart (tag : Nat) (s : State) : Host.Outcome State Fault Refusal :=
  .next (takeRequest (serveRestart tag) s)

end Sys2Proof.Machine
end

