-- ==== Sys2Proof/Machine/ModuleRequests.lean ====
section
/-! DEFINITION. The requests of class MODULE (chapter 06): the posted commands, MODULE_READ and ABORT. -/

namespace Sys2Proof.Machine

/-! ### Posted commands (R116, R117) -/

/-- A posted command: refused during discovery, for an argument out of range, for an ABSENT or OFFLINE locker or a
full queue; else queued with the next sequence number, answered with `st`, and it may win the bus (R116, R117, R96). -/
def servePosted (k : Kind) (tag n : Nat) (inRange : Bool) (c : PostedContent) (st : Status) (s : State) : State :=
  if s.discovering then answer k tag .busy [] s
  else if 47 < n ∨ inRange = false then answer k tag .badArgument [] s
  else if (s.locker n).phase = .absent then answer k tag .noTarget [] s
  else if (s.locker n).phase = .offline then answer k tag .offline [] s
  else if 8 ≤ s.txu.posted.length then answer k tag .retry [] s
  else chooseBus (answer k tag st [] (addPosted n tag c s))

def serveLamp (tag n pattern : Nat) (s : State) : State :=
  servePosted kLamp tag n (decide (pattern ≤ 255)) (.lamp pattern) .ok s

/-- LAMP (R117). -/
def execLamp (tag n pattern : Nat) (s : State) : Host.Outcome State Fault Refusal :=
  .next (takeRequest (serveLamp tag n pattern) s)

/-- A text longer than 24 characters is cut and answered OK_CLAMPED (R117). -/
def serveLabel (tag n : Nat) (text : List Byte) (s : State) : State :=
  servePosted kLabel tag n true (.label (text.take 24)) (if 24 < text.length then .okClamped else .ok) s

/-- LABEL (R117). -/
def execLabel (tag n : Nat) (text : List Byte) (s : State) : Host.Outcome State Fault Refusal :=
  .next (takeRequest (serveLabel tag n text) s)

def serveModuleWrite (tag n item value : Nat) (s : State) : State :=
  servePosted kModuleWrite tag n (decide (item ≤ 255) && decide (value ≤ 65535)) (.moduleWrite item value) .ok s

/-- MODULE_WRITE (R117). -/
def execModuleWrite (tag n item value : Nat) (s : State) : Host.Outcome State Fault Refusal :=
  .next (takeRequest (serveModuleWrite tag n item value) s)

/-! ### MODULE_READ (R116, R118) -/

def serveModuleRead (tag n item : Nat) (s : State) : State :=
  if s.discovering then answer kModuleRead tag .busy [] s
  else if 47 < n ∨ 255 < item then answer kModuleRead tag .badArgument [] s
  else if (s.locker n).phase = .absent then answer kModuleRead tag .noTarget [] s
  else if (s.locker n).phase = .offline then answer kModuleRead tag .offline [] s
  else
    match checkServer s tag n with
    | some st => answer kModuleRead tag st [] s
    | none => chooseBus (addEntry .server (some tag) .moduleRead n none (some item) s)

/-- MODULE_READ (R118). -/
def execModuleRead (tag n item : Nat) (s : State) : Host.Outcome State Fault Refusal :=
  .next (takeRequest (serveModuleRead tag n item) s)

/-! ### ABORT (R125) -/

def entryByTag (t : Txu) (tag : Nat) : Option Entry := t.table.find? fun e => decide (e.tag = some tag)

def serveAbort (tag target : Nat) (s : State) : State :=
  match entryByTag s.txu target with
  | some e =>
    if e.stage = .waiting then answer kAbort tag .ok [] (endConfirmed e .aborted s)
    else answer kAbort tag .abortLate [] s
  | none =>
    if tagOfLongOp s target || s.txu.recent.contains target then answer kAbort tag .abortLate [] s
    else answer kAbort tag .unknownOrder [] s

/-- ABORT (R125). -/
def execAbort (tag target : Nat) (s : State) : Host.Outcome State Fault Refusal :=
  .next (takeRequest (serveAbort tag target) s)

end Sys2Proof.Machine
end

