-- ==== Sys2Proof/Machine/OrderRequests.lean ====
section
/-! DEFINITION. The requests of class ORDER (chapters 01 to 03): for each its service by its unit, and its meaning as
a command, which is a valid frame carrying the request (log entry 4). -/

namespace Sys2Proof.Machine

/-! ### BOOK (R38 to R41) -/

/-- A new record (R40). -/
def newOrder (id code : Nat) (c : SizeClass) (profile budget deadline : Nat) : Order :=
  ⟨id, code, c, profile, budget, deadline, .pending 0, 0, none, none⟩

/-- A record and its code map entry are made (R33, R40). -/
def admitOrder (o : Order) (s : State) : State :=
  { s with oru := { s.oru with orders := s.oru.orders ++ [o], codeMap := s.oru.codeMap ++ [(o.code, o.id)] } }

/-- BOOK's checks on its argument and tables, in order, once its class is known (R38). -/
def checkBook (s : State) (id code profile : Nat) : Option Status :=
  if id = 0 ∨ 99999999 < code ∨ 7 < profile then some .badArgument
  else if (s.order? id).isSome then some .duplicateOrder
  else if s.oru.codeMap.any fun e => e.1 == code then some .duplicateCode
  else if 64 ≤ s.oru.orders.length then some .noLocker
  else none

/-- Allocation of a checked and clamped booking (R40). -/
def bookAllocate (tag : Nat) (o : Order) (clamped : Bool) (s : State) : State :=
  match allocate s o.cls with
  | some n =>
    answer kBook tag (if clamped then .okClamped else .ok) [.b1 n, .b2 o.budget, .b2 o.deadline]
      (join o.id n (admitOrder o s))
  | none =>
    if s.oru.queue.length < 16 then
      let s := admitOrder o s
      let s := { s with oru := { s.oru with queue := s.oru.queue ++ [o.id] } }
      answer kBook tag .pending [.b1 s.oru.queue.length, .b2 o.budget, .b2 o.deadline] s
    else answer kBook tag .noLocker [] s

def serveBook (tag id code cls profile budget deadline : Nat) (s : State) : State :=
  if s.discovering then answer kBook tag .busy [] s
  else
    match SizeClass.ofCode cls with
    | none => answer kBook tag .badArgument [] s
    | some c =>
      match checkBook s id code profile with
      | some st => answer kBook tag st [] s
      | none =>
        let b := clamp 60 7200 budget
        let d := clamp 0 3600 deadline
        bookAllocate tag (newOrder id code c profile b d) (decide (b ≠ budget) || decide (d ≠ deadline)) s

/-- BOOK (R38). -/
def execBook (tag id code cls profile budget deadline : Nat) (s : State) : Host.Outcome State Fault Refusal :=
  .next (takeRequest (serveBook tag id code cls profile budget deadline) s)

/-! ### CANCEL (R42) -/

/-- CANCEL of a placed order by the phase of its locker (R42; combinations no run reaches: log entry 24). -/
def cancelPlaced (tag id n : Nat) (s : State) : State :=
  let l := s.locker n
  let ok := answer kCancel tag .ok []
  let wrong := answer kCancel tag .wrongPhase []
  match l.phase with
  | .reserved => ok (announceFree n (moveToUnlessExcluded .free n (removeOrder id s)))
  | .holding => ok (condemn id .cancelled s)
  | .condemned | .service => ok s
  | .offline =>
    match l.resume with
    | some .reserved => ok ((removeOrder id s).modLocker n fun l => { l with resume := some .free })
    | some .holding => ok (condemn id .cancelled s)
    | some .condemned | some .service => ok s
    | _ => wrong s
  | _ => wrong s

def serveCancel (tag id : Nat) (s : State) : State :=
  if s.discovering then answer kCancel tag .busy [] s
  else
    match s.order? id with
    | none => answer kCancel tag .unknownOrder [] s
    | some o =>
      match o.locker with
      | none => answer kCancel tag .ok [] (removeOrder id s)
      | some n => cancelPlaced tag id n s

/-- CANCEL (R42). -/
def execCancel (tag id : Nat) (s : State) : Host.Outcome State Fault Refusal :=
  .next (takeRequest (serveCancel tag id) s)

/-! ### EXTEND (R63 to R65) -/

/-- The hold life raised, and warned cleared where it is then above warn (R65). -/
def extendHold (warn seconds : Nat) (h : Hold) : Hold :=
  let life := min (h.life + seconds) 7200
  { h with life := life, warned := if warn < life then false else h.warned }

/-- EXTEND of an order that has passed the checks: the budget before loading (R64), the hold life after (R65). -/
def applyExtend (tag seconds : Nat) (o : Order) (s : State) : State :=
  match o.hold with
  | none =>
    let b := min (o.budget + seconds) 7200
    answer kExtend tag (if 7200 < o.budget + seconds then .okClamped else .ok) [.b1 0, .b2 b]
      (s.modOrder o.id fun o => { o with budget := b })
  | some h =>
    let h' := extendHold (s.profile o.profile).warn seconds h
    answer kExtend tag (if 7200 < h.life + seconds then .okClamped else .ok) [.b1 1, .b2 h'.life]
      (s.modOrder o.id fun o => { o with hold := some h' })

def serveExtend (tag id seconds : Nat) (s : State) : State :=
  if s.discovering then answer kExtend tag .busy [] s
  else if seconds = 0 ∨ 3600 < seconds then answer kExtend tag .badArgument [] s
  else
    match s.order? id with
    | none => answer kExtend tag .unknownOrder [] s
    | some o =>
      if s.sst.strictHold then answer kExtend tag .strict [] s
      else if o.condemned.isSome then answer kExtend tag .tooLate [] s
      else applyExtend tag seconds o s

/-- EXTEND (R63). -/
def execExtend (tag id seconds : Nat) (s : State) : Host.Outcome State Fault Refusal :=
  .next (takeRequest (serveExtend tag id seconds) s)

/-! ### LOAD_OPEN, RELEASE, CLEAR (R44, R13, R15, R17) -/

/-- ORU's checks of a door request, then the rest of it on the order's locker (R44). -/
def withPlacedOrder (k : Kind) (tag id : Nat) (rest : Nat → State → State) (s : State) : State :=
  if s.discovering then answer k tag .busy [] s
  else
    match s.order? id with
    | none => answer k tag .unknownOrder [] s
    | some o =>
      match o.locker with
      | none => answer k tag .wrongPhase [] s
      | some n => rest n s

def serveLoadOpen (tag id : Nat) (s : State) : State :=
  withPlacedOrder kLoadOpen tag id
    (fun n s =>
      match checkLoadOpen (s.locker n) with
      | some st => answer kLoadOpen tag st [] s
      | none => takeDoorCommand .loadOpen tag n .k (fun s => s.modLocker n (Locker.enter .loading)) s) s

/-- LOAD_OPEN (R13). -/
def execLoadOpen (tag id : Nat) (s : State) : Host.Outcome State Fault Refusal :=
  .next (takeRequest (serveLoadOpen tag id) s)

def serveRelease (tag id : Nat) (s : State) : State :=
  withPlacedOrder kRelease tag id
    (fun n s =>
      match checkRelease s (s.locker n) with
      | some st => answer kRelease tag st [] s
      | none => takeDoorCommand .release tag n .c (fun s => s.modLocker n (Locker.enter .pickup)) s) s

/-- RELEASE (R15). -/
def execRelease (tag id : Nat) (s : State) : Host.Outcome State Fault Refusal :=
  .next (takeRequest (serveRelease tag id) s)

def serveClear (tag id : Nat) (s : State) : State :=
  withPlacedOrder kClear tag id
    (fun n s =>
      match checkClear (s.locker n) with
      | some st => answer kClear tag st [] s
      | none => takeDoorCommand .clear tag n .k (enterClearing n) s) s

/-- CLEAR (R17). -/
def execClear (tag id : Nat) (s : State) : Host.Outcome State Fault Refusal :=
  .next (takeRequest (serveClear tag id) s)

/-! ### QUERY_ORDER (R45) -/

/-- The record's fields in the order of R45, each group that applies. -/
def orderBody (s : State) (o : Order) : List Field :=
  let head : List Field :=
    [.b4 o.id, .b4 o.code, .b1 o.cls.code, .b1 o.profile, .b2 o.budget, .b2 o.deadline,
      .b1 (if o.isPending then 0 else 1), .opt1 (o.condemned.map Cause.code)]
  let place : List Field :=
    match o.status with
    | .pending age => [.b2 age, .b1 (queuePosition s o.id)]
    | .placed n age late => [.b1 n, .b1 (s.locker n).phase.code, .b2 age, .flag late, .b1 o.attempts]
  let hold : List Field :=
    match o.hold with
    | some h => [.b2 h.life, .b2 h.cold, .flag h.warned]
    | none => []
  head ++ place ++ hold

def serveQueryOrder (tag id : Nat) (s : State) : State :=
  if s.discovering then answer kQueryOrder tag .busy [] s
  else
    match s.order? id with
    | none => answer kQueryOrder tag .unknownOrder [] s
    | some o => answer kQueryOrder tag .ok (orderBody s o) s

/-- QUERY_ORDER (R45). -/
def execQueryOrder (tag id : Nat) (s : State) : Host.Outcome State Fault Refusal :=
  .next (takeRequest (serveQueryOrder tag id) s)

end Sys2Proof.Machine
end

