-- ==== Sys2Proof/Machine/LinkEvents.lean ====
section
/-! DEFINITION. The events of the concourse link (chapter 07): a received byte, the gap, the silence, the end of a
transmission. -/

namespace Sys2Proof.Machine

/-! ### RECEIVE_BYTE (R133 to R138) -/

/-- A request handed to the unit that serves it (R138); a command that is no request has no unit here. -/
def serveRequest (i : Instr) (s : State) : State :=
  match i with
  | .book t o c k p b d => serveBook t o c k p b d s
  | .cancel t o => serveCancel t o s
  | .extend t o n => serveExtend t o n s
  | .loadOpen t o => serveLoadOpen t o s
  | .release t o => serveRelease t o s
  | .clear t o => serveClear t o s
  | .queryOrder t o => serveQueryOrder t o s
  | .lamp t l p => serveLamp t l p s
  | .label t l x => serveLabel t l x s
  | .moduleWrite t l n v => serveModuleWrite t l n v s
  | .moduleRead t l n => serveModuleRead t l n s
  | .abort t a => serveAbort t a s
  | .tableRead t a n => serveTableRead t a n s
  | .tableWrite t n r => serveTableWrite t n r s
  | .paramGet t p => serveParamGet t p s
  | .paramSet t p v => serveParamSet t p v s
  | .store t => serveStore t s
  | .rescan t => serveRescan t s
  | .bankReset t => serveBankReset t s
  | .serviceOn t l => serveServiceOn t l s
  | .serviceOff t l => serveServiceOff t l s
  | .serviceUnlatch t l d => serveServiceUnlatch t l d s
  | .clearLocker t l => serveClearLocker t l s
  | .status t => serveStatus t s
  | .restart t => serveRestart t s
  | .receiveByte _ | .gapTimerExpiry | .silenceTimerExpiry | .transmitEnd | .scan _ | .windowTimerExpiry
  | .lockoutTimerExpiry | .powerOn .. | .holdTick | .frameStart .. | .pollGapTimerExpiry | .doorHeld _
  | .pulseEnd | .quietEnd | .storeEnd _ | .replyReceived _ | .replyTimeout | .broadcastEnd => s

/-- A taken request with its class, kind, tag and payload: served, or answered by LKI (R137). -/
def serveFrame (cls kind tag : Nat) (p : List Byte) (s : State) : State :=
  match decodeRequest cls kind tag p with
  | .request i => serveRequest i s
  | .unknownKind => answer ⟨cls, kind⟩ tag .unknownKind [] s
  | .badLength => answer ⟨cls, kind⟩ tag .badArgument [] s

def State.setRx (s : State) (r : RxFramer) (gap : Option Nat) : State :=
  s.withLki { s.lki with rx := r, gapTimer := gap }

/-- A frame is complete: `bytes` from the length byte through the last payload byte, and the received check. A valid
one is taken, one that fails its check or class is discarded (R134, R136). -/
def completeFrame (bytes : List Byte) (check : Nat) (s : State) : State :=
  let s := s.setRx .hunt none
  if crc16 bytes ≠ check then discardFrame .crc s
  else
    let cls := rd1 bytes 1
    if cls = clsOrder ∨ cls = clsModule ∨ cls = clsMgmt then
      takeRequest (serveFrame cls (rd1 bytes 2) (rd1 bytes 3) (bytes.drop 4)) s
    else discardFrame .cls s

/-- One received byte, by the receive framer's state (R133). -/
def receive (b : Byte) (s : State) : State :=
  match s.lki.rx with
  | .hunt => if b = 0xC3 then s.setRx .length (some 0) else s
  | .length =>
    if 4 ≤ b ∧ b ≤ 250 then s.setRx (.body b [b]) (some 0)
    else discardFrame .length (s.setRx .hunt none)
  | .body len bytes =>
    let bytes := bytes ++ [b]
    if bytes.length = len then s.setRx (.crc bytes none) (some 0) else s.setRx (.body len bytes) (some 0)
  | .crc bytes none => s.setRx (.crc bytes (some b)) (some 0)
  | .crc bytes (some hi) => completeFrame bytes (hi * 256 + b) s

/-- RECEIVE_BYTE (R133). -/
def execReceiveByte (b : Byte) (s : State) : Host.Outcome State Fault Refusal := .next (receive b s.clearPorts)

/-! ### Timers of the link -/

/-- The time left to the end of a running timer (log entry 2). -/
def remaining (limit elapsed : Nat) : Nat := limit - elapsed

/-- GAP_TIMER_EXPIRY: the frame in progress is discarded with cause GAP, the framer hunts, the timer stops (R133);
nothing while the timer is stopped (log entry 3). -/
def execGapTimerExpiry (s : State) : Host.Outcome State Fault Refusal :=
  let s := s.clearPorts
  match s.lki.gapTimer with
  | none => .next s
  | some e => .next (discardFrame .gap ((s.elapse (remaining 5 e)).setRx .hunt none))

/-- Island begins: flag, island start, entry count (R146). -/
def enterIsland (s : State) : State :=
  s.withLki
    { s.lki with
      island := true
      islandStart := some s.uptimeSeconds
      islandEntries := satAdd 65535 s.lki.islandEntries 1 }

/-- SILENCE_TIMER_EXPIRY: the timer reaches LINK_SILENCE_S and LKI enters island (R145, R146); nothing while the timer
is stopped, while LINK_SILENCE_S is 0, or during island (R145; log entry 3). -/
def execSilenceTimerExpiry (s : State) : Host.Outcome State Fault Refusal :=
  let s := s.clearPorts
  match s.lki.silenceTimer with
  | none => .next s
  | some e =>
    if s.params.linkSilenceS = 0 ∨ s.lki.island then .next s
    else .next (enterIsland (s.elapse (remaining (s.params.linkSilenceS * 1000) e)))

/-- TRANSMIT_END: the frame in transmission ends and the transmit framer chooses the next (R140); nothing while it is
IDLE (log entry 3). -/
def execTransmitEnd (s : State) : Host.Outcome State Fault Refusal :=
  let s := s.clearPorts
  if s.lki.tx.isNone then .next s else .next (chooseTransmit (s.withLki { s.lki with tx := none }))

end Sys2Proof.Machine
end

