-- ==== Sys2Proof/Machine/PanelEvents.lean ====
section
/-! DEFINITION. The events of the panel (chapter 08): a scan, the end of the unknown-code window, the end of a
lockout. -/

namespace Sys2Proof.Machine

/-! ### SCAN (R156 to R162) -/

/-- Whether a character is a decimal digit. -/
def isDigit (c : Nat) : Bool := decide (48 ≤ c) && decide (c ≤ 57)

/-- The code of a scan: exactly eight characters, each a decimal digit (R156). -/
def scanCode (chars : List Nat) : Option Nat :=
  if chars.length = 8 ∧ chars.all isDigit then some (chars.foldl (fun v c => v * 10 + (c - 48)) 0) else none

/-- A refusal on the panel: its message and PANEL_REFUSED with its cause (R156, R157, R158). -/
def refuseScan (m : PanelMessage) (c : PanelCause) (id n : Option Nat) (s : State) : State :=
  reportRefused m c id n (display m s)

/-- A scan counted as unknown: the window's count, or with the fifth the lockout (R161, R162). -/
def countUnknown (s : State) : State :=
  match s.pni.unknownCount with
  | 0 => display .unknown { s with pni := { s.pni with unknownCount := 1, windowTimer := some 0 } }
  | 1 | 2 | 3 => display .unknown { s with pni := { s.pni with unknownCount := s.pni.unknownCount + 1 } }
  | _ =>
    let s := { s with pni := { s.pni with unknownCount := 0, windowTimer := none, lockoutTimer := some 0 } }
    submit .panelLockout [.b4 (uptimeOfSeconds (s.uptimeSeconds + 30))] (display .lockedOut s)

/-- LTU's status of a refused panel release as message and cause (R158). -/
def releaseRefusal : Status → PanelMessage × PanelCause
  | .tooLate => (.expired, .tooLate)
  | .offline => (.outOfService, .offline)
  | .interlock => (.outOfService, .interlock)
  | _ => (.outOfService, .wrongPhase)

/-- A panel release: LTU's checks, TXU's checks, then the entry, PICKUP, and the outstanding release as one event
(R158, R119). -/
def panelRelease (id n : Nat) (s : State) : State :=
  match checkRelease s (s.locker n) with
  | some st => let r := releaseRefusal st; refuseScan r.1 r.2 (some id) (some n) s
  | none =>
    if tableTakes s n then
      let s := addEntry .panel none .panelRelease n (some .c) none s
      let s := s.modLocker n (Locker.enter .pickup)
      chooseBus { s with pni := { s.pni with releases := s.pni.releases ++ [(n, id)] } }
    else refuseScan .busy .table (some id) (some n) s

/-- What PNI decides on the order ORU found for a code (R157). -/
def decideScan (o : Order) (s : State) : State :=
  if o.condemned.isSome then refuseScan .expired .condemned (some o.id) o.locker s
  else
    match o.locker with
    | none => refuseScan .notReady .notLoaded (some o.id) none s
    | some n =>
      if o.loaded = false then refuseScan .notReady .notLoaded (some o.id) (some n) s
      else if (s.locker n).phase = .pickup then refuseScan .busy .inPickup (some o.id) (some n) s
      else panelRelease o.id n s

/-- The order a code names, through the code map (R33, R157). -/
def orderOfCode (s : State) (code : Nat) : Option Order :=
  ((s.oru.codeMap.find? fun e => e.1 == code).map Prod.snd).bind s.order?

/-- A scan, by the checks of R156 and R157 in order. -/
def takeScan (chars : List Nat) (s : State) : State :=
  if lockedOut s then refuseScan .lockedOut .lockout none none s
  else if s.params.panelEnable = false then refuseScan .notAvailable .disabled none none s
  else if s.discovering then refuseScan .busy .discovery none none s
  else
    match scanCode chars with
    | none => countUnknown s
    | some code =>
      match orderOfCode s code with
      | none => countUnknown s
      | some o => decideScan o s

/-- SCAN (R156). -/
def execScan (chars : List Nat) (s : State) : Host.Outcome State Fault Refusal :=
  .next (chooseTransmit (takeScan chars s.clearPorts))

/-- WINDOW_TIMER_EXPIRY: the count returns to 0 and the timer stops (R161); nothing while it is stopped
(log entry 3). -/
def execWindowTimerExpiry (s : State) : Host.Outcome State Fault Refusal :=
  let s := s.clearPorts
  match s.pni.windowTimer with
  | none => .next s
  | some e =>
    let s := s.elapse (60000 - e)
    .next { s with pni := { s.pni with unknownCount := 0, windowTimer := none } }

/-- LOCKOUT_TIMER_EXPIRY: the timer stops and the panel is no longer locked out (R162); nothing while it is stopped
(log entry 3). -/
def execLockoutTimerExpiry (s : State) : Host.Outcome State Fault Refusal :=
  let s := s.clearPorts
  match s.pni.lockoutTimer with
  | none => .next s
  | some e =>
    let s := s.elapse (30000 - e)
    .next { s with pni := { s.pni with lockoutTimer := none } }

end Sys2Proof.Machine
end

