-- ==== Sys2Proof/Machine/Power.lean ====
section
/-! DEFINITION. Power-on (R186): the power-on values of every unit and the four steps that follow them. -/

namespace Sys2Proof.Machine

/-- LKI at power-on (R132). -/
def Lki.powerOn : Lki where
  rx := .hunt
  gapTimer := none
  tx := none
  answerQ := []
  placesHeld := 0
  reportQ := []
  lostReports := 0
  silenceTimer := none
  island := false
  islandStart := none
  errors := ⟨0, 0, 0, 0, 0, 0⟩
  islandEntries := 0

/-- TXU at power-on (R115), the long-operation place held by POWER_ON_DISCOVERY (R127). -/
def Txu.powerOn : Txu where
  table := []
  posted := []
  nextSeq := 0
  recent := []
  longOp := some ⟨.powerOnDiscovery, none⟩
  postedLost := 0

/-- BBM at power-on (R89): the line released and IDLE. -/
def Bbm.powerOn : Bbm where
  exchange := none
  lastWinner := .poll
  mapState := .none
  cycle := .stopped
  cursor := 0
  pollGap := none
  line := .idle
  lineMs := 0
  failedExchanges := 0
  failedPolls := 0

/-- A locker record at power-on: the layout copied, the fence computed, ABSENT or OFFLINE with no resume phase, every
other field at its power-on value (R1, R2, R6). -/
def Locker.powerOn (w : Settings) (n : Nat) : Locker :=
  let e := vget w.layout n ⟨false, .medium, 0, 50⟩
  { Locker.blank.copyLayout e with
    fenced := fenceCovers w.params n
    phase := if e.populated then .offline else .absent }

/-- ORU at power-on (R32). -/
def Oru.powerOn : Oru where
  orders := []
  codeMap := []
  queue := []
  freeSmall := []
  freeMedium := []
  freeLarge := []

/-- HTA at power-on (R68). -/
def Hta.powerOn : Hta where
  frameTimer := none
  budgets := vinit 4 fun _ => 0
  shed := vinit 4 fun _ => false
  rotation := vinit 12 fun _ => 0
  heatMap := vinit 48 fun _ => []

/-- SST at power-on: STRICT_HOLD false, no STORE running, both copies as they are, the working copy loaded from one of
them or the factory values (R165, R167, R184). -/
def Sst.powerOn (t : Sst) : Sst :=
  let base : Sst :=
    { t with strictHold := false, busy := false, snapshot := none, target := none }
  match loadedCopy t.copyA t.copyB with
  | some c => { base with working := c.settings, source := .stored }
  | none => { base with working := Settings.factory, source := .factory }

/-- Every unit at its power-on values with the settings loaded and the lockers given their layout: steps 1 to 3 of
R186. The waiting commands and the levels of the shed lines are not the controller's. -/
def State.powerOnValues (shed : Vector Bool 4) (s : State) : State :=
  let sst := s.sst.powerOn
  { pending := s.pending
    ports := []
    upMs := 0
    shedLines := shed
    lki := Lki.powerOn
    txu := Txu.powerOn
    bbm := Bbm.powerOn
    ltu :=
      { lockers := vinit 48 (Locker.powerOn sst.working), discovery := none, probeCursor := 0, probing := none,
        answered := 0 }
    oru := Oru.powerOn
    hau := ⟨none⟩
    hta := Hta.powerOn
    pni := ⟨0, none, none, []⟩
    sst := sst }

/-- The levels of the four shed lines. -/
def shedLevels (l0 l1 l2 l3 : Bool) : Vector Bool 4 := #v[l0, l1, l2, l3]

/-- POWER_ON: the power-on values, then discovery of kind POWER_ON begins (R186). The operands are the levels of
SHED0..SHED3 from this event on (log entry 10). -/
def execPowerOn (l0 l1 l2 l3 : Bool) (s : State) : Host.Outcome State Fault Refusal :=
  .next (beginDiscovery .powerOn (s.powerOnValues (shedLevels l0 l1 l2 l3)))

end Sys2Proof.Machine
end

