-- ==== Sys2Proof/Machine/Hold.lean ====
section
/-! DEFINITION. The hold tick (chapter 03, and 2.9): HAU's charges, then ORU's pending ages, then its reserved
ages. -/

namespace Sys2Proof.Machine

/-! ### The charge (R57 to R61) -/

/-- The wear of one tick (R59). -/
def wear (floor : Int) : Option Int → Nat
  | none => 8
  | some t => if floor ≤ t then 1 else min 8 (1 + ((floor - t) / 50).toNat)

/-- Whether the tick adds a second of cold exposure (R59). -/
def exposes (floor : Int) : Option Int → Bool
  | none => true
  | some t => decide (t < floor)

/-- The hold fields after the charge of one tick (R59). -/
def Hold.charge (floor : Int) (sample : Option Int) (h : Hold) : Hold :=
  { h with
    life := h.life - wear floor sample
    cold := if exposes floor sample then satAdd 65535 h.cold 1 else h.cold }

/-- Why a charged meal is condemned (R60). -/
def Hold.verdict (coldLimit : Nat) (h : Hold) : Option Cause :=
  if h.life = 0 then some .expired else if coldLimit ≤ h.cold then some .cold else none

/-- The phases in which a loaded, not condemned order is charged (R57). -/
def chargedPhase (l : Locker) : Bool :=
  decide (l.phase = .holding) || decide (l.phase = .pickup) ||
    (decide (l.phase = .offline) && decide (l.resume = some .holding))

/-- The charge of one order with the condemnation request or NEAR_EXPIRY it causes (R59 to R61, R67). ORU acts on the
request at once, so that CONDEMNED and NEAR_EXPIRY of one tick follow one order of lockers, the model's choice
(log entry 31). -/
def chargeOrder (n : Nat) (l : Locker) (o : Order) (h : Hold) (s : State) : State :=
  let p := s.profile o.profile
  let h' := h.charge p.floor (freshSample s l)
  match h'.verdict p.coldLimit with
  | some c => condemn o.id c (s.modOrder o.id fun o => { o with hold := some h' })
  | none =>
    if h'.warned = false ∧ h'.life ≤ p.warn then
      submit .nearExpiry [.b4 o.id, .b1 n, .b2 h'.life, .b2 p.warn]
        (s.modOrder o.id fun o => { o with hold := some { h' with warned := true } })
    else s.modOrder o.id fun o => { o with hold := some h' }

/-- The order of locker `n` charged, if it is to be (R57). -/
def chargeLocker (n : Nat) (s : State) : State :=
  let l := s.locker n
  match heldOrder s l with
  | some o =>
    match o.hold with
    | some h => if chargedPhase l && o.condemned.isNone then chargeOrder n l o h s else s
    | none => s
  | none => s

/-! ### Ages (R46, R47) -/

def Order.agePending (o : Order) : Order :=
  match o.status with
  | .pending a => { o with status := .pending (satAdd 65535 a 1) }
  | .placed .. => o

/-- Whether a pending order has expired (R46). -/
def pendingExpired (wait : Nat) (o : Order) : Bool :=
  match o.status with
  | .pending a => decide (wait ≠ 0) && decide (wait ≤ a)
  | .placed .. => false

/-- The expiry of one order of the queue: BOOK_EXPIRED and removal (R46). -/
def expirePending (id : Nat) (s : State) : State :=
  match s.order? id with
  | some o =>
    match o.status with
    | .pending a =>
      if pendingExpired s.params.pendingWaitS o then removeOrder id (submit .bookExpired [.b4 id, .b2 a] s) else s
    | .placed .. => s
  | none => s

/-- Pending ages advance; the expired leave in queue order (R46). -/
def agePendingOrders (s : State) : State :=
  let s := { s with oru := { s.oru with orders := s.oru.orders.map Order.agePending } }
  s.oru.queue.foldl (fun s id => expirePending id s) s

/-- The reserved age of an order not yet loaded (R47). -/
def Order.ageReserved (o : Order) : Order :=
  match o.status with
  | .placed n a late => if o.loaded then o else { o with status := .placed n (satAdd 65535 a 1) late }
  | .pending _ => o

/-- Whether LOAD_LATE falls due (R47). -/
def loadLateDue (o : Order) : Bool :=
  match o.status with
  | .placed _ a late => !o.loaded && decide (o.deadline ≠ 0) && decide (o.deadline ≤ a) && !late
  | .pending _ => false

/-- LOAD_LATE once (R47). -/
def examineLoadLate (o : Order) (s : State) : State :=
  match o.status with
  | .placed n a _ =>
    if loadLateDue o then
      submit .loadLate [.b4 o.id, .b1 n, .b2 o.deadline]
        (s.modOrder o.id fun o => { o with status := .placed n a true })
    else s
  | .pending _ => s

/-- An order takes its place in a list by rank. -/
def insertByRank (rank : Order → Nat) (o : Order) : List Order → List Order
  | [] => [o]
  | x :: rest => if rank o ≤ rank x then o :: x :: rest else x :: insertByRank rank o rest

/-- Orders by rank. -/
def sortByRank (rank : Order → Nat) (os : List Order) : List Order := os.foldr (insertByRank rank) []

/-- Reserved ages advance; LOAD_LATE for the orders due. R47 gives several of one tick no order among themselves, so
their order is free (log entry 12). -/
def ageReservedOrders (s : State) : State :=
  let s := { s with oru := { s.oru with orders := s.oru.orders.map Order.ageReserved } }
  (sortByRank (fun o => Config.lateRank s.upMs o.id) (s.oru.orders.filter loadLateDue)).foldl
    (fun s o => examineLoadLate o s) s

/-- One hold tick: charges in increasing locker index, then pending ages, then reserved ages (R56, R57). -/
def holdTick (s : State) : State :=
  ageReservedOrders (agePendingOrders (Config.allLockers.foldl (fun s n => chargeLocker n s) s))

end Sys2Proof.Machine
end

