-- ==== Sys2Proof/Machine/TimerEvents.lean ====
section
/-! DEFINITION. The events of the controller's own timers: hold tick, frame start, poll gap, door held, the reset
line, and the end of a STORE. An expiry lets the rest of its period pass first (log entry 2) and changes nothing while
its timer is stopped (log entry 3). -/

namespace Sys2Proof.Machine

/-- HOLD_TICK: the tick timer expires, the next period starts, the tick is taken (R56). -/
def execHoldTick (s : State) : Host.Outcome State Fault Refusal :=
  let s := s.clearPorts
  match s.hau.tickTimer with
  | none => .next s
  | some e =>
    let s := s.elapse (1000 - e)
    .next (chooseTransmit (holdTick { s with hau := { s.hau with tickTimer := some 0 } }))

/-- FRAME_START: the frame timer reaches 2000 ms; the steps of R71 under the shed levels given, which stand from this
event on (R69, R70). While the timer is stopped there is no frame start, and the command only brings the lines to
these levels, so that the first frame start samples them as they then stand (R73; log entry 10). -/
def execFrameStart (l0 l1 l2 l3 : Bool) (s : State) : Host.Outcome State Fault Refusal :=
  let s := s.clearPorts
  match s.hta.frameTimer with
  | none => .next (s.setShedLines l0 l1 l2 l3)
  | some e => .next (chooseTransmit (chooseBus (frameStart ((s.elapse (2000 - e)).setShedLines l0 l1 l2 l3))))

/-- POLL_GAP_TIMER_EXPIRY: a poll cycle begins (R99). -/
def execPollGapTimerExpiry (s : State) : Host.Outcome State Fault Refusal :=
  let s := s.clearPorts
  match s.bbm.pollGap with
  | none => .next s
  | some (e, len) => .next (chooseTransmit (chooseBus (beginCycle (s.elapse (len - e)))))

/-- The milliseconds until DOOR_HELD falls due for a locker: none where its watched door is not OPEN in the record,
its timer does not run, or DOOR_HELD has been reported (R19). The timer passes the limit one millisecond after it. -/
def doorHeldWait (s : State) (l : Locker) : Option Nat :=
  match l.phase.watched, l.transientTimer with
  | some d, some t =>
    if l.door d = .opened ∧ l.doorHeld ≠ some true then some (s.params.doorOpenLimitS * 1000 + 1 - t) else none
  | _, _ => none

/-- DOOR_HELD: the locker's transient timer passes DOOR_OPEN_LIMIT_S with the watched door OPEN (R19). -/
def execDoorHeld (n : Nat) (s : State) : Host.Outcome State Fault Refusal :=
  let s := s.clearPorts
  match doorHeldWait s (s.locker n) with
  | none => .next s
  | some d => .next (chooseTransmit (examineDoorHeld n (s.elapse d)))

/-- PULSE_END: after 100 ms the line is released and the quiet time begins (R108). -/
def execPulseEnd (s : State) : Host.Outcome State Fault Refusal :=
  let s := s.clearPorts
  if s.bbm.line = .pulse then
    let s := s.elapse (100 - s.bbm.lineMs)
    .next (s.withBbm { s.bbm with line := .quiet, lineMs := 0 })
  else .next s

/-- The end notice of BBM: to discovery where its stage is RESET, else to TXU for a BANK_RESET (R108, R128, R188). -/
def endNotice (s : State) : State :=
  match s.ltu.discovery with
  | some ⟨_, .reset⟩ => beginProbing s
  | _ =>
    match s.txu.longOp with
    | some ⟨.bankReset, _⟩ => endLongOp .ok s
    | _ => s

/-- The cycle returned to its start by a bank reset begins again; it ends at once where no locker is to be polled
(R99, R109, R110). -/
def cycleAfterQuiet (s : State) : State :=
  if s.bbm.cycle = .running ∧ s.bbm.cursor = 0 ∧ (nextPolled s 0).isNone then startGap s else s

/-- QUIET_END: after 500 ms the line is IDLE, the end notice is handed and the bus becomes free (R108, R110). -/
def execQuietEnd (s : State) : Host.Outcome State Fault Refusal :=
  let s := s.clearPorts
  if s.bbm.line = .quiet then
    let s := s.elapse (500 - s.bbm.lineMs)
    let s := s.withBbm { s.bbm with line := .idle, lineMs := 0 }
    .next (chooseTransmit (chooseBus (cycleAfterQuiet (endNotice s))))
  else .next s

/-- STORE_END: the write and the read-back of the copy are done (R182); nothing while no STORE runs. -/
def execStoreEnd (readBackGood : Bool) (s : State) : Host.Outcome State Fault Refusal :=
  let s := s.clearPorts
  if s.sst.busy then
    .next (chooseTransmit (endLongOp (if readBackGood then .ok else .storeFault) (finishStore readBackGood s)))
  else .next s

end Sys2Proof.Machine
end

