-- ==== Sys2Proof/Machine/Dispatch.lean ====
section
/-! DEFINITION. The meaning of each command, one arm each. -/

namespace Sys2Proof.Machine

def exec (i : Instr) (s : State) : Host.Outcome State Fault Refusal :=
  match i with
  | .book tag order code cls profile budget deadline => Sys2Proof.Machine.execBook tag order code cls profile budget deadline s
  | .cancel tag order => Sys2Proof.Machine.execCancel tag order s
  | .extend tag order seconds => Sys2Proof.Machine.execExtend tag order seconds s
  | .loadOpen tag order => Sys2Proof.Machine.execLoadOpen tag order s
  | .release tag order => Sys2Proof.Machine.execRelease tag order s
  | .clear tag order => Sys2Proof.Machine.execClear tag order s
  | .queryOrder tag order => Sys2Proof.Machine.execQueryOrder tag order s
  | .lamp tag locker pattern => Sys2Proof.Machine.execLamp tag locker pattern s
  | .label tag locker text => Sys2Proof.Machine.execLabel tag locker text s
  | .moduleWrite tag locker item value => Sys2Proof.Machine.execModuleWrite tag locker item value s
  | .moduleRead tag locker item => Sys2Proof.Machine.execModuleRead tag locker item s
  | .abort tag target => Sys2Proof.Machine.execAbort tag target s
  | .tableRead tag table index => Sys2Proof.Machine.execTableRead tag table index s
  | .tableWrite tag index record => Sys2Proof.Machine.execTableWrite tag index record s
  | .paramGet tag param => Sys2Proof.Machine.execParamGet tag param s
  | .paramSet tag param value => Sys2Proof.Machine.execParamSet tag param value s
  | .store tag => Sys2Proof.Machine.execStore tag s
  | .rescan tag => Sys2Proof.Machine.execRescan tag s
  | .bankReset tag => Sys2Proof.Machine.execBankReset tag s
  | .serviceOn tag locker => Sys2Proof.Machine.execServiceOn tag locker s
  | .serviceOff tag locker => Sys2Proof.Machine.execServiceOff tag locker s
  | .serviceUnlatch tag locker door => Sys2Proof.Machine.execServiceUnlatch tag locker door s
  | .clearLocker tag locker => Sys2Proof.Machine.execClearLocker tag locker s
  | .status tag => Sys2Proof.Machine.execStatus tag s
  | .restart tag => Sys2Proof.Machine.execRestart tag s
  | .receiveByte byte => Sys2Proof.Machine.execReceiveByte byte s
  | .gapTimerExpiry => Sys2Proof.Machine.execGapTimerExpiry s
  | .silenceTimerExpiry => Sys2Proof.Machine.execSilenceTimerExpiry s
  | .transmitEnd => Sys2Proof.Machine.execTransmitEnd s
  | .scan chars => Sys2Proof.Machine.execScan chars s
  | .windowTimerExpiry => Sys2Proof.Machine.execWindowTimerExpiry s
  | .lockoutTimerExpiry => Sys2Proof.Machine.execLockoutTimerExpiry s
  | .powerOn shed0 shed1 shed2 shed3 => Sys2Proof.Machine.execPowerOn shed0 shed1 shed2 shed3 s
  | .holdTick => Sys2Proof.Machine.execHoldTick s
  | .frameStart shed0 shed1 shed2 shed3 => Sys2Proof.Machine.execFrameStart shed0 shed1 shed2 shed3 s
  | .pollGapTimerExpiry => Sys2Proof.Machine.execPollGapTimerExpiry s
  | .doorHeld locker => Sys2Proof.Machine.execDoorHeld locker s
  | .pulseEnd => Sys2Proof.Machine.execPulseEnd s
  | .quietEnd => Sys2Proof.Machine.execQuietEnd s
  | .storeEnd readBackGood => Sys2Proof.Machine.execStoreEnd readBackGood s
  | .replyReceived frame => Sys2Proof.Machine.execReplyReceived frame s
  | .replyTimeout => Sys2Proof.Machine.execReplyTimeout s
  | .broadcastEnd => Sys2Proof.Machine.execBroadcastEnd s

end Sys2Proof.Machine
end

