-- ==== Sys2Proof/Machine/Step.lean ====
section
/-! DEFINITION. One step of the controller: the command at the front of its queue, or a millisecond of rest. -/

namespace Sys2Proof.Machine

/-- Takes the command at the front of the queue and answers its outcome with the queue's rest; on an empty queue the
controller rests and a millisecond passes (log entry 1). -/
def step (s : State) : Host.Outcome State Fault Refusal :=
  match s.pending with
  | [] => .next (s.clearPorts.elapse 1)
  | c :: rest => exec c { s with pending := rest }

/-- The command that a word spells by the opcode table's bits, put at the front of the queue; the state unchanged
where the word spells none, as every word does here, since the table gives no row any bits (log entry 25). -/
def State.withFetchWord (s : State) (nbits w : Nat) : State :=
  match decodeTableWord nbits w with
  | some c => { s with pending := c :: s.pending }
  | none => s

end Sys2Proof.Machine
end

