-- ==== Sys2Proof/Machine/Module.lean ====
section
/-! DEFINITION. The locker module as bus partner (section 5.7, R103 to R107): a machine of its own at the far end of
the bank bus, outside the controller's State. It says what the replies the controller takes are made of; no command of
the controller runs it. -/

namespace Sys2Proof.Machine

/-- One door of a module: shut or not, its latch released or engaged, the milliseconds left of its window, whether it
has opened since the release, its open count, whether its latch works (R103, R104). -/
structure ModuleDoor where
  shut : Bool
  released : Bool
  windowMs : Option Nat
  opened : Bool
  count : Nat
  latchWorks : Bool
  deriving DecidableEq, Repr

/-- A map in use: milliseconds since the frame start the module placed, and the slots of its own list (R105). -/
structure ModuleMap where
  ageMs : Nat
  slots : List Nat
  deriving DecidableEq, Repr

/-- A locker module (R103 to R107). `probe` is absent while the probe has failed. `latchFault`, `occupancyFault` and
`heaterFault` are the faults it holds; `latchWorks` of its doors, `sensorWorks` and `heaterWorks` say whether the cause
of such a fault persists. `startTakes` is the time this module takes to start, of which R107 says only that it is up to
500 ms, and `startMs` what is left of it. `items` holds the settings and counters the module has, as item number, value
and the highest value it takes. `patterns` counts the lamp patterns it has (log entry 27). -/
structure LockerModule where
  k : ModuleDoor
  c : ModuleDoor
  occupancy : Occupancy
  probe : Option Int
  latchFault : Bool
  occupancyFault : Bool
  heaterFault : Bool
  sensorWorks : Bool
  heaterWorks : Bool
  map : Option ModuleMap
  startTakes : Nat
  startMs : Nat
  lamp : Nat
  strip : List Byte
  patterns : Nat
  items : List (Nat × Nat × Nat)
  defaults : List (Nat × Nat × Nat)
  deriving DecidableEq, Repr

def LockerModule.door (m : LockerModule) : Door → ModuleDoor | .k => m.k | .c => m.c

def LockerModule.setDoor (m : LockerModule) (d : Door) (x : ModuleDoor) : LockerModule :=
  match d with
  | .k => { m with k := x }
  | .c => { m with c := x }

/-- LATCHED, CLOSED or OPEN, as the module reports a door (R104). -/
def ModuleDoor.state (x : ModuleDoor) : DoorState :=
  if x.shut = false then .opened else if x.released then .closed else .latched

/-! ### UNLATCH (R103) -/

/-- The checks of an UNLATCH, in order; none when all pass (R103). -/
def LockerModule.checkUnlatch (m : LockerModule) (d : Door) (window : Nat) : Option Reason :=
  if window < 5 ∨ 60 < window then some .badRequest
  else if (m.door d).latchWorks = false then some .latchFault
  else if (m.door d.other).state ≠ .latched then some .interlock
  else none

/-- An UNLATCH for the door a payload names: the latch released and the window started, or a refusal (R103). -/
def LockerModule.unlatch (m : LockerModule) (door window : Nat) : LockerModule × Reply :=
  match Door.ofCode door with
  | none => (m, .refused .badRequest)
  | some d =>
    match m.checkUnlatch d window with
    | some r => (m, .refused r)
    | none =>
      let x := m.door d
      (m.setDoor d
        { x with released := true, windowMs := some (window * 1000), opened := if x.released then x.opened else false },
        .ok)

/-- A door goes from shut to not shut: its count moves, whether released or forced (R104). -/
def ModuleDoor.openDoor (x : ModuleDoor) : ModuleDoor :=
  if x.shut then { x with shut := false, opened := true, count := (x.count + 1) % 256 } else x

/-- A door closes: the module latches it, and its window ends (R103). -/
def ModuleDoor.closeDoor (x : ModuleDoor) : ModuleDoor :=
  if x.shut then x else { x with shut := true, released := false, windowMs := none, opened := false }

/-- `d` ms pass at a door: at the window's end a door that has not opened is latched, one that stands open stays
released until it closes (R103). -/
def ModuleDoor.after (d : Nat) (x : ModuleDoor) : ModuleDoor :=
  match x.windowMs with
  | none => x
  | some w =>
    if d < w then { x with windowMs := some (w - d) }
    else if x.shut then { x with windowMs := none, released := false, opened := false }
    else { x with windowMs := none }

/-! ### Heating (R105) -/

/-- A map with frame offset `f` has been received, its broadcast begun `took` ms ago: it replaces the one in use, with
the frame start `f` ms before the beginning of the broadcast (R105). -/
def LockerModule.takeMap (m : LockerModule) (f took : Nat) (slots : List Nat) : LockerModule :=
  { m with map := some ⟨f + took, slots⟩ }

/-- Whether the heater is on now: in a slot of the module's list, before 2000 ms after the frame start (R105). -/
def LockerModule.heaterOn (m : LockerModule) : Bool :=
  match m.map with
  | none => false
  | some x => decide (x.ageMs < 2000) && x.slots.contains (x.ageMs / 100)

/-- The faults whose cause persists are found (R107). -/
def LockerModule.findFaults (m : LockerModule) : LockerModule :=
  { m with
    latchFault := m.latchFault || !m.k.latchWorks || !m.c.latchWorks
    occupancyFault := m.occupancyFault || !m.sensorWorks
    heaterFault := m.heaterFault || !m.heaterWorks }

/-- Whether a module hears a request: not while it starts (R107). -/
def LockerModule.started (m : LockerModule) : Bool := decide (m.startMs = 0)

/-- `d` ms pass at a module. At the end of its start it finds the faults that persist, so that the first reply reports
them (R103, R105, R107). -/
def LockerModule.after (d : Nat) (m : LockerModule) : LockerModule :=
  let m' : LockerModule :=
    { m with
      k := m.k.after d
      c := m.c.after d
      map := m.map.map fun x => { x with ageMs := x.ageMs + d }
      startMs := m.startMs - d }
  if m.started = false ∧ m'.started = true then m'.findFaults else m'

/-! ### Observation and the other requests (R106) -/

/-- The most serious fault the module holds (R106). -/
def LockerModule.fault (m : LockerModule) : FaultCode :=
  if m.latchFault then .latchFault
  else if m.occupancyFault then .occupancyFault
  else if m.heaterFault then .heaterFault
  else .none

/-- The observation at the moment a POLL is answered (R106). -/
def LockerModule.observation (m : LockerModule) : Observation where
  sample := m.probe
  kDoor := m.k.state
  cDoor := m.c.state
  kCount := m.k.count
  cCount := m.c.count
  occupancy := m.occupancy
  fault := m.fault
  heaterOn := m.heaterOn

/-- One request to a module that has started, with its reply (R103, R106). A request of a kind R152 does not list, or
with a payload its kind does not have, a POLL with any payload bytes among them, is refused with BAD_REQUEST, the
model's choice (log entry 34). -/
def LockerModule.serve (m : LockerModule) (f : BusFrame) : LockerModule × Reply :=
  match f.kind, f.payload with
  | 0x01, [] => (m, .observation m.observation)
  | 0x02, [d, w] => m.unlatch d w
  | 0x03, [i] =>
    match m.items.find? fun x => x.1 == i with
    | some x => (m, .item x.2.1)
    | none => (m, .refused .badRequest)
  | 0x04, [p] => if p < m.patterns then ({ m with lamp := p }, .ok) else (m, .refused .badRequest)
  | 0x05, text => if text.length ≤ 24 then ({ m with strip := text }, .ok) else (m, .refused .badRequest)
  | 0x06, [i, hi, lo] =>
    match m.items.find? fun x => x.1 == i with
    | some x =>
      if hi * 256 + lo ≤ x.2.2 then
        ({ m with items := m.items.map fun y => if y.1 == i then (i, hi * 256 + lo, y.2.2) else y }, .ok)
      else (m, .refused .badRequest)
    | none => (m, .refused .badRequest)
  | _, _ => (m, .refused .badRequest)

/-- The reply frame of a module at position `n` (R152). -/
def Reply.frame (n : Nat) : Reply → BusFrame
  | .ok => ⟨n, 0x80, []⟩
  | .observation o => ⟨n, 0x81, encodeObservation o⟩
  | .item v => ⟨n, 0x83, (Field.b2 v).bytes⟩
  | .refused r => ⟨n, 0x8F, [r.code]⟩

/-! ### The bus at a module (R105, R107, R152, R153) -/

/-- The slots that the three bytes of a locker grant, in increasing order (R153). -/
def slotsOf (bytes : List Byte) : List Nat :=
  (List.range 20).filter fun k => (bytes.getD (k / 8) 0).testBit (k % 8)

/-- The frame offset of a HEAT_MAP payload and the list of the module at position `n` (R153). -/
def readHeatMap (n : Nat) (payload : List Byte) : Option (Nat × List Nat) :=
  if payload.length = 146 then some (rd2 payload 0, slotsOf ((payload.drop (2 + 3 * n)).take 3)) else none

/-- Bytes of a frame reach the module at position `n`, the frame begun `took` ms ago. A module that starts hears
nothing; a frame with a bad check is discarded; the module takes its own list from a HEAT_MAP, without a reply, and
serves the requests that carry its address (R105, R107, R152). -/
def LockerModule.receive (m : LockerModule) (n took : Nat) (bytes : List Byte) : LockerModule × Option Reply :=
  if m.started = false then (m, none)
  else
    match parseBusFrame bytes with
    | none => (m, none)
    | some f =>
      if f.addr = 0xFF ∧ f.kind = 0x07 then
        match readHeatMap n f.payload with
        | some x => (m.takeMap x.1 took x.2, none)
        | none => (m, none)
      else if f.addr = n then
        let r := m.serve f
        (r.1, some r.2)
      else (m, none)

/-! ### Reset (R107) -/

/-- A door at the module's reset: latch engaged, no window, count 0. A door that is not shut is latched as it closes,
and that opening is not counted (R107). -/
def ModuleDoor.reset (x : ModuleDoor) : ModuleDoor :=
  { x with released := false, windowMs := none, opened := false, count := 0 }

/-- The module's reset: on the bank reset line and at its own power-up (R107). It takes this module's own time to
start, up to 500 ms (log entry 35), and keeps no fault but those it finds again when the start ends. The indicator is
off, which is `lamp` 0, the same value as LAMP pattern 0: the model's choice (log entry 36). -/
def LockerModule.reset (m : LockerModule) : LockerModule :=
  let r : LockerModule :=
    { m with
      k := m.k.reset
      c := m.c.reset
      latchFault := false
      occupancyFault := false
      heaterFault := false
      map := none
      startMs := min m.startTakes 500
      lamp := 0
      strip := []
      items := m.defaults }
  if r.started then r.findFaults else r

end Sys2Proof.Machine
end

