-- ==== Sys2Proof/Safety.lean ====
section
/-! DEFINITION. The terms claims use: which parts of the state two states may differ in, and the invariants the manual
states as laws of the device. -/

namespace Sys2Proof.Machine

/-! ### What a step leaves alone -/

/-- `t` differs from `s` at most in the link interface and the outputs. -/
def OnlyLink (s t : State) : Prop := t = { s with ports := t.ports, lki := t.lki }

/-- `t` differs from `s` at most in the locker records, the orders, the link interface and the outputs. -/
def OnlyRecords (s t : State) : Prop :=
  t = { s with ports := t.ports, lki := t.lki, ltu := t.ltu, oru := t.oru }

/-- `t` differs from `s` at most in what giving the bus away can touch: the bus, the commands, the locker records,
the panel's outstanding releases, the link interface and the outputs. -/
def OnlyBusSide (s t : State) : Prop :=
  t = { s with
    ports := t.ports, lki := t.lki, txu := t.txu, bbm := t.bbm, ltu := t.ltu, oru := t.oru, pni := t.pni }

/-- Every locker record but that of `n` is the same in `s` and `t`. -/
def OtherLockersSame (n : Nat) (s t : State) : Prop := ∀ m, m ≠ n → t.locker m = s.locker m

/-- The requests that commands carry over the concourse link (R138). -/
def IsRequest (i : Instr) : Prop := (encodeRequest i).isSome

/-- Commands run one after another on a state, up to the first that stops. -/
def runCommands : List Instr → State → Host.Outcome State Fault Refusal
  | [], s => .next s
  | c :: rest, s =>
    match exec c s with
    | .next t => runCommands rest t
    | .fault f => .fault f
    | .refused r => .refused r

/-! ### What the end of a command leaves -/

/-- What the end of a door command with any outcome but OK makes of its locker's record: no unlatch pending, and the
reservation reverted where the phase is still the one the command entered (R12). -/
def Locker.reverted (s : State) (r : CmdRequest) (l : Locker) : Locker :=
  let l' : Locker := { l with unlatchPending := none }
  match r, l.phase with
  | .loadOpen, .loading => l'.enter .reserved
  | .release, .pickup | .panelRelease, .pickup => l'.enter (if orderCondemned s l then .condemned else .holding)
  | .clear, .clearing | .clearLocker, .clearing => l'.enter (l.clearOrigin.getD .quarantine)
  | _, _ => l'

/-- The WAITING entries, oldest first (R114). -/
def Txu.waitingInOrder (t : Txu) : List Entry := (waitingEntrySeqs t).filterMap (entryBySeq t)

/-- The order id of the outstanding release a panel entry belongs to, if there is one (R154, R159). -/
def State.releaseFor (s : State) (e : Entry) : Option Nat :=
  (s.pni.releases.find? fun r => r.1 == e.locker).map Prod.snd

/-! ### Laws of the device -/

/-- The capacities the manual states as laws: orders and pending orders (R30, R34), the transaction table (R112), the
posting queue (R113), the recent completions (R124), the report queue (R143), the answer places (R136). -/
def State.WithinCapacity (s : State) : Prop :=
  s.oru.orders.length ≤ 64 ∧ s.oru.queue.length ≤ 16 ∧ s.txu.table.length ≤ 8 ∧ s.txu.posted.length ≤ 8 ∧
    s.txu.recent.length ≤ 8 ∧ s.lki.reportQ.length ≤ 32 ∧ s.lki.placesHeld ≤ 32

/-- The answers still owed to the server for confirmed commands: the entries that carry a tag (R112). -/
def State.owed (s : State) : Nat := (s.txu.table.filter fun e => e.tag.isSome).length

/-- Every queued answer and every answer still owed has its place (R136). -/
def State.PlacesCover (s : State) : Prop :=
  s.lki.answerQ.length + s.owed ≤ s.lki.placesHeld ∧ s.lki.placesHeld ≤ 32

/-- The transmit framer never rests while a frame waits and island is clear (R140). -/
def State.TransmitSettled (s : State) : Prop :=
  s.lki.tx = none → s.lki.island = false → s.lki.answerQ = [] ∧ s.lki.reportQ = []

/-- The code map mirrors the order table, no order id and no pickup code stands twice (R33), and the pending queue
lists the PENDING orders in booking order (R34). -/
def State.OrdersConsistent (s : State) : Prop :=
  s.oru.codeMap = s.oru.orders.map (fun o => (o.code, o.id)) ∧
    (s.oru.orders.map Order.id).Nodup ∧ (s.oru.orders.map Order.code).Nodup ∧
    s.oru.queue = (s.oru.orders.filter Order.isPending).map Order.id

/-- Hold budgets within 60..7200 s, hold lives within 0..7200 s, cold exposures within 0..65,535 s (R39, R55). -/
def State.HoldInRange (s : State) : Prop :=
  ∀ o ∈ s.oru.orders,
    60 ≤ o.budget ∧ o.budget ≤ 7200 ∧ ∀ h, o.hold = some h → h.life ≤ 7200 ∧ h.cold ≤ 65535

/-- A locker is in a free list exactly when it is FREE and not fenced, then in its own class's list, once (R35); and
no withdrawal has FREE for its clearing origin (1.1). -/
def State.FreeListsExact (s : State) : Prop :=
  (∀ c n, n ∈ s.freeList c ↔
    (s.locker n).phase = .free ∧ (s.locker n).fenced = false ∧ (s.locker n).cls = c) ∧
    (∀ c, (s.freeList c).Nodup) ∧ ∀ n, (s.locker n).clearOrigin ≠ some .free

/-- Whether a locker may refer to an order (section 1.2): its phase belongs to an order, or it is SERVICE, OFFLINE or
CLEARING and the phase it resumes or comes from is such a one (R17, R20, R27). -/
def Locker.mayHold (l : Locker) : Prop :=
  l.phase ∈ [.reserved, .loading, .holding, .pickup, .condemned, .service] ∨
    (l.phase = .offline ∧ l.resume ∈ [some .reserved, some .holding, some .condemned, some .service]) ∨
    (l.phase = .clearing ∧ l.clearOrigin ∈ [some .condemned, some .service])

/-- A PLACED order and its locker name each other, and no locker names an order otherwise (section 1.2, R31). -/
def State.OrdersPaired (s : State) : Prop :=
  (∀ o ∈ s.oru.orders, o.id ≠ 0 ∧ ∀ n, o.locker = some n → n < 48 ∧ (s.locker n).orderRef = some o.id) ∧
    ∀ n id, n < 48 → (s.locker n).orderRef = some id →
      (s.locker n).mayHold ∧ ∃ o, s.order? id = some o ∧ o.locker = some n

/-- A locker that the running discovery has not settled yet: the stage is RESET, the next probe may still come to it,
or its probe is on the bus (R188 to R190). -/
def State.Unsurveyed (s : State) (d : Discovery) (n : Nat) : Prop :=
  d.stage = .reset ∨ s.ltu.probeCursor ≤ n ∨ ∃ a m, s.bbm.exchange = some (.probe n a m)

/-- No command waits in TXU (R112, R113). -/
def Txu.NoneWaiting (t : Txu) : Prop := (∀ e ∈ t.table, e.stage ≠ .waiting) ∧ ∀ p ∈ t.posted, p.stage ≠ .waiting

/-- How discovery, the reset line, the bus and the long operation stand to each other (R108, R127, R188 to R194).
A locker not yet settled refers to no order and is ABSENT, in SERVICE, or OFFLINE with no resume phase. A discovery
holds the long-operation place. While it probes, or while it waits out the pulse, no command waits. -/
def State.SurveyConsistent (s : State) : Prop :=
  (∀ d, s.ltu.discovery = some d →
    (∀ n, n < 48 → s.Unsurveyed d n →
      (s.locker n).orderRef = none ∧
        ((s.locker n).phase ∈ [.absent, .service] ∨ ((s.locker n).phase = .offline ∧ (s.locker n).resume = none))) ∧
    (∃ op, s.txu.longOp = some op ∧ op.kind ∈ [.rescan, .powerOnDiscovery]) ∧
    (d.stage = .probing → s.bbm.line = .idle ∧ (∀ n q a f, s.bbm.exchange ≠ some (.command n q a f)) ∧
      ∀ n a m, s.bbm.exchange ≠ some (.poll n a m)) ∧
    (d = ⟨.powerOn, .reset⟩ → s.bbm.line ≠ .idle) ∧
    (d.stage = .probing ∨ s.bbm.line ≠ .idle → s.txu.NoneWaiting)) ∧
  (∀ n a m, s.bbm.exchange = some (.probe n a m) →
    n < s.ltu.probeCursor ∧ ∃ k, s.ltu.discovery = some ⟨k, .probing⟩) ∧
  (s.bbm.line ≠ .idle → s.bbm.exchange = none ∧ ∃ op, s.txu.longOp = some op ∧ op.kind ≠ .store) ∧
  (s.sst.busy = true → ∃ op, s.txu.longOp = some op ∧ op.kind = .store)

/-- The attempt of an exchange in flight is 1..3 (R93). -/
def Exchange.AttemptInRange : Exchange → Prop
  | .poll _ a _ | .probe _ a _ | .command _ _ a _ => 1 ≤ a ∧ a ≤ 3
  | .broadcast _ => True

def State.AttemptsInRange (s : State) : Prop := ∀ x, s.bbm.exchange = some x → x.AttemptInRange

end Sys2Proof.Machine
end

