-- ==== Sys2Proof/Certificates/Slice0/Obligations.lean ====
section
/-! DEFINITION. The statements for the provers. Each docstring names the rule it formalises, or the log entry it rests
on. A request's result is given up to the transmit framer's choice, and where it can change who waits for the bus, up to
BBM's choice too: `TransmitChoice` and `BusChoice` say what those two do. -/

section

open Sys2Proof Sys2Proof.Machine

/-! ### The machine as a whole -/

/-- A step runs the command at the front of the queue on the state with the queue's rest. With nothing waiting it lets
one millisecond pass: the model's choice, log entry 1. As `d` milliseconds pass, a running timer grows to the end of
its period and a stopped one stays stopped (log entries 1 and 2), the sample age grows in every phase and stops at
65,535 (R3), the transient timer grows in LOADING, PICKUP and CLEARING only (R19), and nothing else changes. -/
def Obligations.StepRunsFrontCommand : Prop :=
  (∀ (c : Instr) (rest : List Instr) (s : State),
     s.pending = c :: rest → step s = exec c { s with pending := rest }) ∧
  (∀ s : State, s.pending = [] → step s = .next (s.clearPorts.elapse 1)) ∧
  (∀ (d : Nat) (s : State),
     let grown (last : Nat) (t : Option Nat) : Option Nat := t.map fun x => min (x + d) last
     let u := s.elapse d
     u = { s with
       upMs := s.upMs + d
       lki := { s.lki with
         gapTimer := grown 5 s.lki.gapTimer
         silenceTimer := s.lki.silenceTimer.map fun x => x + d }
       bbm := { s.bbm with
         pollGap := s.bbm.pollGap.map fun g => (min (g.1 + d) g.2, g.2)
         lineMs :=
           match s.bbm.line with
           | .idle => s.bbm.lineMs
           | .pulse => min (s.bbm.lineMs + d) 100
           | .quiet => min (s.bbm.lineMs + d) 500 }
       ltu := { s.ltu with lockers := u.ltu.lockers }
       hau := ⟨grown 1000 s.hau.tickTimer⟩
       hta := { s.hta with frameTimer := grown 1999 s.hta.frameTimer }
       pni := { s.pni with
         windowTimer := grown 60000 s.pni.windowTimer, lockoutTimer := grown 30000 s.pni.lockoutTimer } } ∧
     ∀ n, n < 48 →
       let l := s.locker n
       u.locker n = { l with
         sampleAge := min (l.sampleAge + d) 65535
         transientTimer :=
           if l.phase = .loading ∨ l.phase = .pickup ∨ l.phase = .clearing then grown 4294967295 l.transientTimer
           else l.transientTimer })

/-- Every command answers a next state in every state, and leaves the waiting commands alone. -/
def Obligations.EveryCommandCompletes : Prop :=
  ∀ (c : Instr) (s : State), ∃ t, exec c s = .next t ∧ t.pending = s.pending

/-- The state after reset is what a power-on with a never-written store leaves (log entries 9 and 10). -/
def Obligations.ResetIsPowerOnOfABlankStore : Prop :=
  exec (.powerOn false false false false) State.reset = .next State.reset

/-- POWER_ON (R186): every unit at its power-on values, the settings loaded from the store or the factory, each locker
record as R6 has it with its layout, its fence and ABSENT or OFFLINE, discovery begun with its pulse, the timers
stopped, no STORE running (R165). That the map state stays NONE at the pulse is log entry 22. That the operands are
the levels of the shed lines is log entry 10, and that the fields of the transient phases hold their values of R6 in
the other phases too is log entry 16. -/
def Obligations.PowerOnStartsDiscovery : Prop :=
  ∀ (l0 l1 l2 l3 : Bool) (s : State),
    ∃ t, exec (.powerOn l0 l1 l2 l3) s = .next t ∧
      t.upMs = 0 ∧ t.ports = [] ∧ t.pending = s.pending ∧ t.shedLines = #v[l0, l1, l2, l3] ∧
      t.ltu.discovery = some ⟨.powerOn, .reset⟩ ∧ t.ltu.probeCursor = 0 ∧ t.ltu.probing = none ∧ t.ltu.answered = 0 ∧
      t.bbm = { Bbm.powerOn with line := .pulse } ∧ t.txu = Txu.powerOn ∧ t.lki = Lki.powerOn ∧ t.oru = Oru.powerOn ∧
      t.hta = Hta.powerOn ∧ t.hau.tickTimer = none ∧ t.pni = ⟨0, none, none, []⟩ ∧
      t.sst.copyA = s.sst.copyA ∧ t.sst.copyB = s.sst.copyB ∧ t.sst.strictHold = false ∧ t.sst.busy = false ∧
      t.sst.snapshot = none ∧ t.sst.target = none ∧
      (s.sst.copyA = none → s.sst.copyB = none →
        t.sst.working = Settings.factory ∧ t.sst.source = .factory) ∧
      (∀ c, s.sst.copyA = some c → s.sst.copyB = none → t.sst.working = c.settings ∧ t.sst.source = .stored) ∧
      (∀ c, s.sst.copyB = some c → s.sst.copyA = none → t.sst.working = c.settings ∧ t.sst.source = .stored) ∧
      (∀ a b, s.sst.copyA = some a → s.sst.copyB = some b → t.sst.source = .stored ∧
        t.sst.working =
          if 1 ≤ (b.generation + 65536 - a.generation) % 65536 ∧ (b.generation + 65536 - a.generation) % 65536 ≤ 32767
          then b.settings else a.settings) ∧
      ∀ n, n < 48 →
        let e := t.layoutEntry n
        let p := t.params
        t.locker n =
          { populated := e.populated, cls := e.cls, feed := e.feed, power := e.power
            fenced :=
              (if p.fenceHigh then decide (48 - p.fenceCount ≤ n) else decide (n < p.fenceCount)) != p.fenceInvert
            kDoor := .latched, cDoor := .latched, kSeen := 0, cSeen := 0, occupancy := .empty, sample := none
            sampleAge := 65535, fault := .none, pollFails := 0, phase := if e.populated then .offline else .absent
            orderRef := none, resume := none, clearOrigin := none, unlatchPending := none
            openedNoted := some false, transientTimer := some 0, doorHeld := some false
            purgeProgress := none, purgeSuspended := none, overheatInhibit := false, heaterExcluded := false
            demand := 0, granted := 0, starved := 0 }

/-! ### Laws that every step keeps -/

/-- The laws below hold right after reset. -/
def Obligations.LawsHoldAtReset : Prop :=
  State.reset.WithinCapacity ∧ State.reset.PlacesCover ∧ State.reset.TransmitSettled ∧
    State.reset.OrdersConsistent ∧ State.reset.HoldInRange ∧ State.reset.FreeListsExact ∧
    State.reset.AttemptsInRange ∧ State.reset.OrdersPaired ∧ State.reset.SurveyConsistent

/-- No step overfills a table or a queue (R30, R34, R112, R113, R124, R136, R143), and the attempt of an exchange
stays 1..3 (R93). -/
def Obligations.CapacitiesAreKept : Prop :=
  ∀ s t : State, step s = .next t →
    (s.WithinCapacity → t.WithinCapacity) ∧ (s.AttemptsInRange → t.AttemptsInRange)

/-- Every answer owed keeps its place (R136). -/
def Obligations.AnswerPlacesCoverAnswers : Prop :=
  ∀ s t : State, s.PlacesCover → step s = .next t → t.PlacesCover

/-- The transmit framer never rests while a frame waits and island is clear (R140). -/
def Obligations.TransmitFramerNeverRests : Prop :=
  ∀ s t : State, s.TransmitSettled → step s = .next t → t.TransmitSettled

/-- The code map mirrors the order table, ids and codes stay unique, the pending queue lists the PENDING orders (R33,
R34). -/
def Obligations.OrderTablesStayConsistent : Prop :=
  ∀ s t : State, s.OrdersConsistent → step s = .next t → t.OrdersConsistent

/-- A PLACED order's locker and the locker's order reference name each other, and no other locker names an order
(section 1.2). The laws on tables and free lists rule out states no run reaches, and so does SurveyConsistent, which
says how a discovery stands to the lockers, the bus and the long operation while it runs (R127, R188 to R194). -/
def Obligations.OrdersStayPairedWithLockers : Prop :=
  ∀ s t : State, s.OrdersConsistent → s.FreeListsExact → s.OrdersPaired → s.SurveyConsistent → step s = .next t →
    t.OrdersPaired ∧ t.SurveyConsistent

/-- Hold budgets, hold lives and cold exposures stay in their ranges (R39, R55). -/
def Obligations.HoldFieldsStayInRange : Prop :=
  ∀ s t : State, s.HoldInRange → step s = .next t → t.HoldInRange

/-- A locker is in a free list exactly when it is FREE and not fenced (R35). -/
def Obligations.FreeListsStayExact : Prop :=
  ∀ s t : State, s.FreeListsExact → step s = .next t → t.FreeListsExact

/-- Once STRICT_HOLD is true only a power-on clears it (R180). -/
def Obligations.StrictHoldSticks : Prop :=
  ∀ (c : Instr) (s t : State),
    s.sst.strictHold = true → (∀ l0 l1 l2 l3, c ≠ .powerOn l0 l1 l2 l3) → exec c s = .next t →
    t.sst.strictHold = true

/-- A condemned order keeps its first cause as long as it is in the table (R31, R48). -/
def Obligations.FirstCauseIsKept : Prop :=
  ∀ (c : Instr) (s t : State) (id : Nat) (o o' : Order) (k : Cause),
    s.order? id = some o → o.condemned = some k → exec c s = .next t → t.order? id = some o' →
    o'.condemned = some k

/-- A loaded order's hold life rises only by EXTEND, and never under STRICT_HOLD (R65). The premise on LOADING lockers
rules out states no run reaches, in which a loaded meal is being loaded again; an EXTEND may also come as the last
byte of its frame. -/
def Obligations.HoldLifeRisesOnlyByExtend : Prop :=
  ∀ (c : Instr) (s t : State) (id : Nat) (o o' : Order) (h h' : Hold),
    id ≠ 0 → (∀ n, (s.locker n).phase = .loading → (s.locker n).orderRef ≠ some id) →
    (s.sst.strictHold = true ∨ ((∀ tag x n, c ≠ .extend tag x n) ∧ ∀ b, c ≠ .receiveByte b)) →
    s.order? id = some o → o.hold = some h → exec c s = .next t → t.order? id = some o' → o'.hold = some h' →
    h'.life ≤ h.life

/-- An UNLATCH begins on the bus only while the record shows the other door LATCHED, and for the concourse door only
while the order is not condemned (R9, R11). -/
def Obligations.UnlatchOnlyBehindLatchedDoor : Prop :=
  ∀ (c : Instr) (s t : State) (n q : Nat) (f : BusFrame) (d : Door),
    s.AttemptsInRange → exec c s = .next t → t.bbm.exchange = some (.command n q 1 f) → .bus f ∈ t.ports →
    f.kind = 0x02 → f.payload.head? = some d.code →
    (t.locker n).door d.other = .latched ∧ (t.locker n).phase ≠ .offline ∧
      (d = .c → orderCondemned t (t.locker n) = false)

/-! ### The concourse link -/

/-- What the completion of a valid frame does before its request is served: the silence timer restarts where it runs,
island ends with ISLAND_END, a place is held, and nothing else of the machine changes (R134, R136, R147). The request
is then served by its unit; with every place held its frame is discarded for OVERRUN and reaches no unit (R136, R138;
the command is the frame's completion, log entry 4). -/
def Obligations.RequestsAreHeardThenServed : Prop :=
  (∀ s : State,
     let heard : State :=
       { s with ports := [], lki := { s.lki with silenceTimer := s.lki.silenceTimer.map fun _ => 0 } }
     let place (u : State) : State := { u with lki := { u.lki with placesHeld := u.lki.placesHeld + 1 } }
     (s.lki.island = false → s.accepted = place heard) ∧
     (∀ start, s.lki.island = true → s.lki.islandStart = some start →
       s.accepted = place (submit .islandEnd
         [.b4 (uptimeOfSeconds start), .b4 (uptimeOfSeconds (s.uptimeSeconds - start))]
         { heard with lki := { heard.lki with island := false, islandStart := none } }))) ∧
  (∀ (i : Instr) (s : State), IsRequest i →
     (s.lki.placesHeld < 32 → exec i s = .next (chooseTransmit (serveRequest i s.accepted))) ∧
     (32 ≤ s.lki.placesHeld →
       exec i s = .next (chooseTransmit (discardFrame .overrun s.heard)) ∧ OnlyLink s (discardFrame .overrun s.heard) ∧
       s.accepted = { s.heard with lki := { s.heard.lki with placesHeld := s.heard.lki.placesHeld + 1 } } ∧
       discardFrame .overrun s.heard =
         { s.heard with lki := { s.heard.lki with errors := { s.lki.errors with
           total := min (s.lki.errors.total + 1) 65535, overrun := min (s.lki.errors.overrun + 1) 65535 } } }))

/-- The receive framer by its state and the byte (R133); a complete frame with a wrong check or an unknown class is
discarded with its cause counted and has no other effect (R134, R135). The check is that of R134. -/
def Obligations.ReceiveFramerByState : Prop :=
  (∀ (b : Byte) (s : State),
     let rx (r : RxFramer) (gap : Option Nat) : State :=
       { s with ports := [], lki := { s.lki with rx := r, gapTimer := gap } }
     (s.lki.rx = .hunt → b = 0xC3 → exec (.receiveByte b) s = .next (rx .length (some 0))) ∧
     (s.lki.rx = .hunt → b ≠ 0xC3 → exec (.receiveByte b) s = .next s.clearPorts) ∧
     (s.lki.rx = .length → 4 ≤ b → b ≤ 250 → exec (.receiveByte b) s = .next (rx (.body b [b]) (some 0))) ∧
     (s.lki.rx = .length → b < 4 ∨ 250 < b →
       exec (.receiveByte b) s = .next (discardFrame .length (rx .hunt none))) ∧
     (∀ len bytes, s.lki.rx = .body len bytes → bytes.length + 1 ≠ len →
       exec (.receiveByte b) s = .next (rx (.body len (bytes ++ [b])) (some 0))) ∧
     (∀ len bytes, s.lki.rx = .body len bytes → bytes.length + 1 = len →
       exec (.receiveByte b) s = .next (rx (.crc (bytes ++ [b]) none) (some 0))) ∧
     (∀ bytes, s.lki.rx = .crc bytes none →
       exec (.receiveByte b) s = .next (rx (.crc bytes (some b)) (some 0)))) ∧
  (crc16 [] = 0xFFFF ∧ ∀ (bytes : List Byte) (b : Byte),
     crc16 (bytes ++ [b]) =
       (List.range 8).foldl
         (fun r _ => if 32768 ≤ r then (r * 2 % 65536) ^^^ 0x1021 else r * 2) (crc16 bytes ^^^ (b * 256 % 65536))) ∧
  (∀ (b hi : Byte) (bytes : List Byte) (s : State), s.lki.rx = .crc bytes (some hi) →
     let hunting : Lki := { s.lki with rx := .hunt, gapTimer := none }
     (crc16 bytes ≠ hi * 256 + b →
       exec (.receiveByte b) s =
         .next { s with
           ports := []
           lki := { hunting with errors := { s.lki.errors with
             total := min (s.lki.errors.total + 1) 65535, crc := min (s.lki.errors.crc + 1) 65535 } } }) ∧
     (crc16 bytes = hi * 256 + b → bytes.getD 1 0 ∉ [0x10, 0x11, 0x12] →
       exec (.receiveByte b) s =
         .next { s with
           ports := []
           lki := { hunting with errors := { s.lki.errors with
             total := min (s.lki.errors.total + 1) 65535, cls := min (s.lki.errors.cls + 1) 65535 } } }))

/-- Reading a request from the payload the server writes gives the request back, with every field at every value its
bytes admit (R137, R138, R168). -/
def Obligations.RequestPayloadsReadBack : Prop :=
  ∀ (i : Instr) (cls kind tag : Nat) (p : List Byte),
    WellFormed i = true → encodeRequest i = some (cls, kind, tag, p) →
    decodeRequest cls kind tag p = .request i ∧ p.length ≤ 246 ∧ p.all fits1 = true

/-- The bytes of a request's frame, received one after another by a hunting framer, do what the request does (R133,
R134, R136 to R138, R150; log entries 4 and 5). -/
def Obligations.FrameBytesRunTheRequest : Prop :=
  ∀ (i : Instr) (bytes : List Byte) (s : State),
    WellFormed i = true → requestFrame i = some bytes → s.lki.rx = .hunt → s.lki.gapTimer = none →
    runCommands (bytes.map .receiveByte) s = exec i s

/-- The gap timer's expiry discards the frame in progress with cause GAP (R133, R135). Silence past LINK_SILENCE_S
enters island: the flag, the island start and the entry count, and nothing in another unit beyond the passing of time
(R145, R146). The rest of a timer's period passes first: log entry 2. -/
def Obligations.LinkTimersExpire : Prop :=
  (∀ (s : State) (e : Nat), s.lki.gapTimer = some e →
     let u := s.clearPorts.elapse (5 - e)
     exec .gapTimerExpiry s =
       .next { u with
         lki := { u.lki with
           rx := .hunt, gapTimer := none
           errors := { s.lki.errors with
             total := min (s.lki.errors.total + 1) 65535, gap := min (s.lki.errors.gap + 1) 65535 } } }) ∧
  (∀ (s : State) (e : Nat),
     s.lki.silenceTimer = some e → s.params.linkSilenceS ≠ 0 → s.lki.island = false →
     let u := s.clearPorts.elapse (s.params.linkSilenceS * 1000 - e)
     exec .silenceTimerExpiry s =
       .next { u with
         lki := { u.lki with
           island := true, islandStart := some (u.upMs / 1000),
           islandEntries := min (s.lki.islandEntries + 1) 65535 } })

/-- The transmit framer's choice: nothing while sending or during island; the oldest answer, its place released; else
the oldest report, which queues REPORTS_LOST where reports were lost (R140, R144). The bytes sent are those of R150
and R151. TRANSMIT_END makes it IDLE, and it chooses again (log entry 6). -/
def Obligations.TransmitChoice : Prop :=
  (∀ s : State,
     OnlyLink s (chooseTransmit s) ∧
     (s.lki.tx ≠ none ∨ s.lki.island = true → chooseTransmit s = s) ∧
     (s.lki.tx = none → s.lki.island = false →
       (∀ a rest, s.lki.answerQ = a :: rest →
         chooseTransmit s =
           { s with
             ports := s.ports ++ [.link (.answer a)]
             lki := { s.lki with tx := some (.answer a), answerQ := rest, placesHeld := s.lki.placesHeld - 1 } }) ∧
       (∀ r rest, s.lki.answerQ = [] → s.lki.reportQ = r :: rest → s.lki.lostReports = 0 →
         chooseTransmit s =
           { s with
             ports := s.ports ++ [.link (.report r)]
             lki := { s.lki with tx := some (.report r), reportQ := rest } }) ∧
       (∀ r rest, s.lki.answerQ = [] → s.lki.reportQ = r :: rest → s.lki.lostReports ≠ 0 →
         s.lki.reportQ.length ≤ 32 →
         chooseTransmit s =
           { s with
             ports := s.ports ++ [.link (.report r)]
             lki := { s.lki with
               tx := some (.report r)
               reportQ := rest ++ [⟨.reportsLost, s.uptime, 0, [.b2 s.lki.lostReports]⟩]
               lostReports := 0 } }) ∧
       (s.lki.answerQ = [] → s.lki.reportQ = [] → chooseTransmit s = s))) ∧
  (∀ (s : State) (f : UpFrame), s.lki.tx = some f →
     exec .transmitEnd s = .next (chooseTransmit { s with ports := [], lki := { s.lki with tx := none } })) ∧
  (let framed (cls kind tag : Nat) (payload : List Byte) : List Byte :=
     let body := [payload.length + 4, cls, kind, tag] ++ payload
     [0xC3] ++ body ++ [crc16 body / 256 % 256, crc16 body % 256]
   (∀ a : Answer,
     (UpFrame.answer a).bytes =
       framed 0x20 a.kind.num a.tag ([a.kind.cls, a.status.code] ++ a.body.flatMap Field.bytes)) ∧
   ∀ r : Report,
     (UpFrame.report r).bytes =
       framed 0x21 r.kind.number r.tag
         ([r.kind.group.code, r.uptime / 16777216 % 256, r.uptime / 65536 % 256, r.uptime / 256 % 256, r.uptime % 256] ++
           r.fields.flatMap Field.bytes))

/-- A report joins the queue with its uptime and its tag, 0 for every report but DONE (R150); on a full queue an ORDER
or SYSTEM report, DONE among them (R128), takes the place of the oldest maskable one, any other is lost, and each loss
is counted (R142, R143). REPORT_MASK turns off the other four groups only (R141). -/
def Obligations.ReportQueueRule : Prop :=
  (∀ (tag : Nat) (k : ReportKind) (fields : List Field) (s : State),
     let on : Prop := groupEnabled s.params k.group = true
     let r : Report := ⟨k, s.uptime, tag, fields⟩
     let lost (q : List Report) : State :=
       { s with lki := { s.lki with reportQ := q, lostReports := min (s.lki.lostReports + 1) 65535 } }
     (tag = 0 → submit k fields s = submitTagged tag k fields s) ∧
     (¬ on → submitTagged tag k fields s = s) ∧
     (on → s.lki.reportQ.length < 32 →
       submitTagged tag k fields s = { s with lki := { s.lki with reportQ := s.lki.reportQ ++ [r] } }) ∧
     (on → 32 ≤ s.lki.reportQ.length → k.group.maskable = true →
       submitTagged tag k fields s = lost s.lki.reportQ) ∧
     (on → 32 ≤ s.lki.reportQ.length → k.group.maskable = false →
       (∀ x ∈ s.lki.reportQ, x.kind.group.maskable = false) → submitTagged tag k fields s = lost s.lki.reportQ) ∧
     (∀ before x behind, on → 32 ≤ s.lki.reportQ.length → k.group.maskable = false →
       s.lki.reportQ = before ++ x :: behind → x.kind.group.maskable = true →
       (∀ y ∈ before, y.kind.group.maskable = false) →
       submitTagged tag k fields s = lost (before ++ behind ++ [r]))) ∧
  (∀ (p : Params) (g : Group),
     (g.maskable = false ↔ g = .order ∨ g = .system) ∧ (g.maskable = false → groupEnabled p g = true) ∧
       (∀ i, [Group.locker, .thermal, .power, .panel][i]? = some g → groupEnabled p g = p.reportMask.testBit i)) ∧
  ReportKind.done.group = .system

/-- RESTART outside a POWER_ON discovery: framers, queues, island and recent completions cleared, WAITING commands
discarded with the reverts of R12, an entry on the bus kept without its tag, the orders, the settings, the heater, the
bus and the hold tick kept. OK is the first frame sent; REPORTS_LOST with the reports lost so far and the cleared ones
follows, then PANEL_REFUSED of each discarded panel release, which showed BUSY (R12, R130, R148, R159, R200). The
numbers in PANEL_REFUSED are log entry 20. The WAITING commands are discarded oldest first, by acceptance sequence
(R114). -/
def Obligations.RestartClearsTheLink : Prop :=
  (∀ (tag : Nat) (s : State), s.lki.placesHeld < 32 → s.txu.table.length ≤ 8 →
     (∀ x, s.ltu.discovery ≠ some ⟨.powerOn, x⟩) →
     let discarded := s.txu.waitingInOrder
     let panel := discarded.filter fun e => decide (e.origin = .panel)
     let lost := min (s.accepted.lki.lostReports + s.accepted.lki.reportQ.length) 65535
     let refusal (e : Entry) : Report :=
       ⟨.panelRefused, s.uptime, 0, [.b1 2, .b1 14, .orderId (s.releaseFor e), .b1 e.locker]⟩
     ∃ t, exec (.restart tag) s = .next t ∧
       t.ports = panel.map (fun _ => .display .busy) ++ [.link (.answer ⟨kRestart, tag, .ok, []⟩)] ∧
       t.lki.tx = some (.answer ⟨kRestart, tag, .ok, []⟩) ∧ t.lki.answerQ = [] ∧ t.lki.placesHeld = 0 ∧
       t.lki.reportQ =
         (if lost = 0 then [] else [⟨.reportsLost, s.uptime, 0, [.b2 lost]⟩]) ++
           (if s.params.reportMask.testBit 3 then panel.map refusal else []) ∧
       t.lki.lostReports = 0 ∧
       t.lki.rx = .hunt ∧ t.lki.gapTimer = none ∧ t.lki.island = false ∧ t.lki.islandStart = none ∧
       t.lki.silenceTimer = some 0 ∧ t.lki.errors = s.lki.errors ∧ t.lki.islandEntries = s.lki.islandEntries ∧
       (∀ e ∈ t.txu.table, e.stage = .onBus ∧ e.tag = none) ∧
       t.txu.table =
         (s.txu.table.filter fun e => discarded.all fun d => d.seq != e.seq).map (fun e => { e with tag := none }) ∧
       t.txu.posted = s.txu.posted.filter (fun p => decide (p.stage = .onBus)) ∧
       t.txu.postedLost =
         min (s.txu.postedLost + (s.txu.posted.filter fun p => decide (p.stage = .waiting)).length) 65535 ∧
       t.txu.recent = [] ∧ t.txu.longOp = s.txu.longOp ∧ t.txu.nextSeq = s.txu.nextSeq ∧
       t.sst = s.sst ∧ t.hta = s.hta ∧ t.hau = s.hau ∧ t.bbm = s.bbm ∧ t.oru = s.oru ∧ t.upMs = s.upMs ∧
       t.ltu = { s.ltu with lockers := t.ltu.lockers } ∧
       t.pni = { s.pni with releases := s.pni.releases.filter fun r => panel.all fun e => e.locker != r.1 } ∧
       ∀ n, n < 48 →
         let here := discarded.filter fun e => decide (e.locker = n) && decide (e.request ≠ .moduleRead)
         (here = [] → t.locker n = s.locker n) ∧
         ∀ e, here = [e] → t.locker n = (s.locker n).reverted s e.request) ∧
  (∀ t : Txu, (t.table.map Entry.seq).Nodup →
     (∃ base, ∀ e ∈ t.table, ∃ d, d < 32768 ∧ e.seq = (base + d) % 65536) →
     t.waitingInOrder.Perm (t.table.filter fun e => decide (e.stage = .waiting)) ∧
       t.waitingInOrder.Pairwise fun x y => (y.seq + 65536 - x.seq) % 65536 < 32768)

/-! ### Orders -/

/-- A BOOK that passes its checks and finds a locker: the head of its own class's free list, or under UPSIZE with that
list empty the head of the first larger list that is not empty. The order is PLACED, the locker RESERVED, the values
clamped (R38 to R41). -/
def Obligations.BookPlacesOnTheHeadOfAList : Prop :=
  ∀ (tag id code cls profile budget deadline n : Nat) (k k' : SizeClass) (rest : List Nat) (s : State),
    s.lki.placesHeld < 32 → s.ltu.discovery = none → s.FreeListsExact →
    SizeClass.ofCode cls = some k → id ≠ 0 → code ≤ 99999999 → profile ≤ 7 → s.order? id = none →
    (∀ e ∈ s.oru.codeMap, e.1 ≠ code) → s.oru.orders.length < 64 → s.freeList k' = n :: rest →
    (k' = k ∨ (s.params.upsize = true ∧ s.freeList k = [] ∧ k' ∈ k.larger ∧
      ∀ c ∈ k.larger, c.code < k'.code → s.freeList c = [])) →
    let b := max 60 (min budget 7200)
    let d := min deadline 3600
    ∃ u, exec (.book tag id code cls profile budget deadline) s =
        .next (chooseTransmit (answer kBook tag (if b = budget ∧ d = deadline then .ok else .okClamped)
          [.b1 n, .b2 b, .b2 d] u)) ∧
      OnlyRecords s.accepted u ∧ u.lki = s.accepted.lki ∧
      u.oru.orders = s.oru.orders ++ [⟨id, code, k, profile, b, d, .placed n 0 false, 0, none, none⟩] ∧
      u.oru.codeMap = s.oru.codeMap ++ [(code, id)] ∧ u.oru.queue = s.oru.queue.filter (fun i => i != id) ∧
      u.freeList k' = rest ∧ (∀ c, c ≠ k' → u.freeList c = s.freeList c) ∧
      u.locker n = { s.locker n with phase := .reserved, orderRef := some id } ∧ OtherLockersSame n s u

/-- A BOOK that passes its checks and finds no locker waits at the tail of the pending queue (R34, R39, R40); the
checks of BOOK in order, of which a refused booking changes nothing (R38, R40). -/
def Obligations.BookWaitsOrRefuses : Prop :=
  (∀ (tag id code cls profile budget deadline : Nat) (k : SizeClass) (s : State),
     s.lki.placesHeld < 32 → s.ltu.discovery = none → SizeClass.ofCode cls = some k →
     id ≠ 0 → code ≤ 99999999 → profile ≤ 7 → s.order? id = none → (∀ e ∈ s.oru.codeMap, e.1 ≠ code) →
     s.oru.orders.length < 64 → s.freeList k = [] →
     (s.params.upsize = false ∨ ∀ c ∈ k.larger, s.freeList c = []) → s.oru.queue.length < 16 →
     let b := max 60 (min budget 7200)
     let d := min deadline 3600
     let a := s.accepted
     exec (.book tag id code cls profile budget deadline) s =
       .next (chooseTransmit (answer kBook tag .pending [.b1 (s.oru.queue.length + 1), .b2 b, .b2 d]
         { a with
           oru := { a.oru with
             orders := s.oru.orders ++ [⟨id, code, k, profile, b, d, .pending 0, 0, none, none⟩]
             codeMap := s.oru.codeMap ++ [(code, id)]
             queue := s.oru.queue ++ [id] } }))) ∧
  (∀ (tag id code cls profile budget deadline : Nat) (s : State), s.lki.placesHeld < 32 →
     let refused (st : Status) : Prop :=
       exec (.book tag id code cls profile budget deadline) s =
         .next (chooseTransmit (answer kBook tag st [] s.accepted))
     let inRange : Prop := id ≠ 0 ∧ code ≤ 99999999 ∧ cls ≤ 2 ∧ profile ≤ 7
     (s.ltu.discovery ≠ none → refused .busy) ∧
     (s.ltu.discovery = none → ¬ inRange → refused .badArgument) ∧
     (s.ltu.discovery = none → inRange → s.order? id ≠ none → refused .duplicateOrder) ∧
     (s.ltu.discovery = none → inRange → s.order? id = none → (∃ e ∈ s.oru.codeMap, e.1 = code) →
       refused .duplicateCode) ∧
     (s.ltu.discovery = none → inRange → s.order? id = none → (∀ e ∈ s.oru.codeMap, e.1 ≠ code) →
       64 ≤ s.oru.orders.length → refused .noLocker) ∧
     (s.ltu.discovery = none → inRange → s.order? id = none → (∀ e ∈ s.oru.codeMap, e.1 ≠ code) →
       s.oru.orders.length < 64 →
       (∀ k, SizeClass.ofCode cls = some k →
         s.freeList k = [] ∧ (s.params.upsize = false ∨ ∀ c ∈ k.larger, s.freeList c = [])) →
       16 ≤ s.oru.queue.length → refused .noLocker))

/-- CANCEL by the order's status and its locker's phase (R42, R49). -/
def Obligations.CancelByStatus : Prop :=
  ∀ (tag id : Nat) (o : Order) (s : State),
    s.lki.placesHeld < 32 → s.ltu.discovery = none → s.order? id = some o →
    let a := s.accepted
    let removed : Oru := { s.oru with
      orders := s.oru.orders.filter (fun x => x.id != id), codeMap := s.oru.codeMap.filter (fun e => e.2 != id)
      queue := s.oru.queue.filter (fun i => i != id) }
    let ok (u : State) : Prop := exec (.cancel tag id) s = .next (chooseTransmit (answer kCancel tag .ok [] u))
    (o.locker = none → ok { a with oru := removed }) ∧
    (∀ n, o.locker = some n → n < 48 →
      ((s.locker n).phase = .reserved → (s.locker n).heaterExcluded = false →
        ∃ v, v.oru = removed ∧ OnlyRecords a v ∧ v.lki = a.lki ∧ OtherLockersSame n s v ∧
          v.locker n = { s.locker n with phase := .free, orderRef := none } ∧ ok (becameFree n v)) ∧
      ((s.locker n).phase = .reserved → (s.locker n).heaterExcluded = true →
        ∃ v, v.oru = removed ∧ OnlyRecords a v ∧ v.lki = a.lki ∧ OtherLockersSame n s v ∧
          v.locker n = { s.locker n with phase := .service, orderRef := none } ∧ ok v) ∧
      ((s.locker n).phase = .loading ∨ (s.locker n).phase = .pickup ∨ (s.locker n).phase = .clearing →
        exec (.cancel tag id) s = .next (chooseTransmit (answer kCancel tag .wrongPhase [] a))) ∧
      ((s.locker n).phase = .condemned ∨ (s.locker n).phase = .service → ok a) ∧
      ((s.locker n).phase = .holding → o.condemned = none →
        ∃ u, ok u ∧ OnlyRecords a u ∧ OtherLockersSame n s u ∧
          u.locker n = { s.locker n with phase := .condemned } ∧
          u.order? id = some { o with condemned := some .cancelled } ∧
          u.lki = (submit .condemned [.b4 id, .b1 2, .b1 n] a).lki) ∧
      ((s.locker n).phase = .offline → (s.locker n).resume = some .reserved →
        ∃ u, ok u ∧ u.oru = removed ∧ OnlyRecords a u ∧ u.lki = a.lki ∧ OtherLockersSame n s u ∧
          u.locker n = { s.locker n with orderRef := none, resume := some .free }) ∧
      ((s.locker n).phase = .offline → (s.locker n).resume = some .holding → o.condemned = none →
        ∃ u, ok u ∧ OnlyRecords a u ∧ OtherLockersSame n s u ∧
          u.locker n = { s.locker n with resume := some .condemned } ∧
          u.order? id = some { o with condemned := some .cancelled }) ∧
      ((s.locker n).phase = .offline → (s.locker n).resume = some .condemned ∨ (s.locker n).resume = some .service →
        ok a))

/-- An unfenced locker that becomes FREE goes to the first pending order of its class, or under UPSIZE of a smaller
one, with ASSIGNED; else to the tail of its class's list. A fenced one joins nothing (R35, R41, R43). -/
def Obligations.FreedLockerIsOfferedToTheQueue : Prop :=
  ∀ (n : Nat) (s : State), s.OrdersConsistent → n < 48 → (s.locker n).phase = .free →
    let l := s.locker n
    let may (o : Order) : Prop := o.cls = l.cls ∨ (s.params.upsize = true ∧ o.cls.code < l.cls.code)
    (l.fenced = true → becameFree n s = s) ∧
    (l.fenced = false → (∀ id ∈ s.oru.queue, ∀ o, s.order? id = some o → ¬ may o) →
      OnlyRecords s (becameFree n s) ∧ (becameFree n s).lki = s.lki ∧ (becameFree n s).ltu = s.ltu ∧
        (becameFree n s).freeList l.cls = s.freeList l.cls ++ [n] ∧
        (becameFree n s).oru.orders = s.oru.orders ∧ (becameFree n s).oru.queue = s.oru.queue) ∧
    (∀ before id behind o age, l.fenced = false → s.oru.queue = before ++ id :: behind → s.order? id = some o →
      o.status = .pending age → may o → (∀ i ∈ before, ∀ x, s.order? i = some x → ¬ may x) →
      ∃ u, becameFree n s = submit .assigned [.b4 id, .b1 n, .b1 l.cls.code, .b2 age] u ∧ OnlyRecords s u ∧
        u.lki = s.lki ∧ u.oru.queue = before ++ behind ∧
        (∀ c, n ∉ s.freeList c → u.freeList c = s.freeList c) ∧
        u.order? id = some { o with status := .placed n 0 false } ∧
        u.locker n = { l with phase := .reserved, orderRef := some id } ∧ OtherLockersSame n s u)

/-- EXTEND of an order not yet loaded raises its hold budget, of a loaded one its hold life, up to 7200, and clears
warned where the hold life is then above the profile's warn (R64, R65); its checks in order, nothing changing on a
refusal (R63). -/
def Obligations.ExtendByRule : Prop :=
  (∀ (tag id seconds : Nat) (o : Order) (s : State),
     s.lki.placesHeld < 32 → s.ltu.discovery = none → 1 ≤ seconds → seconds ≤ 3600 → s.order? id = some o →
     s.sst.strictHold = false → o.condemned = none →
     let a := s.accepted
     let raised (f : Order → Order) : State :=
       { a with oru := { a.oru with orders := s.oru.orders.map fun x => if x.id == id then f x else x } }
     (o.hold = none →
       exec (.extend tag id seconds) s =
         .next (chooseTransmit (answer kExtend tag (if 7200 < o.budget + seconds then .okClamped else .ok)
           [.b1 0, .b2 (min (o.budget + seconds) 7200)]
           (raised fun x => { x with budget := min (o.budget + seconds) 7200 })))) ∧
     (∀ h, o.hold = some h →
       exec (.extend tag id seconds) s =
         .next (chooseTransmit (answer kExtend tag (if 7200 < h.life + seconds then .okClamped else .ok)
           [.b1 1, .b2 (min (h.life + seconds) 7200)]
           (raised fun x => { x with hold := some (Hold.mk (min (h.life + seconds) 7200) h.cold
             (if (s.profile o.profile).warn < min (h.life + seconds) 7200 then false else h.warned)) }))))) ∧
  (∀ (tag id seconds : Nat) (s : State), s.lki.placesHeld < 32 →
     let refused (st : Status) : Prop :=
       exec (.extend tag id seconds) s = .next (chooseTransmit (answer kExtend tag st [] s.accepted))
     let inRange : Prop := 1 ≤ seconds ∧ seconds ≤ 3600
     (s.ltu.discovery ≠ none → refused .busy) ∧
     (s.ltu.discovery = none → ¬ inRange → refused .badArgument) ∧
     (s.ltu.discovery = none → inRange → s.order? id = none → refused .unknownOrder) ∧
     (s.ltu.discovery = none → inRange → s.order? id ≠ none → s.sst.strictHold = true → refused .strict) ∧
     (∀ o, s.ltu.discovery = none → inRange → s.order? id = some o → s.sst.strictHold = false →
       o.condemned ≠ none → refused .tooLate))

/-- Where requests are refused, with no effect: BUSY during a discovery (R50, R116, R192), UNKNOWN_ORDER and a PENDING
order (R44, R42, R45), UNKNOWN_KIND and BAD_ARGUMENT of LKI for a kind, a length or a locker that R137 does not take,
an ABSENT or OFFLINE locker of a MODULE_READ (R116), a long operation in progress or a tag in use (R127). -/
def Obligations.RequestsRefusedByRule : Prop :=
  (∀ (tag id n : Nat) (s : State), s.lki.placesHeld < 32 →
     let refused (i : Instr) (k : Kind) (st : Status) : Prop :=
       exec i s = .next (chooseTransmit (answer k tag st [] s.accepted))
     (s.ltu.discovery ≠ none →
       (∀ code cls profile budget deadline, refused (.book tag id code cls profile budget deadline) kBook .busy) ∧
       refused (.cancel tag id) kCancel .busy ∧ (∀ x, refused (.extend tag id x) kExtend .busy) ∧
       refused (.loadOpen tag id) kLoadOpen .busy ∧ refused (.release tag id) kRelease .busy ∧
       refused (.clear tag id) kClear .busy ∧ refused (.queryOrder tag id) kQueryOrder .busy ∧
       (∀ x, refused (.lamp tag n x) kLamp .busy) ∧ (∀ x, refused (.label tag n x) kLabel .busy) ∧
       (∀ i v, refused (.moduleWrite tag n i v) kModuleWrite .busy) ∧
       (∀ i, refused (.moduleRead tag n i) kModuleRead .busy) ∧
       (n < 48 →
         refused (.serviceOn tag n) kServiceOn .busy ∧ refused (.serviceOff tag n) kServiceOff .busy ∧
         refused (.clearLocker tag n) kClearLocker .busy ∧
         ∀ d : Door, refused (.serviceUnlatch tag n d.code) kServiceUnlatch .busy)) ∧
     (∀ x, s.ltu.discovery = some ⟨.powerOn, x⟩ → refused (.restart tag) kRestart .busy) ∧
     (s.ltu.discovery = none → s.order? id = none →
       refused (.cancel tag id) kCancel .unknownOrder ∧ refused (.loadOpen tag id) kLoadOpen .unknownOrder ∧
       refused (.release tag id) kRelease .unknownOrder ∧ refused (.clear tag id) kClear .unknownOrder ∧
       refused (.queryOrder tag id) kQueryOrder .unknownOrder) ∧
     (∀ o age, s.ltu.discovery = none → s.order? id = some o → o.status = .pending age →
       refused (.loadOpen tag id) kLoadOpen .wrongPhase ∧ refused (.release tag id) kRelease .wrongPhase ∧
       refused (.clear tag id) kClear .wrongPhase) ∧
     (47 < n →
       refused (.serviceOn tag n) kServiceOn .badArgument ∧ refused (.serviceOff tag n) kServiceOff .badArgument ∧
       refused (.clearLocker tag n) kClearLocker .badArgument ∧
       (∀ d, refused (.serviceUnlatch tag n d) kServiceUnlatch .badArgument) ∧
       (s.ltu.discovery = none →
         (∀ x, refused (.lamp tag n x) kLamp .badArgument) ∧ (∀ x, refused (.label tag n x) kLabel .badArgument) ∧
         (∀ i v, refused (.moduleWrite tag n i v) kModuleWrite .badArgument) ∧
         ∀ i, refused (.moduleRead tag n i) kModuleRead .badArgument)) ∧
     (∀ d, 1 < d → refused (.serviceUnlatch tag n d) kServiceUnlatch .badArgument) ∧
     (∀ i, s.ltu.discovery = none → n < 48 → i ≤ 255 →
       ((s.locker n).phase = .absent → refused (.moduleRead tag n i) kModuleRead .noTarget) ∧
       ((s.locker n).phase = .offline → refused (.moduleRead tag n i) kModuleRead .offline) ∧
       ∀ st, (s.locker n).phase ≠ .absent → (s.locker n).phase ≠ .offline → checkServer s tag n = some st →
         refused (.moduleRead tag n i) kModuleRead st) ∧
     (∀ st, (s.txu.longOp ≠ none ∧ st = .busy) ∨
         (s.txu.longOp = none ∧ (∃ e ∈ s.txu.table, e.tag = some tag) ∧ st = .tagInUse) →
       refused (.store tag) kStore st ∧ refused (.rescan tag) kRescan st ∧
       refused (.bankReset tag) kBankReset st)) ∧
  (∀ (b hi : Byte) (bytes : List Byte) (s : State),
     s.lki.rx = .crc bytes (some hi) → crc16 bytes = hi * 256 + b → s.lki.placesHeld < 32 →
     let cls := bytes.getD 1 0
     let kind := bytes.getD 2 0
     let tag := bytes.getD 3 0
     let p := bytes.drop 4
     let first := p.getD 0 0
     let a := State.accepted { s with lki := { s.lki with rx := .hunt, gapTimer := none } }
     let refused (st : Status) : Prop :=
       exec (.receiveByte b) s = .next (chooseTransmit (answer ⟨cls, kind⟩ tag st [] a))
     let lengths : List (Nat × Nat × Nat) :=
       [(0x10, 1, 14), (0x10, 2, 4), (0x10, 3, 6), (0x10, 4, 4), (0x10, 5, 4), (0x10, 6, 4), (0x10, 7, 4),
         (0x11, 1, 2), (0x11, 3, 4), (0x11, 4, 2), (0x11, 5, 1), (0x12, 1, 2), (0x12, 3, 1), (0x12, 5, 0),
         (0x12, 6, 0), (0x12, 7, 0), (0x12, 8, 1), (0x12, 9, 1), (0x12, 10, 2), (0x12, 11, 1), (0x12, 12, 0),
         (0x12, 13, 0)]
     (∀ last, (cls, last) ∈ [(0x10, 7), (0x11, 5), (0x12, 13)] → kind = 0 ∨ last < kind → refused .unknownKind) ∧
     (∀ n, (cls, kind, n) ∈ lengths → p.length ≠ n → refused .badArgument) ∧
     (cls = 0x11 → kind = 2 → p = [] → refused .badArgument) ∧
     (cls = 0x12 → kind = 1 → 2 < first → refused .badArgument) ∧
     (cls = 0x12 → kind = 2 →
       2 < first ∨ (first = 0 ∧ p.length ≠ 7) ∨ (first = 1 ∧ p.length ≠ 14) ∨ (first = 2 ∧ p.length ≠ 7) →
       refused .badArgument) ∧
     (cls = 0x12 → kind = 3 → first = 0 ∨ 16 < first → refused .badArgument) ∧
     (cls = 0x12 → kind = 4 →
       first = 0 ∨ 16 < first ∨ p.length ≠ (if first ∈ [2, 3, 5, 6, 7, 8] then 3 else 2) → refused .badArgument))

/-! ### Door requests -/

/-- LOAD_OPEN: ORU's and LTU's checks in order, then TXU's; on acceptance a WAITING entry and the locker LOADING with
unlatch pending K (R10, R13, R44, R118). -/
def Obligations.LoadOpenByRule : Prop :=
  ∀ (tag id n : Nat) (o : Order) (s : State),
    s.lki.placesHeld < 32 → s.ltu.discovery = none → s.order? id = some o → o.locker = some n → n < 48 →
    let a := s.accepted
    let l := s.locker n
    let refused (st : Status) : Prop :=
      exec (.loadOpen tag id) s = .next (chooseTransmit (answer kLoadOpen tag st [] a))
    let interlock : Prop := l.cDoor = .latched ∧ l.unlatchPending = none
    (l.phase = .offline → refused .offline) ∧
    (l.phase ≠ .offline → l.phase ≠ .reserved → refused .wrongPhase) ∧
    (l.phase = .reserved → l.fenced = true → refused .fenced) ∧
    (l.phase = .reserved → l.fenced = false → ¬ interlock → refused .interlock) ∧
    (l.phase = .reserved → l.fenced = false → interlock →
      (∀ st, checkServer s tag n = some st → refused st) ∧
      (checkServer s tag n = none →
        ∃ u, exec (.loadOpen tag id) s = .next (chooseTransmit (chooseBus u)) ∧
          u = { a with ltu := u.ltu, txu := { a.txu with
            table := s.txu.table ++
              [⟨.server, some tag, .loadOpen, n, some .k, none, s.txu.nextSeq, .waiting⟩]
            nextSeq := (s.txu.nextSeq + 1) % 65536 } } ∧
          u.ltu = { s.ltu with lockers := u.ltu.lockers } ∧ OtherLockersSame n s u ∧
          u.locker n = { l with
            phase := .loading, openedNoted := some false, transientTimer := some 0, doorHeld := some false
            unlatchPending := some .k }))

/-- RELEASE: TOO_LATE for a condemned order before the phase is examined, then OFFLINE, WRONG_PHASE, INTERLOCK; the
fence plays no part; on acceptance PICKUP with unlatch pending C (R10, R15, R118). -/
def Obligations.ReleaseByRule : Prop :=
  ∀ (tag id n : Nat) (o : Order) (s : State),
    s.lki.placesHeld < 32 → s.ltu.discovery = none → s.order? id = some o → o.locker = some n → n < 48 →
    (s.locker n).orderRef = some id →
    let a := s.accepted
    let l := s.locker n
    let refused (st : Status) : Prop :=
      exec (.release tag id) s = .next (chooseTransmit (answer kRelease tag st [] a))
    let interlock : Prop := l.kDoor = .latched ∧ l.unlatchPending = none
    (o.condemned ≠ none → refused .tooLate) ∧
    (o.condemned = none → l.phase = .offline → refused .offline) ∧
    (o.condemned = none → l.phase ≠ .offline → l.phase ≠ .holding → refused .wrongPhase) ∧
    (o.condemned = none → l.phase = .holding → ¬ interlock → refused .interlock) ∧
    (o.condemned = none → l.phase = .holding → interlock →
      (∀ st, checkServer s tag n = some st → refused st) ∧
      (checkServer s tag n = none →
        ∃ u, exec (.release tag id) s = .next (chooseTransmit (chooseBus u)) ∧
          u = { a with ltu := u.ltu, txu := { a.txu with
            table := s.txu.table ++
              [⟨.server, some tag, .release, n, some .c, none, s.txu.nextSeq, .waiting⟩]
            nextSeq := (s.txu.nextSeq + 1) % 65536 } } ∧
          u.ltu = { s.ltu with lockers := u.ltu.lockers } ∧ OtherLockersSame n s u ∧
          u.locker n = { l with
            phase := .pickup, openedNoted := some false, transientTimer := some 0, doorHeld := some false
            unlatchPending := some .c }))

/-- CLEAR of a CONDEMNED locker's order and CLEAR_LOCKER of a QUARANTINE locker, or of a SERVICE locker with an order:
CLEARING with its origin and unlatch pending K (R10, R17, R118); and where both are refused, by LTU (R17) and then by
TXU (R118). -/
def Obligations.ClearRequestsByRule : Prop :=
  (∀ (tag n : Nat) (s : State),
     s.lki.placesHeld < 32 → s.ltu.discovery = none → n < 48 → checkServer s tag n = none →
     (s.locker n).cDoor = .latched → (s.locker n).unlatchPending = none →
     let a := s.accepted
     let l := s.locker n
     let taken (i : Instr) (r : CmdRequest) : Prop :=
       ∃ u, exec i s = .next (chooseTransmit (chooseBus u)) ∧
         u = { a with ltu := u.ltu, txu := { a.txu with
           table := s.txu.table ++ [⟨.server, some tag, r, n, some .k, none, s.txu.nextSeq, .waiting⟩]
           nextSeq := (s.txu.nextSeq + 1) % 65536 } } ∧
         u.ltu = { s.ltu with lockers := u.ltu.lockers } ∧ OtherLockersSame n s u ∧
         u.locker n = { l with
           phase := .clearing, clearOrigin := some l.phase, openedNoted := some false, transientTimer := some 0
           doorHeld := some false, unlatchPending := some .k }
     (∀ id o, s.order? id = some o → o.locker = some n → l.phase = .condemned → taken (.clear tag id) .clear) ∧
     (l.phase = .quarantine ∨ (l.phase = .service ∧ l.orderRef ≠ none) → taken (.clearLocker tag n) .clearLocker)) ∧
  (∀ (tag n : Nat) (s : State), s.lki.placesHeld < 32 → s.ltu.discovery = none → n < 48 →
     let l := s.locker n
     let interlock : Prop := l.cDoor = .latched ∧ l.unlatchPending = none
     let refused (i : Instr) (k : Kind) (st : Status) : Prop :=
       exec i s = .next (chooseTransmit (answer k tag st [] s.accepted))
     (∀ id o, s.order? id = some o → o.locker = some n →
       (l.phase = .offline → refused (.clear tag id) kClear .offline) ∧
       (l.phase ≠ .offline → l.phase ≠ .condemned → refused (.clear tag id) kClear .wrongPhase) ∧
       (l.phase = .condemned → ¬ interlock → refused (.clear tag id) kClear .interlock) ∧
       ∀ st, l.phase = .condemned → interlock → checkServer s tag n = some st → refused (.clear tag id) kClear st) ∧
     (l.phase = .offline → refused (.clearLocker tag n) kClearLocker .offline) ∧
     (l.phase ≠ .offline → ¬ (l.phase = .quarantine ∨ (l.phase = .service ∧ l.orderRef ≠ none)) →
       refused (.clearLocker tag n) kClearLocker .wrongPhase) ∧
     (l.phase = .quarantine ∨ (l.phase = .service ∧ l.orderRef ≠ none) → ¬ interlock →
       refused (.clearLocker tag n) kClearLocker .interlock) ∧
     ∀ st, l.phase = .quarantine ∨ (l.phase = .service ∧ l.orderRef ≠ none) → interlock → checkServer s tag n = some st →
       refused (.clearLocker tag n) kClearLocker st)

/-! ### Service -/

/-- SERVICE_ON by the locker's phase (R25). -/
def Obligations.ServiceOnByPhase : Prop :=
  ∀ (tag n : Nat) (s : State), s.lki.placesHeld < 32 → s.ltu.discovery = none → n < 48 →
    let a := s.accepted
    let l := s.locker n
    let answered (st : Status) (u : State) : Prop :=
      exec (.serviceOn tag n) s = .next (chooseTransmit (answer kServiceOn tag st [] u))
    (l.phase = .service → answered .ok a) ∧
    (l.phase ∈ [.absent, .reserved, .loading, .holding, .pickup, .condemned, .clearing] ∨
        (l.phase = .offline ∧ l.orderRef ≠ none) → answered .wrongPhase a) ∧
    (l.phase ∈ [.free, .purging, .quarantine] ∨ (l.phase = .offline ∧ l.orderRef = none) →
      ∃ u, answered .ok u ∧ OnlyRecords a u ∧ u.lki = a.lki ∧ OtherLockersSame n s u ∧
        u.locker n = { l with
          phase := .service
          purgeProgress := if l.phase = .purging then none else l.purgeProgress
          purgeSuspended := if l.phase = .purging then none else l.purgeSuspended
          resume := if l.phase = .offline then none else l.resume } ∧
        u.oru.orders = s.oru.orders ∧ u.oru.codeMap = s.oru.codeMap ∧ u.oru.queue = s.oru.queue ∧
        ∀ c m, m ∈ u.freeList c ↔ m ∈ s.freeList c ∧ ¬ (l.phase = .free ∧ c = l.cls ∧ m = n))

/-- SERVICE_OFF: refused outside SERVICE, with an order, or while an unlatch is pending; else heater excluded is
cleared and the locker purges from 0. SERVICE_UNLATCH: refused outside SERVICE, for the C door with an order, by the
interlock or by TXU (R118); else a WAITING entry, the phase kept and unlatch pending set (R10, R26). That an OFFLINE
locker is refused with WRONG_PHASE is log entry 18. -/
def Obligations.ServiceRequestsByRule : Prop :=
  (∀ (tag n : Nat) (s : State), s.lki.placesHeld < 32 → s.ltu.discovery = none → n < 48 →
     let a := s.accepted
     let l := s.locker n
     let answered (st : Status) (u : State) : Prop :=
       exec (.serviceOff tag n) s = .next (chooseTransmit (answer kServiceOff tag st [] u))
     (l.phase ≠ .service ∨ l.orderRef ≠ none → answered .wrongPhase a) ∧
     (l.phase = .service → l.orderRef = none → l.unlatchPending ≠ none → answered .interlock a) ∧
     (l.phase = .service → l.orderRef = none → l.unlatchPending = none →
       ∃ u, answered .ok u ∧ u = { a with ltu := { s.ltu with lockers := u.ltu.lockers } } ∧
         OtherLockersSame n s u ∧
         u.locker n = { l with
           phase := .purging, heaterExcluded := false, purgeProgress := some 0, purgeSuspended := some false })) ∧
  (∀ (tag n : Nat) (d : Door) (s : State), s.lki.placesHeld < 32 → s.ltu.discovery = none → n < 48 →
     let a := s.accepted
     let l := s.locker n
     let refused (st : Status) : Prop :=
       exec (.serviceUnlatch tag n d.code) s = .next (chooseTransmit (answer kServiceUnlatch tag st [] a))
     let interlock : Prop := l.door d.other = .latched ∧ l.unlatchPending = none
     (l.phase ≠ .service → refused .wrongPhase) ∧
     (l.phase = .service → d = .c → l.orderRef ≠ none → refused .tooLate) ∧
     (l.phase = .service → (d = .k ∨ l.orderRef = none) → ¬ interlock → refused .interlock) ∧
     (∀ st, l.phase = .service → (d = .k ∨ l.orderRef = none) → interlock → checkServer s tag n = some st → refused st) ∧
     (l.phase = .service → (d = .k ∨ l.orderRef = none) → interlock → checkServer s tag n = none →
       ∃ u, exec (.serviceUnlatch tag n d.code) s = .next (chooseTransmit (chooseBus u)) ∧
         u = { a with ltu := u.ltu, txu := { a.txu with
           table := s.txu.table ++
             [⟨.server, some tag, .serviceUnlatch, n, some d, none, s.txu.nextSeq, .waiting⟩]
           nextSeq := (s.txu.nextSeq + 1) % 65536 } } ∧
         u.ltu = { s.ltu with lockers := u.ltu.lockers } ∧ OtherLockersSame n s u ∧
         u.locker n = { l with unlatchPending := some d }))

/-! ### Module commands -/

/-- TXU's checks of a confirmed command of the server, in order; a MODULE_READ that passes becomes a WAITING entry
without a door, and nothing is answered yet (R118). -/
def Obligations.ModuleReadByRule : Prop :=
  (∀ (tag n : Nat) (s : State),
     let tagUsed : Prop := (∃ e ∈ s.txu.table, e.tag = some tag) ∨ (∃ op, s.txu.longOp = some op ∧ op.tag = some tag)
     (tagUsed → checkServer s tag n = some .tagInUse) ∧
     (¬ tagUsed → 8 ≤ s.txu.table.length ∨ (∃ e ∈ s.txu.table, e.locker = n) →
       checkServer s tag n = some .retry) ∧
     (¬ tagUsed → s.txu.table.length < 8 → (∀ e ∈ s.txu.table, e.locker ≠ n) → checkServer s tag n = none)) ∧
  (∀ (tag n item : Nat) (s : State),
     s.lki.placesHeld < 32 → s.ltu.discovery = none → n < 48 → item ≤ 255 → (s.locker n).phase ≠ .absent →
     (s.locker n).phase ≠ .offline → checkServer s tag n = none →
     let a := s.accepted
     exec (.moduleRead tag n item) s =
       .next (chooseTransmit (chooseBus
         { a with txu := { a.txu with
           table := s.txu.table ++
             [⟨.server, some tag, .moduleRead, n, none, some item, s.txu.nextSeq, .waiting⟩]
           nextSeq := (s.txu.nextSeq + 1) % 65536 } })))

/-- LAMP, LABEL and MODULE_WRITE: their checks in order; a command that passes joins the tail of the posting queue and
is answered at once, a long text cut to 24 characters (R116, R117). -/
def Obligations.PostedCommandsByRule : Prop :=
  ∀ (tag n : Nat) (s : State), s.lki.placesHeld < 32 → n < 48 →
    let a := s.accepted
    let served (i : Instr) (k : Kind) (c : PostedContent) (done : Status) : Prop :=
      let refused (st : Status) : Prop := exec i s = .next (chooseTransmit (answer k tag st [] a))
      (s.ltu.discovery ≠ none → refused .busy) ∧
      (s.ltu.discovery = none → (s.locker n).phase = .absent → refused .noTarget) ∧
      (s.ltu.discovery = none → (s.locker n).phase = .offline → refused .offline) ∧
      (s.ltu.discovery = none → (s.locker n).phase ≠ .absent → (s.locker n).phase ≠ .offline →
        8 ≤ s.txu.posted.length → refused .retry) ∧
      (s.ltu.discovery = none → (s.locker n).phase ≠ .absent → (s.locker n).phase ≠ .offline →
        s.txu.posted.length < 8 →
        exec i s = .next (chooseTransmit (chooseBus (answer k tag done []
          { a with txu := { a.txu with
            posted := s.txu.posted ++ [⟨n, tag, c, s.txu.nextSeq, .waiting⟩]
            nextSeq := (s.txu.nextSeq + 1) % 65536 } }))))
    (∀ p, p ≤ 255 → served (.lamp tag n p) kLamp (.lamp p) .ok) ∧
    (∀ x, served (.label tag n x) kLabel (.label (x.take 24)) (if 24 < x.length then .okClamped else .ok)) ∧
    (∀ i v, i ≤ 255 → v ≤ 65535 → served (.moduleWrite tag n i v) kModuleWrite (.moduleWrite i v) .ok)

/-- ABORT by where its tag is found: a WAITING entry is withdrawn and answered ABORTED before the ABORT's own OK; an
entry on the bus, the long operation and a recent completion are too late; any other tag is unknown (R125). That the
ABORTED answer has an empty body is log entry 19. -/
def Obligations.AbortByWhereTheTagIs : Prop :=
  ∀ (tag target : Nat) (s : State), s.lki.placesHeld < 32 →
    let a := s.accepted
    let answered (st : Status) (u : State) : Prop :=
      exec (.abort tag target) s = .next (chooseTransmit (answer kAbort tag st [] u))
    let found := s.txu.table.find? fun e => decide (e.tag = some target)
    let late : Prop := (∃ op, s.txu.longOp = some op ∧ op.tag = some target) ∨ target ∈ s.txu.recent
    (∀ e, found = some e → e.stage = .onBus → answered .abortLate a) ∧
    (found = none → late → answered .abortLate a) ∧
    (found = none → ¬ late → answered .unknownOrder a) ∧
    (∀ e, found = some e → e.stage = .waiting → e.origin = .server → e.locker < 48 →
      ∃ u, answered .ok u ∧ u.txu.table = s.txu.table.filter (fun x => x.seq != e.seq) ∧
        u.txu.recent = addRecent target s.txu.recent ∧ u.txu.posted = s.txu.posted ∧
        u.txu.nextSeq = s.txu.nextSeq ∧
        u.lki.answerQ = s.lki.answerQ ++ [⟨e.request.kind, target, .aborted, []⟩] ∧
        u.oru.orders = s.oru.orders ∧ u.bbm = s.bbm ∧ u.sst = s.sst ∧ u.pni = s.pni ∧
        OtherLockersSame e.locker s u ∧
        (e.request = .moduleRead → u.locker e.locker = s.locker e.locker) ∧
        (e.request ≠ .moduleRead → (∀ p, (s.locker e.locker).clearOrigin = some p → p.transient = false) →
          (u.locker e.locker).unlatchPending = none) ∧
        (e.request = .serviceUnlatch → (s.locker e.locker).phase = .service →
          (u.locker e.locker).phase = .service) ∧
        (e.request = .loadOpen → (s.locker e.locker).phase = .loading →
          (u.locker e.locker).phase = .reserved) ∧
        (e.request = .release → (s.locker e.locker).phase = .pickup →
          (u.locker e.locker).phase =
            if orderCondemned s (s.locker e.locker) then .condemned else .holding) ∧
        (∀ p, e.request = .clear ∨ e.request = .clearLocker → (s.locker e.locker).phase = .clearing →
          (s.locker e.locker).clearOrigin = some p → (u.locker e.locker).phase = p))

/-! ### The tables, the parameters, the store -/

/-- QUERY_ORDER, TABLE_READ, PARAM_GET and STATUS answer what the state holds and change nothing (R45, R168, R169,
R174, R185). An index outside the table's range is answered BAD_ARGUMENT (R169). STATUS is taken after the frame that
carries it has been heard, so it shows the link as that leaves it (R147). -/
def Obligations.ReadsChangeNothing : Prop :=
  ∀ (tag : Nat) (s : State), s.lki.placesHeld < 32 →
    let a := s.accepted
    let answered (i : Instr) (k : Kind) (body : List Field) : Prop :=
      exec i s = .next (chooseTransmit (answer k tag .ok body a))
    (∀ id o, s.ltu.discovery = none → s.order? id = some o →
      answered (.queryOrder tag id) kQueryOrder
        ([.b4 id, .b4 o.code, .b1 o.cls.code, .b1 o.profile, .b2 o.budget, .b2 o.deadline] ++
          (match o.status with
            | .pending age =>
              [.b1 0, .opt1 (o.condemned.map Cause.code), .b2 age, .b1 (s.oru.queue.idxOf id + 1)]
            | .placed n age late =>
              [.b1 1, .opt1 (o.condemned.map Cause.code), .b1 n, .b1 (s.locker n).phase.code, .b2 age, .flag late,
                .b1 o.attempts]) ++
          (match o.hold with
            | some h => [.b2 h.life, .b2 h.cold, .flag h.warned]
            | none => []))) ∧
    (∀ n, n < 48 →
      let e := s.layoutEntry n
      let l := s.locker n
      answered (.tableRead tag 0 n) kTableRead
        [.b1 0, .b1 n, .flag e.populated, .b1 e.cls.code, .b1 e.feed, .b2 e.power, .flag l.fenced, .b1 l.phase.code,
          .b1 l.demand, .b1 l.granted]) ∧
    (∀ i, i < 8 →
      let p := s.profile i
      answered (.tableRead tag 1 i) kTableRead
        [.b1 1, .b1 i, .signed p.setpoint, .signed p.floor, .signed p.overheat, .b2 p.coldLimit, .b2 p.warn,
          .b1 p.gain, .b1 p.base]) ∧
    (∀ f, f < 4 →
      let e := s.feedEntry f
      answered (.tableRead tag 2 f) kTableRead [.b1 2, .b1 f, .b2 e.normal, .b2 e.shed, .flag e.force]) ∧
    (∀ p, 1 ≤ p → p ≤ 16 → answered (.paramGet tag p) kParamGet [.b1 p, paramField p (paramValue s p)]) ∧
    (∀ t i, (t = 0 ∧ 47 < i) ∨ (t = 1 ∧ 7 < i) ∨ (t = 2 ∧ 3 < i) →
      exec (.tableRead tag t i) s = .next (chooseTransmit (answer kTableRead tag .badArgument [] a))) ∧
    (let x := s.lki.errors
     let lockers (f : Locker → Bool) : Nat := ((List.range 48).filter fun n => f (s.locker n)).length
     let orders (f : Order → Bool) : Nat := (s.oru.orders.filter f).length
     let waits (o : Order) : Bool := match o.status with | .pending _ => true | .placed .. => false
     answered (.status tag) kStatus
       ([x.total, x.length, x.gap, x.crc, x.cls, x.overrun, s.txu.postedLost, s.bbm.failedExchanges, s.bbm.failedPolls,
           a.lki.lostReports, s.lki.islandEntries].map Field.b2 ++
         [Phase.absent, .free, .reserved, .loading, .holding, .pickup, .condemned, .clearing, .purging, .service, .offline,
           .quarantine].map (fun p => .b2 (lockers fun l => decide (l.phase = p))) ++
         [.b2 (lockers fun l => l.fenced),
           .b2 s.oru.orders.length, .b2 (orders waits),
           .b2 (orders fun o => !waits o && o.hold.isNone && o.condemned.isNone),
           .b2 (orders fun o => o.hold.isSome && o.condemned.isNone), .b2 (orders fun o => o.condemned.isSome),
           .flag false, .flag s.ltu.discovery.isSome, .flag s.sst.busy, .flag s.sst.strictHold,
           .b1 (match s.sst.source with | .stored => 0 | .factory => 1)]))

/-- LAYOUT write: the phase check, the two checks of an emptied position in SERVICE, the clamp of the rated power; at
acceptance the entry and the record's copy, ABSENT to OFFLINE or the reverse, and the free lists (R1, R170, R171). A
power that is only rounded down to a step of 10 W is answered OK_CLAMPED: log entry 21. A write that leaves a RUNNING
cycle, its cursor above 0 and no poll on the bus, no locker to poll ends the cycle at that event (R99). -/
def Obligations.LayoutWriteByRule : Prop :=
  (∀ u : State,
     let spent : Prop :=
       u.bbm.cycle = .running ∧ 0 < u.bbm.cursor ∧ (∀ n a m, u.bbm.exchange ≠ some (.poll n a m)) ∧
         ∀ n, n < 48 → u.bbm.cursor ≤ n → (u.locker n).phase = .absent
     (¬ spent → cycleAfterLayoutWrite u = u) ∧
     (spent → u.params.pollGapMs = 0 →
       cycleAfterLayoutWrite u = { u with bbm := { u.bbm with cycle := .running, cursor := 0, pollGap := none } }) ∧
     (spent → u.params.pollGapMs ≠ 0 →
       cycleAfterLayoutWrite u =
         { u with bbm := { u.bbm with cycle := .gap, pollGap := some (0, u.params.pollGapMs) } })) ∧
  ∀ (tag n cls feed power : Nat) (populated : Bool) (c : SizeClass) (s : State),
    s.lki.placesHeld < 32 → SizeClass.ofCode cls = some c → feed ≤ 3 →
    let a := s.accepted
    let l := s.locker n
    let i : Instr := .tableWrite tag n (.layout (if populated then 1 else 0) cls feed power)
    let w := max 50 (min power 1000) / 10 * 10
    let refused (st : Status) : Prop := exec i s = .next (chooseTransmit (answer kTableWrite tag st [] a))
    let taken (u : State) : Prop :=
      exec i s = .next (chooseTransmit (chooseBus (answer kTableWrite tag (if w = power then .ok else .okClamped)
        [.b1 0, .b1 n, .flag populated, .b1 cls, .b1 feed, .b2 w] (cycleAfterLayoutWrite u)))) ∧
      u.sst = { s.sst with working := { s.sst.working with
        layout := vset s.sst.working.layout n ⟨populated, c, feed, w⟩ } } ∧
      OtherLockersSame n s u ∧ u.txu = s.txu ∧ u.bbm = s.bbm ∧ u.hta = s.hta
    (∀ p k f w, 47 < n ∨ 1 < p ∨ 2 < k ∨ 3 < f →
      exec (.tableWrite tag n (.layout p k f w)) s =
        .next (chooseTransmit (answer kTableWrite tag .badArgument [] a))) ∧
    (n < 48 → l.phase ∉ [.absent, .free, .service] → refused .wrongPhase) ∧
    (n < 48 → populated = false → l.phase = .service → l.orderRef ≠ none → refused .wrongPhase) ∧
    (n < 48 → populated = false → l.phase = .service → l.orderRef = none → l.unlatchPending ≠ none → refused .interlock) ∧
    (n < 48 → populated = true → l.phase = .absent →
      ∃ u, taken u ∧ u.oru = s.oru ∧
        u.locker n = { l with
          populated := true, cls := c, feed := feed, power := w, phase := .offline, resume := none, pollFails := 0
          sample := none }) ∧
    (n < 48 → populated = true → l.phase = .service ∨ (l.phase = .free ∧ c = l.cls) →
      ∃ u, taken u ∧ u.oru = s.oru ∧
        u.locker n = { l with populated := true, cls := c, feed := feed, power := w }) ∧
    (n < 48 → populated = false → l.phase = .free →
      ∃ u, taken u ∧ u.oru.orders = s.oru.orders ∧ (∀ m, m ∈ u.freeList l.cls ↔ m ∈ s.freeList l.cls ∧ m ≠ n) ∧
        u.locker n = { l with populated := false, cls := c, feed := feed, power := w, phase := .absent }) ∧
    (n < 48 → populated = false →
        l.phase = .absent ∨ (l.phase = .service ∧ l.orderRef = none ∧ l.unlatchPending = none) →
      ∃ u, taken u ∧ u.oru = s.oru ∧
        u.locker n = { l with populated := false, cls := c, feed := feed, power := w, phase := .absent }) ∧
    (n < 48 → populated = true → l.phase = .free → c ≠ l.cls →
      ∃ v, taken (becameFree n v) ∧ (∀ m, m ∈ v.freeList l.cls ↔ m ∈ s.freeList l.cls ∧ m ≠ n) ∧
        v.oru.orders = s.oru.orders ∧ v.oru.queue = s.oru.queue ∧
        v.locker n = { l with populated := true, cls := c, feed := feed, power := w })

/-- PROFILE write: the index, STRICT_HOLD, the temperature constraint on the values as written; the other fields are
clamped to their ranges (R53). FEED write: both budgets clamped to 0..12,000 W in steps of 10 W, FORCE_SHED no or yes;
no other check, and nothing but the working entry changes (R170, R172). A budget that is only rounded down is answered
OK_CLAMPED: log entry 21. -/
def Obligations.ProfileAndFeedWritesByRule : Prop :=
  (∀ (tag i : Nat) (S F O : Int) (cold warn gain base : Nat) (s : State), s.lki.placesHeld < 32 →
     let a := s.accepted
     let c : Instr := .tableWrite tag i (.profile S F O cold warn gain base)
     let refused (st : Status) : Prop := exec c s = .next (chooseTransmit (answer kTableWrite tag st [] a))
     let strict : Prop := s.sst.strictHold = true ∧ ∃ o ∈ s.oru.orders, o.profile = i
     let inOrder : Prop := -400 < F ∧ F < S ∧ S < O ∧ O ≤ 1200
     let p : Profile := ⟨S, F, O, max 30 (min cold 1800), min warn 3600, min gain 255, min base 20⟩
     (7 < i → refused .badArgument) ∧
     (i ≤ 7 → strict → refused .strict) ∧
     (i ≤ 7 → ¬ strict → ¬ inOrder → refused .badArgument) ∧
     (i ≤ 7 → ¬ strict → inOrder →
       exec c s =
         .next (chooseTransmit (answer kTableWrite tag
           (if p.coldLimit = cold ∧ p.warn = warn ∧ p.gain = gain ∧ p.base = base then .ok else .okClamped)
           [.b1 1, .b1 i, .signed S, .signed F, .signed O, .b2 p.coldLimit, .b2 p.warn, .b1 p.gain, .b1 p.base]
           { a with sst := { s.sst with working := { s.sst.working with
             profiles := vset s.sst.working.profiles i p } } })))) ∧
  (∀ (tag f normal shed force : Nat) (s : State), s.lki.placesHeld < 32 →
     let a := s.accepted
     let c : Instr := .tableWrite tag f (.feed normal shed force)
     let tens (w : Nat) : Nat := min w 12000 / 10 * 10
     (3 < f ∨ 1 < force → exec c s = .next (chooseTransmit (answer kTableWrite tag .badArgument [] a))) ∧
     (f ≤ 3 → force ≤ 1 →
       exec c s =
         .next (chooseTransmit (answer kTableWrite tag
           (if tens normal = normal ∧ tens shed = shed then .ok else .okClamped)
           [.b1 2, .b1 f, .b2 (tens normal), .b2 (tens shed), .b1 force]
           { a with sst := { s.sst with working := { s.sst.working with
             feeds := vset s.sst.working.feeds f ⟨tens normal, tens shed, decide (force = 1)⟩ } } }))))

/-- PARAM_SET by the parameter's type: numeric values clamped to their limits, LINK_SILENCE_S over its gap, two-valued
parameters and REPORT_MASK refused outside theirs (R145, R174, R175), every other setting as before; UPSIZE going to
true runs the pending sweep (R37, R178), a new DOOR_OPEN_LIMIT_S is held against every locker (R176), in increasing
index by log entry 33; STRICT_HOLD by the table of R180. `FenceWriteRecomputes` has the fence parameters and says what
the sweep does, `PhasesBySteps` what the examination does. -/
def Obligations.ParamSetByType : Prop :=
  (∀ (tag p v : Nat) (s : State), s.lki.placesHeld < 32 →
     let a := s.accepted
     let limits : List (Nat × Nat × Nat) :=
       [(1, 5, 60), (4, 2, 30), (5, 0, 2000), (6, 0, 1800), (7, 600, 1200), (8, 0, 3600)]
     let q := s.params
     let set (w : Nat) : Params :=
       { q with
         unlatchWindowS := if p = 1 then w else q.unlatchWindowS
         linkSilenceS := if p = 3 then w else q.linkSilenceS
         sampleStaleS := if p = 4 then w else q.sampleStaleS
         pollGapMs := if p = 5 then w else q.pollGapMs
         purgeSlots := if p = 6 then w else q.purgeSlots
         purgeLimit := if p = 7 then w else q.purgeLimit
         pendingWaitS := if p = 8 then w else q.pendingWaitS
         upsize := if p = 9 then decide (w = 1) else q.upsize
         isolate := if p = 10 then decide (w = 1) else q.isolate
         panelEnable := if p = 11 then decide (w = 1) else q.panelEnable
         reportMask := if p = 12 then w else q.reportMask }
     let held (w : Nat) : Prop :=
       let u : State := { a with sst := { s.sst with working := { s.sst.working with params := set w } } }
       exec (.paramSet tag p v) s =
         .next (chooseTransmit (answer kParamSet tag (if w = v then .ok else .okClamped) [.b1 p, paramField p w] u)) ∧
       paramValue u p = w
     (∀ lo hi, (p, lo, hi) ∈ limits → held (max lo (min v hi))) ∧
     (p = 3 → held (if v = 0 then 0 else max 5 (min v 300))) ∧
     (p ∈ [10, 11] → v ≤ 1 → held v) ∧
     (p = 9 → v ≤ 1 → s.params.upsize = true ∨ v = 0 → held v) ∧
     (p = 9 → v = 1 → s.params.upsize = false →
       exec (.paramSet tag p v) s =
         .next (chooseTransmit (answer kParamSet tag .ok [.b1 9, .b1 1]
           (pendingSweep { a with sst := { s.sst with working := { s.sst.working with
             params := { s.sst.working.params with upsize := true } } } })))) ∧
     (p = 2 →
       let w := max 10 (min v 600)
       let written : State := { a with sst := { s.sst with working := { s.sst.working with
         params := { s.sst.working.params with doorOpenLimitS := w } } } }
       exec (.paramSet tag p v) s =
         .next (chooseTransmit (answer kParamSet tag (if w = v then .ok else .okClamped) [.b1 2, .b2 w]
           ((List.range 48).foldl (fun u n => examineDoorHeld n u) written)))) ∧
     (p = 12 → v ≤ 15 → held v) ∧
     ((p ∈ [9, 10, 11, 13, 15, 16] ∧ 1 < v) ∨ (p = 12 ∧ 15 < v) →
       exec (.paramSet tag p v) s = .next (chooseTransmit (answer kParamSet tag .badArgument [] a)))) ∧
  (∀ (tag v : Nat) (s : State), s.lki.placesHeld < 32 → v ≤ 1 →
     let a := s.accepted
     (v = 0 → s.sst.strictHold = true →
       exec (.paramSet tag 16 v) s = .next (chooseTransmit (answer kParamSet tag .strict [] a))) ∧
     (v = 1 ∨ s.sst.strictHold = false →
       exec (.paramSet tag 16 v) s =
         .next (chooseTransmit (answer kParamSet tag .ok [.b1 16, .b1 v]
           { a with sst := { s.sst with strictHold := decide (v = 1) } }))))

/-- A write of a fence parameter fences what side, count and inversion cover, changes no phase, takes the newly fenced
FREE lockers out of their lists and appends the newly unfenced ones in increasing index; the pending sweep follows
where such a locker and a waiting order meet (R2, R36, R179). The sweep walks the pending queue once and places each
order that finds a locker, after which none that is left finds one (R37, R40, R41). A FENCE_COUNT above 48 is clamped
to 48 and answered OK_CLAMPED (R175, R179). -/
def Obligations.FenceWriteRecomputes : Prop :=
  (∀ (tag p v : Nat) (s : State), s.lki.placesHeld < 32 → s.FreeListsExact →
     (p = 13 ∧ v ≤ 1) ∨ p = 14 ∨ (p = 15 ∧ v ≤ 1) →
     let w := if p = 14 then min v 48 else v
     let q : Params :=
       { s.params with
         fenceHigh := if p = 13 then decide (w = 1) else s.params.fenceHigh
         fenceCount := if p = 14 then w else s.params.fenceCount
         fenceInvert := if p = 15 then decide (w = 1) else s.params.fenceInvert }
     let covers (n : Nat) : Bool :=
       (if q.fenceHigh then decide (48 - q.fenceCount ≤ n) else decide (n < q.fenceCount)) != q.fenceInvert
     let joins (c : SizeClass) : List Nat :=
       (List.range 48).filter fun n =>
         decide ((s.locker n).phase = .free) && (s.locker n).fenced && !covers n && decide ((s.locker n).cls = c)
     ∃ u, exec (.paramSet tag p v) s =
         .next (chooseTransmit (answer kParamSet tag (if w = v then .ok else .okClamped) [.b1 p, .b1 w]
           (if s.oru.queue ≠ [] ∧ joins .small ++ joins .medium ++ joins .large ≠ [] then pendingSweep u else u))) ∧
       u = { s.accepted with
         sst := { s.sst with working := { s.sst.working with params := q } }
         oru := { s.oru with
           freeSmall := u.oru.freeSmall, freeMedium := u.oru.freeMedium, freeLarge := u.oru.freeLarge }
         ltu := { s.ltu with lockers := u.ltu.lockers } } ∧
       u.params = q ∧ (∀ n, n < 48 → u.locker n = { s.locker n with fenced := covers n }) ∧
       ∀ c, u.freeList c = (s.freeList c).filter (fun n => !covers n) ++ joins c) ∧
  (∀ s : State,
     pendingSweep s =
       s.oru.queue.foldl
         (fun u id =>
           match u.order? id with
           | none => u
           | some o =>
             match allocate u o.cls with
             | none => u
             | some n => placePending o n u)
         s) ∧
  (∀ (o : Order) (n age : Nat) (s : State), o.status = .pending age → n < 48 →
     let l := s.locker n
     let u := placePending o n s
     ∃ v, u = submit .assigned [.b4 o.id, .b1 n, .b1 l.cls.code, .b2 age] v ∧ OnlyRecords s v ∧ v.lki = s.lki ∧
       v.oru.orders =
         s.oru.orders.map (fun x => if x.id == o.id then { x with status := .placed n 0 false } else x) ∧
       v.oru.queue = s.oru.queue.filter (fun i => i != o.id) ∧ v.oru.codeMap = s.oru.codeMap ∧
       (∀ c, v.freeList c = if c = l.cls then (s.freeList c).filter (fun m => m != n) else s.freeList c) ∧
       OtherLockersSame n s v ∧ (l.phase = .free → v.locker n = { l with phase := .reserved, orderRef := some o.id })) ∧
  (∀ (s : State) (c : SizeClass),
     (∀ n rest, s.freeList c = n :: rest → allocate s c = some n) ∧
     (s.freeList c = [] → s.params.upsize = false → allocate s c = none) ∧
     (∀ k n rest, s.freeList c = [] → s.params.upsize = true → k ∈ c.larger → s.freeList k = n :: rest →
       (∀ j ∈ c.larger, j.code < k.code → s.freeList j = []) → allocate s c = some n) ∧
     (s.freeList c = [] → (∀ k ∈ c.larger, s.freeList k = []) → allocate s c = none)) ∧
  (∀ (s : State) (o : Order), s.OrdersConsistent → s.FreeListsExact →
     o ∈ (pendingSweep s).oru.orders → o.isPending = true → allocate (pendingSweep s) o.cls = none)

/-- STORE: with the long-operation place free and its tag unused, ACCEPTED, the snapshot taken, the busy flag set and
the copy chosen by R182 invalid until its end (R127, R166, R182). STORE_END: a good read-back makes the copy valid
with the snapshot and its generation and ends with OK, a bad one leaves it invalid and ends with STORE_FAULT; DONE
follows and the place is freed (R128, R182). -/
def Obligations.StoreWritesTheOlderCopy : Prop :=
  (∀ (tag : Nat) (s : State), s.lki.placesHeld < 32 →
     let a := s.accepted
     let refused (st : Status) : Prop :=
       exec (.store tag) s = .next (chooseTransmit (answer kStore tag st [] a))
     let tagUsed : Prop := ∃ e ∈ s.txu.table, e.tag = some tag
     let begun (side : StoreSide) (g : Nat) : Prop :=
       exec (.store tag) s =
         .next (chooseTransmit
           { answer kStore tag .accepted [] a with
             txu := { s.txu with longOp := some ⟨.store, some tag⟩ }
             sst := { s.sst with
               copyA := if side = .a then none else s.sst.copyA
               copyB := if side = .b then none else s.sst.copyB
               snapshot := some s.sst.working, busy := true, target := some (side, g) } })
     (s.txu.longOp ≠ none → refused .busy) ∧
     (s.txu.longOp = none → tagUsed → refused .tagInUse) ∧
     (s.txu.longOp = none → ¬ tagUsed →
       (s.sst.copyA = none → s.sst.copyB = none → begun .a 1) ∧
       (∀ b, s.sst.copyA = none → s.sst.copyB = some b → begun .a ((b.generation + 1) % 65536)) ∧
       (∀ x, s.sst.copyA = some x → s.sst.copyB = none → begun .b ((x.generation + 1) % 65536)) ∧
       (∀ x b, s.sst.copyA = some x → s.sst.copyB = some b → x.generation < 65536 →
         (x.generation + 1) % 65536 = b.generation →
         begun .a ((b.generation + 1) % 65536)) ∧
       (∀ x b, s.sst.copyA = some x → s.sst.copyB = some b → b.generation < 65536 →
         (b.generation + 1) % 65536 = x.generation →
         begun .b ((x.generation + 1) % 65536)))) ∧
  (∀ (good : Bool) (tag g : Nat) (side : StoreSide) (snap : Settings) (s : State),
     s.sst.busy = true → s.sst.target = some (side, g) → s.sst.snapshot = some snap →
     s.txu.longOp = some ⟨.store, some tag⟩ →
     let written : Option StoreCopy := if good then some ⟨g, snap⟩ else none
     exec (.storeEnd good) s =
       .next (chooseTransmit
         { submitTagged tag .done [.b1 tag, .b1 0, .b1 (if good then 0 else 25)] { s with ports := [] } with
           txu := { s.txu with longOp := none }
           sst := { s.sst with
             copyA := if side = .a then written else s.sst.copyA
             copyB := if side = .b then written else s.sst.copyB
             snapshot := none, busy := false, target := none } }))

/-! ### The bank reset -/

/-- The start of a reset pulse: the exchange in flight is cut off, the map withheld, the cycle back at 0. The command
on the bus and then the WAITING ones, oldest first (R114), end with BANK_RESET, each answered or shown on the panel
and its reservation reverted (R12, R122, R159), the posted ones are counted lost, and the records take their reset
values. The orders are kept (R109, R129, R196). In a RESCAN every locker but an ABSENT or SERVICE one is set aside
once more (R188). BANK_RESET starts the pulse at its acceptance (R127). RESCAN, with no PLACED order, is answered
ACCEPTED, sets the bank aside, empties the free lists and begins a discovery, whose pulse starts when no exchange is
in flight (R188, R194). That a map state NONE stays NONE at the pulse is log entry 22, the numbers in PANEL_REFUSED
are log entry 20. -/
def Obligations.ResetRequestsByRule : Prop :=
  let aside (l : Locker) : Locker :=
    let transient : Bool := decide (l.phase ∈ [.loading, .pickup, .clearing])
    if l.phase ∈ [.absent, .service] then l
    else
      { l with
        phase := .offline, resume := none
        openedNoted := if transient then none else l.openedNoted
        transientTimer := if transient then none else l.transientTimer
        doorHeld := if transient then none else l.doorHeld
        clearOrigin := if l.phase = .clearing then none else l.clearOrigin
        purgeProgress := if l.phase = .purging then none else l.purgeProgress
        purgeSuspended := if l.phase = .purging then none else l.purgeSuspended }
  (∀ s : State,
     let cut : List Entry :=
       match s.bbm.exchange with | some (.command _ q _ _) => (entryBySeq s.txu q).toList | _ => []
     let cutPosted : List Posted :=
       match s.bbm.exchange with
       | some (.command _ q _ _) => if cut.isEmpty then (postedBySeq s.txu q).toList else []
       | _ => []
     let left : List Entry := s.txu.table.filter fun e => cut.all fun x => x.seq != e.seq
     let leftPosted : List Posted := s.txu.posted.filter fun p => cutPosted.all fun x => x.seq != p.seq
     let ended : List Entry := cut ++ Txu.waitingInOrder { s.txu with table := left }
     let panel : List Entry := ended.filter fun e => decide (e.origin = .panel)
     let rescan : Bool := match s.ltu.discovery with | some ⟨.rescan, _⟩ => true | _ => false
     let zeroed (l : Locker) : Locker :=
       { l with
         pollFails := 0, kSeen := 0, cSeen := 0, unlatchPending := none
         openedNoted := if l.phase ∈ [.loading, .pickup, .clearing] then some true else l.openedNoted }
     let left' (l : Locker) : Locker := if rescan then aside (zeroed l) else zeroed l
     let u := startPulse s
     u.bbm = { s.bbm with
       exchange := none, line := .pulse, lineMs := 0, cursor := 0, pollGap := none
       mapState := if s.bbm.mapState = .none then .none else .withheld
       cycle := if s.bbm.cycle = .stopped then .stopped else .running } ∧
     u.txu =
       { table := left.filter fun e => ended.all fun x => x.seq != e.seq
         posted := leftPosted.filter fun p => decide (p.stage ≠ .waiting)
         nextSeq := s.txu.nextSeq
         recent := ended.foldl
           (fun r e => match e.origin, e.tag with | .server, some x => addRecent x r | _, _ => r) s.txu.recent
         longOp := s.txu.longOp
         postedLost := min (s.txu.postedLost + cutPosted.length +
           (leftPosted.filter fun p => decide (p.stage = .waiting)).length) 65535 } ∧
     (∀ e ∈ u.txu.table, e.stage = .onBus) ∧ (∀ x ∈ u.txu.posted, x.stage = .onBus) ∧
     u.lki.answerQ = s.lki.answerQ ++
       ended.filterMap (fun e =>
         if e.origin = .server then e.tag.map fun x => ⟨e.request.kind, x, .bankReset, [.b1 e.locker]⟩ else none) ∧
     u.lki.placesHeld = s.lki.placesHeld ∧ u.ports = s.ports ++ panel.map (fun _ => .display .busy) ∧
     u.pni = { s.pni with releases := s.pni.releases.filter fun r => panel.all fun e => e.locker != r.1 } ∧
     ((panel.map Entry.locker).Nodup → s.lki.reportQ.length + panel.length ≤ 32 →
       u.lki.reportQ = s.lki.reportQ ++
         (if s.params.reportMask.testBit 3 then
           panel.map fun e =>
             ⟨.panelRefused, s.uptime, 0, [.b1 2, .b1 13, .orderId (s.releaseFor e), .b1 e.locker]⟩
          else [])) ∧
     u.ltu = { s.ltu with
       lockers := u.ltu.lockers
       probing := match s.bbm.exchange with | some (.probe ..) => none | _ => s.ltu.probing } ∧
     (∀ n, n < 48 →
       let here := ended.filter fun e => decide (e.locker = n) && decide (e.request ≠ .moduleRead)
       (here = [] → u.locker n = left' (s.locker n)) ∧
       ∀ e, here = [e] → u.locker n = left' ((s.locker n).reverted s e.request)) ∧
     u.oru = { s.oru with
       freeSmall := u.oru.freeSmall, freeMedium := u.oru.freeMedium, freeLarge := u.oru.freeLarge } ∧
     (∀ c, rescan = false → u.freeList c = s.freeList c) ∧
     (∀ c, rescan = true → s.FreeListsExact → u.freeList c = []) ∧
     u.sst = s.sst ∧ u.hta = s.hta ∧ u.hau = s.hau) ∧
  (∀ (tag : Nat) (s : State),
     s.lki.placesHeld < 32 → s.txu.longOp = none → (∀ e ∈ s.txu.table, e.tag ≠ some tag) →
     s.ltu.discovery = none → s.bbm.line = .idle →
     let a := s.accepted
     exec (.bankReset tag) s =
       .next (chooseTransmit (startPulse (answer kBankReset tag .accepted []
         { a with txu := { s.txu with longOp := some ⟨.bankReset, some tag⟩ } }))) ∧
     (anyPlaced s = true → exec (.rescan tag) s =
       .next (chooseTransmit (answer kRescan tag .wrongPhase [] a))) ∧
     (anyPlaced s = false →
       ∃ v, exec (.rescan tag) s =
           .next (chooseTransmit (if s.bbm.exchange = none then startPulse v else v)) ∧
         v = { answer kRescan tag .accepted [] a with
           txu := { s.txu with longOp := some ⟨.rescan, some tag⟩ }
           bbm := { s.bbm with cycle := .stopped, pollGap := none }
           ltu := ⟨v.ltu.lockers, some ⟨.rescan, .reset⟩, 0, none, 0⟩
           oru := { s.oru with
             freeSmall := v.oru.freeSmall, freeMedium := v.oru.freeMedium, freeLarge := v.oru.freeLarge } } ∧
         (∀ n, n < 48 → v.locker n = aside (s.locker n)) ∧ (s.FreeListsExact → ∀ c, v.freeList c = [])) ∧
     (anyPlaced s = false → s.FreeListsExact →
       ∃ t, exec (.rescan tag) s = .next t ∧
         t.ltu.discovery = some ⟨.rescan, .reset⟩ ∧ t.ltu.probeCursor = 0 ∧ t.ltu.probing = none ∧
         t.ltu.answered = 0 ∧ t.bbm.cycle = .stopped ∧ t.bbm.pollGap = none ∧
         t.txu.longOp = some ⟨.rescan, some tag⟩ ∧
         (∀ n, n < 48 →
           ((s.locker n).phase = .absent ∨ (s.locker n).phase = .service →
             (t.locker n).phase = (s.locker n).phase) ∧
           ((s.locker n).phase ≠ .absent → (s.locker n).phase ≠ .service →
             (t.locker n).phase = .offline ∧ (t.locker n).resume = none)) ∧
         (∀ c, t.freeList c = []) ∧ t.oru.orders = s.oru.orders ∧ t.oru.queue = s.oru.queue ∧
         (s.bbm.exchange = none → t.bbm.line = .pulse) ∧
         (∀ x, s.bbm.exchange = some x → t.bbm.line = .idle ∧ t.bbm.exchange = some x))) ∧
  (∀ t : Txu, (t.table.map Entry.seq).Nodup →
     (∃ base, ∀ e ∈ t.table, ∃ d, d < 32768 ∧ e.seq = (base + d) % 65536) →
     t.waitingInOrder.Perm (t.table.filter fun e => decide (e.stage = .waiting)) ∧
       t.waitingInOrder.Pairwise fun x y => (y.seq + 65536 - x.seq) % 65536 < 32768)

/-- The reset line: PULSE to QUIET after 100 ms, QUIET to IDLE after 500 ms; the end notice ends a BANK_RESET with
DONE OK, or turns a discovery to PROBING, which ends at once where no locker is to be probed; then the bus is given
away (R108, R110, R128, R188, R191). That the rest of the time passes first is log entry 2; that a poll cycle which
finds no locker after the quiet time rests for POLL_GAP_MS is log entry 29. `ProbesSettleTheBank` says what the end of
a discovery does. -/
def Obligations.ResetLineByItsTimes : Prop :=
  ∀ s : State,
    (s.bbm.line = .pulse →
      let u := s.clearPorts.elapse (100 - s.bbm.lineMs)
      exec .pulseEnd s = .next { u with bbm := { u.bbm with line := .quiet, lineMs := 0 } }) ∧
    (s.bbm.line = .quiet →
      let u := s.clearPorts.elapse (500 - s.bbm.lineMs)
      let idle : Bbm := { u.bbm with line := .idle, lineMs := 0 }
      (∀ tag, s.ltu.discovery = none → s.txu.longOp = some ⟨.bankReset, some tag⟩ →
        exec .quietEnd s =
          .next (chooseTransmit (chooseBus (cycleAfterQuiet
            { submitTagged tag .done [.b1 tag, .b1 2, .b1 0] u with
              bbm := idle, txu := { s.txu with longOp := none } })))) ∧
      (∀ k n, s.ltu.discovery = some ⟨k, .reset⟩ → n < 48 → s.ltu.probeCursor ≤ n →
        (s.locker n).populated = true → (s.locker n).phase ≠ .service →
        exec .quietEnd s =
          .next (chooseTransmit (chooseBus (cycleAfterQuiet
            { u with bbm := idle, ltu := { u.ltu with discovery := some ⟨k, .probing⟩ } })))) ∧
      (∀ k, s.ltu.discovery = some ⟨k, .reset⟩ → s.ltu.probing = none →
        (∀ n, n < 48 → s.ltu.probeCursor ≤ n → (s.locker n).populated = true → (s.locker n).phase = .service) →
        exec .quietEnd s =
          .next (chooseTransmit (chooseBus (cycleAfterQuiet (endDiscovery k
            { u with bbm := idle, ltu := { u.ltu with discovery := some ⟨k, .probing⟩ } }))))) ∧
      (s.ltu.discovery = none → (∀ tag, s.txu.longOp ≠ some ⟨.bankReset, tag⟩) →
        exec .quietEnd s = .next (chooseTransmit (chooseBus (cycleAfterQuiet { u with bbm := idle }))))) ∧
    ((s.bbm.cycle ≠ .running ∨ s.bbm.cursor ≠ 0 ∨ ∃ n, n < 48 ∧ (s.locker n).phase ≠ .absent) →
      cycleAfterQuiet s = s) ∧
    (s.bbm.cycle = .running → s.bbm.cursor = 0 → (∀ n, n < 48 → (s.locker n).phase = .absent) →
      s.params.pollGapMs ≠ 0 →
      cycleAfterQuiet s = { s with bbm := { s.bbm with cycle := .gap, pollGap := some (0, s.params.pollGapMs) } })

/-! ### The hold tick and the heater frame -/

/-- The hold tick: the next period starts, and a held meal is charged by its sample against its profile's floor, then
condemned EXPIRED or COLD, or warned of (R56 to R61). The premises on order and locker rule out states no run reaches,
in which two lockers or two orders claim each other. Then the pending ages grow and an order that has waited
PENDING_WAIT_S leaves with BOOK_EXPIRED (R46), and the reserved age of an order not yet loaded grows and LOAD_LATE is
reported once at its deadline (R47). That the rest of the period passes first is log entry 2, that several LOAD_LATE
of one tick come in a free order is log entry 12. A charge that condemns submits CONDEMNED, one that warns NEAR_EXPIRY
(R48, R60, R61, R67), and the charges follow in increasing locker index (R57). That the two kinds of report interleave
so is log entry 31. -/
def Obligations.HoldTickByRule : Prop :=
  (∀ (e n id : Nat) (age : Nat) (late : Bool) (o : Order) (h : Hold) (s : State),
     s.OrdersConsistent → s.hau.tickTimer = some e → n < 48 →
     ((s.locker n).phase = .holding ∨ (s.locker n).phase = .pickup ∨
       ((s.locker n).phase = .offline ∧ (s.locker n).resume = some .holding)) →
     (s.locker n).orderRef = some id → (∀ m, m ≠ n → (s.locker m).orderRef ≠ some id) →
     (∀ x ∈ s.oru.orders, x.locker = some n → x.id = id) →
     s.order? id = some o → o.status = .placed n age late → o.condemned = none → o.hold = some h →
     let u := s.clearPorts.elapse (1000 - e)
     let l := u.locker n
     let p := s.profile o.profile
     let fresh : Prop := l.sampleAge ≤ s.params.sampleStaleS * 1000 ∧ l.phase ≠ .offline
     ∃ t o' h', exec .holdTick s = .next t ∧ t.hau.tickTimer = some 0 ∧ t.upMs = s.upMs + (1000 - e) ∧
       t.sst = s.sst ∧ t.txu = s.txu ∧ t.hta = u.hta ∧ t.bbm = u.bbm ∧
       t.order? id = some o' ∧ o'.hold = some h' ∧ o'.budget = o.budget ∧ o'.status = o.status ∧
       (∀ T, fresh → l.sample = some T → p.floor ≤ T → h'.life = h.life - 1 ∧ h'.cold = h.cold) ∧
       (∀ T, fresh → l.sample = some T → T < p.floor →
         h'.life = h.life - min 8 (1 + ((p.floor - T) / 50).toNat) ∧ h'.cold = min (h.cold + 1) 65535) ∧
       (¬ fresh ∨ l.sample = none → h'.life = h.life - 8 ∧ h'.cold = min (h.cold + 1) 65535) ∧
       o'.condemned =
         (if h'.life = 0 then some .expired else if p.coldLimit ≤ h'.cold then some .cold else none) ∧
       (o'.condemned = none → h'.warned = (h.warned || decide (h'.life ≤ p.warn))) ∧
       (o'.condemned ≠ none → h'.warned = h.warned ∧
         (l.phase = .holding → (t.locker n).phase = .condemned) ∧
         (l.phase = .pickup → (t.locker n).phase = .pickup) ∧
         (l.phase = .offline → (t.locker n).resume = some .condemned))) ∧
  (∀ (e id age : Nat) (o : Order) (s : State),
     s.OrdersConsistent → s.hau.tickTimer = some e → (∀ n, (s.locker n).orderRef ≠ some id) →
     s.order? id = some o → o.status = .pending age →
     let wait := s.params.pendingWaitS
     let age' := min (age + 1) 65535
     ∃ t, exec .holdTick s = .next t ∧
       (wait = 0 ∨ age' < wait → t.order? id = some { o with status := .pending age' } ∧ id ∈ t.oru.queue) ∧
       (wait ≠ 0 → wait ≤ age' → t.order? id = none ∧ id ∉ t.oru.queue ∧ ∀ c, (c, id) ∉ t.oru.codeMap)) ∧
  (∀ (e id n age : Nat) (late : Bool) (o : Order) (s : State),
     s.OrdersConsistent → s.hau.tickTimer = some e → s.order? id = some o → o.status = .placed n age late →
     o.hold = none →
     let age' := min (age + 1) 65535
     let due : Bool := decide (o.deadline ≠ 0) && decide (o.deadline ≤ age')
     ∃ t, exec .holdTick s = .next t ∧ t.order? id = some { o with status := .placed n age' (late || due) }) ∧
  (∀ (e : Nat) (s : State), s.hau.tickTimer = some e →
     let u : State := { s.clearPorts.elapse (1000 - e) with hau := ⟨some 0⟩ }
     let charged : State := (List.range 48).foldl (fun v n => chargeLocker n v) u
     let aged : State := { charged with oru := { charged.oru with orders := charged.oru.orders.map Order.agePending } }
     let waited : State := charged.oru.queue.foldl (fun v id => expirePending id v) aged
     let reserved : State := { waited with oru := { waited.oru with orders := waited.oru.orders.map Order.ageReserved } }
     ∃ late : List Order, late.Perm (reserved.oru.orders.filter loadLateDue) ∧
       exec .holdTick s = .next (chooseTransmit (late.foldl (fun v o => examineLoadLate o v) reserved))) ∧
  (∀ (n id : Nat) (o : Order) (h : Hold) (s : State),
     n < 48 → (s.locker n).orderRef = some id → s.order? id = some o → o.hold = some h → o.locker = some n →
     let l := s.locker n
     let p := s.profile o.profile
     let fresh : Option Int :=
       if l.phase = .offline ∨ s.params.sampleStaleS * 1000 < l.sampleAge then none else l.sample
     let wear : Nat :=
       match fresh with | none => 8 | some T => if p.floor ≤ T then 1 else min 8 (1 + ((p.floor - T) / 50).toNat)
     let cold : Bool := match fresh with | none => true | some T => decide (T < p.floor)
     let h' : Hold := ⟨h.life - wear, if cold then min (h.cold + 1) 65535 else h.cold, h.warned⟩
     let charged : Prop :=
       (l.phase = .holding ∨ l.phase = .pickup ∨ (l.phase = .offline ∧ l.resume = some .holding)) ∧ o.condemned = none
     let withOrder (f : Order → Order) : State :=
       { s with oru := { s.oru with orders := s.oru.orders.map fun x => if x.id == id then f x else x } }
     let noticed : Locker :=
       if l.phase = .holding then { l with phase := .condemned }
       else if l.phase = .offline then { l with resume := some .condemned }
       else l
     let condemned (c : Cause) : Prop :=
       chargeLocker n s =
         { submit .condemned [.b4 id, .b1 c.code, .b1 n]
             (withOrder fun x => { x with hold := some h', condemned := some c }) with
           ltu := { s.ltu with lockers := vset s.ltu.lockers n noticed } }
     (¬ charged → chargeLocker n s = s) ∧
     (charged → h'.life = 0 → condemned .expired) ∧
     (charged → h'.life ≠ 0 → p.coldLimit ≤ h'.cold → condemned .cold) ∧
     (charged → h'.life ≠ 0 → h'.cold < p.coldLimit → h.warned = false → h'.life ≤ p.warn →
       chargeLocker n s =
         submit .nearExpiry [.b4 id, .b1 n, .b2 h'.life, .b2 p.warn]
           (withOrder fun x => { x with hold := some { h' with warned := true } })) ∧
     (charged → h'.life ≠ 0 → h'.cold < p.coldLimit → h.warned = true ∨ p.warn < h'.life →
       chargeLocker n s = withOrder fun x => { x with hold := some h' })) ∧
  (∀ (o : Order) (s : State),
     (∀ n age late, o.status = .placed n age late → o.hold = none → o.deadline ≠ 0 → o.deadline ≤ age → late = false →
       examineLoadLate o s =
         submit .loadLate [.b4 o.id, .b1 n, .b2 o.deadline]
           { s with oru := { s.oru with
             orders := s.oru.orders.map fun x => if x.id == o.id then { x with status := .placed n age true } else x } }) ∧
     (∀ age, s.order? o.id = some o → o.status = .pending age → s.params.pendingWaitS ≠ 0 →
       s.params.pendingWaitS ≤ age →
       expirePending o.id s = removeOrder o.id (submit .bookExpired [.b4 o.id, .b2 age] s)))

/-- The two laws of the fill: in every slot of a frame the rated powers of a feed's lockers granted that slot stay
within the feed's budget in force, and granted ≤ demand ≤ 20; the budget and shed state in force follow the shed line
and FORCE_SHED; the map is handed to BBM (R69, R72, R81, R87). The line levels are the command's operands: log entry
10. -/
def Obligations.FrameKeepsWithinTheBudget : Prop :=
  ∀ (e : Nat) (l0 l1 l2 l3 : Bool) (s : State), s.hta.frameTimer = some e →
    ∃ t, exec (.frameStart l0 l1 l2 l3) s = .next t ∧ t.hta.frameTimer = some 0 ∧ t.sst = s.sst ∧
      (t.bbm.mapState = .waiting ∨ t.bbm.mapState = .sending) ∧
      (∀ f, f < 4 →
        t.isShed f = ([l0, l1, l2, l3].getD f false || (s.feedEntry f).force) ∧
        t.budget f = (if t.isShed f then (s.feedEntry f).shed else (s.feedEntry f).normal) ∧
        ∀ k, k < 20 →
          (((List.range 48).filter fun n =>
              decide ((t.locker n).feed = f) && (vget t.hta.heatMap n []).contains k).map
            fun n => (t.locker n).power).sum ≤ t.budget f) ∧
      ∀ n, n < 48 →
        (t.locker n).granted = (vget t.hta.heatMap n []).length ∧ (vget t.hta.heatMap n []).Nodup ∧
        (∀ k ∈ vget t.hta.heatMap n [], k < 20) ∧
        (t.locker n).granted ≤ (t.locker n).demand ∧ (t.locker n).demand ≤ 20

/-- A frame start by the steps of R71: the budget and shed state of each feed with SHED_ON and SHED_OFF (R72), the
purges that are complete and those that a shed suspends or resumes (R83 to R85), the overheat inhibit (R74), the
demand (R75 to R77), the tiers and their rotation (R78, R79), the slot fill with the cursor carried from one locker of
a feed to the next (R80), the map of granted slots in increasing order (R87), the purge credit, the starved count and
STARVED (R82, R86). While the frame timer is stopped there is no frame start, and the lines take the levels given: log
entry 10. The rest of the frame passes first: log entry 2. PURGE_DONE before the notice to ORU is log entry 13,
PURGE_DONE of a locker that goes to SERVICE is log entry 23, the numbers of SHED_ON's source are log entry 20. -/
def Obligations.FrameStartBySteps : Prop :=
  (∀ (l0 l1 l2 l3 : Bool) (s : State),
     (s.hta.frameTimer = none →
       exec (.frameStart l0 l1 l2 l3) s = .next { s with ports := [], shedLines := #v[l0, l1, l2, l3] }) ∧
     (∀ e, s.hta.frameTimer = some e →
       exec (.frameStart l0 l1 l2 l3) s =
         .next (chooseTransmit (chooseBus (frameStart
           { s.clearPorts.elapse (2000 - e) with shedLines := #v[l0, l1, l2, l3] }))))) ∧
  (∀ s : State,
     let fed := [0, 1, 2, 3].foldl (fun u f => latchFeed f u) { s with hta := { s.hta with frameTimer := some 0 } }
     let done := (List.range 48).filter fun n =>
       decide ((fed.locker n).phase = .purging) && decide (s.params.purgeSlots ≤ ((fed.locker n).purgeProgress.getD 0))
     let purged := done.foldl (fun u n => purgeDone n u) fed
     let held := (List.range 48).foldl (fun u n => suspendOrResume n u) purged
     let seen := (List.range 48).foldl (fun u n => examineInhibit n u) held
     let demands := (List.range 48).map (demandOf done seen)
     frameStart s = grantFrame demands seen) ∧
  (∀ (f : Nat) (s : State), f < 4 →
     let x := s.feedEntry f
     let line := vget s.shedLines f false
     let now := line || x.force
     let b := if now then x.shed else x.normal
     let u : State :=
       { s with hta := { s.hta with budgets := vset s.hta.budgets f b, shed := vset s.hta.shed f now } }
     latchFeed f s =
       if now = true ∧ s.isShed f = false then
         submit .shedOn [.b1 f, .b2 b, .b1 (if line && x.force then 2 else if x.force then 1 else 0)] u
       else if now = false ∧ s.isShed f = true then submit .shedOff [.b1 f, .b2 b] u
       else u) ∧
  (∀ (n : Nat) (s : State), n < 48 →
     let l := s.locker n
     let set (f : Locker → Locker) : State := { s with ltu := { s.ltu with lockers := vset s.ltu.lockers n (f l) } }
     let purge : List Field := [.b1 n, .b1 l.feed, .b2 (l.purgeProgress.getD 0)]
     (l.phase ≠ .purging → purgeDone n s = s ∧ suspendOrResume n s = s) ∧
     (l.phase = .purging → l.heaterExcluded = true →
       purgeDone n s = submit .purgeDone [.b1 n] (moveTo .service n s)) ∧
     (l.phase = .purging → l.heaterExcluded = false →
       purgeDone n s = becameFree n (submit .purgeDone [.b1 n] (moveTo .free n s))) ∧
     (l.phase = .purging → s.isShed l.feed = true → l.purgeSuspended ≠ some true →
       suspendOrResume n s = submit .purgeSuspended purge (set fun x => { x with purgeSuspended := some true })) ∧
     (l.phase = .purging → s.isShed l.feed = false → l.purgeSuspended = some true →
       suspendOrResume n s = submit .purgeResumed purge (set fun x => { x with purgeSuspended := some false })) ∧
     (l.phase = .purging → (s.isShed l.feed = true ↔ l.purgeSuspended = some true) → suspendOrResume n s = s) ∧
     let limit : Option Int :=
       if l.phase ∈ [.reserved, .holding, .pickup] then
         (l.orderRef.bind s.order?).map fun o => (s.profile o.profile).overheat
       else if l.phase = .purging then some s.params.purgeLimit
       else none
     let sample : Option Int :=
       if l.phase = .offline ∨ s.params.sampleStaleS * 1000 < l.sampleAge then none else l.sample
     (limit = none ∨ sample = none → examineInhibit n s = s) ∧
     (∀ lim T, limit = some lim → sample = some T →
       let fields : List Field := [.b1 n, .signed T, .signed lim, .orderId l.orderRef]
       examineInhibit n s =
         if l.overheatInhibit = false ∧ lim ≤ T then
           submit .overheat fields (set fun x => { x with overheatInhibit := true })
         else if l.overheatInhibit = true ∧ T ≤ lim - 50 then
           submit .overheatClear fields (set fun x => { x with overheatInhibit := false })
         else s) ∧
     let cold (p : Profile) : Nat :=
       match sample with
       | none => min p.base 20
       | some T => (max 0 (min 20 ((p.base : Int) + (p.setpoint - T) * p.gain / 64))).toNat
     (∀ done : List Nat,
       (l.overheatInhibit = true ∨ l.heaterExcluded = true ∨ n ∈ done → demandOf done s n = 0) ∧
       (l.overheatInhibit = false → l.heaterExcluded = false → n ∉ done →
         (∀ o, l.phase ∈ [.reserved, .holding, .pickup] → l.orderRef.bind s.order? = some o →
           demandOf done s n = if o.condemned.isSome then 0 else cold (s.profile o.profile)) ∧
         (l.phase = .purging → demandOf done s n = if l.purgeSuspended = some true then 0 else 20) ∧
         (l.phase ∉ [.reserved, .holding, .pickup, .purging] → demandOf done s n = 0))) ∧
     (∀ o, l.phase = .holding ∨ l.phase = .pickup → l.orderRef.bind s.order? = some o →
       tierOf s n =
         match sample with
         | none => 1
         | some T => if T < (s.profile o.profile).floor then 1 else 2) ∧
     (l.phase = .reserved → tierOf s n = 2) ∧ (l.phase = .purging → tierOf s n = 3)) ∧
  (∀ (demands : List Nat) (s : State),
     let u := grantFrame demands s
     (∀ f tier, f < 4 → 1 ≤ tier → tier ≤ 3 →
       let members := (List.range 48).filter fun n =>
         decide (0 < demands.getD n 0) && decide ((s.locker n).feed = f) && decide (tierOf s n = tier)
       let pointer := vget s.hta.rotation (3 * f + tier - 1) 0
       tierOrder s demands f tier =
         members.filter (fun n => decide (pointer ≤ n)) ++ members.filter (fun n => decide (n < pointer)) ∧
       vget u.hta.rotation (3 * f + tier - 1) 0 =
         match tierOrder s demands f tier with
         | [] => pointer
         | n :: _ => (n + 1) % 48) ∧
     (∀ n, n < 48 →
       let l := s.locker n
       let d := demands.getD n 0
       let slots := vget u.hta.heatMap n []
       let short : Bool := decide (0 < d) && decide (tierOf s n = 1) && decide (slots.length < d)
       slots =
         ((List.range 20).filter fun k => [0, 1, 2, 3].any fun f =>
           (fillFeed s demands f).grants.any fun g => g.1 == n && g.2.contains k) ∧
       u.locker n = { l with
         purgeProgress :=
           if l.phase = .purging then some (min (l.purgeProgress.getD 0 + slots.length) s.params.purgeSlots)
           else l.purgeProgress
         starved := if short then min (l.starved + 1) 5 else 0
         demand := d, granted := slots.length }) ∧
     (∀ f, f < 4 →
       fillFeed s demands f =
         (tierOrder s demands f 1 ++ tierOrder s demands f 2 ++ tierOrder s demands f 3).foldl
           (fillLocker s demands (vget s.hta.budgets f 0)) ⟨List.replicate 20 0, 0, []⟩) ∧
     (∀ b x n,
       let r := fillSlots (s.locker n).power b 20 (demands.getD n 0) x.cursor x.loads []
       fillLocker s demands b x n = ⟨r.2.1, r.1, x.grants ++ [(n, r.2.2)]⟩) ∧
     (∀ p b k d cur loads got,
       fillSlots p b 0 d cur loads got = (cur, loads, got) ∧ fillSlots p b k 0 cur loads got = (cur, loads, got) ∧
       fillSlots p b (k + 1) (d + 1) cur loads got =
         if loads.getD cur 0 + p ≤ b then
           fillSlots p b k d ((cur + 1) % 20) (loads.set cur (loads.getD cur 0 + p)) (got ++ [cur])
         else fillSlots p b k (d + 1) ((cur + 1) % 20) loads got) ∧
     u.bbm = { s.bbm with mapState := .waiting } ∧ u.oru = s.oru ∧ u.txu = s.txu ∧ u.sst = s.sst ∧
     (s.params.reportMask.testBit 1 = true → s.lki.reportQ = [] →
       u.lki.reportQ =
         (((List.range 48).filter fun n =>
             decide ((s.locker n).starved = 4) && decide ((u.locker n).starved = 5)).take 32).map fun n =>
           ⟨.starved, s.uptime, 0, [.b1 n, .b1 (s.locker n).feed, .orderId (s.locker n).orderRef,
             .b1 (demands.getD n 0), .b1 (u.locker n).granted]⟩))

/-! ### The bank bus -/

/-- The arbiter's choice on a free bus: the map first, then a command or a poll or probe, the one that is not the last
winner where both wait (R95, R96, R98, R99, R189; log entry 7). The command is the oldest WAITING one of the table and
the posting queue together, by acceptance sequence modulo 65,536 (R114, R120). A door command is rechecked as it wins:
one that passes is sent, one that fails ends without bus traffic and BBM chooses again (R11, R97; log entry 32). The
frames of posted commands and the map have the bytes of R152 and R153. -/
def Obligations.BusChoice : Prop :=
  ∀ s : State,
    OnlyBusSide s (chooseBus s) ∧
    (let waiting : List Nat :=
       (s.txu.table.filter fun e => decide (e.stage = .waiting)).map Entry.seq ++
         (s.txu.posted.filter fun p => decide (p.stage = .waiting)).map Posted.seq
     (dispatchHead s.txu = none ↔ waiting = []) ∧
     (∀ q ∈ waiting, (∀ r ∈ waiting, r < 65536 ∧ (r + 65536 - q) % 65536 < 32768) → dispatchHead s.txu = some q)) ∧
    (s.bbm.exchange ≠ none ∨ s.bbm.line ≠ .idle → chooseBus s = s) ∧
    (∀ p : Posted,
       postedFrame p =
         match p.content with
         | .lamp x => ⟨p.locker, 0x04, [x % 256]⟩
         | .label text => ⟨p.locker, 0x05, text⟩
         | .moduleWrite i v => ⟨p.locker, 0x06, [i % 256, v / 256 % 256, v % 256]⟩) ∧
    (∀ off map,
       heatMapFrame off map =
         ⟨0xFF, 0x07, [off / 256 % 256, off % 256] ++ (List.range 48).flatMap fun n => [0, 8, 16].map fun base =>
           ((List.range 8).map fun i =>
             if base + i < 20 ∧ base + i ∈ vget map n [] then 2 ^ i else 0).sum⟩) ∧
    (∀ n, s.ltu.discovery = none → s.bbm.cycle = .running → n < 48 → s.bbm.cursor ≤ n →
      (s.locker n).phase ≠ .absent → (∀ j, s.bbm.cursor ≤ j → j < n → (s.locker j).phase = .absent) →
      pollRequest s = some (.poll n)) ∧
    (∀ n k, s.ltu.discovery = some ⟨k, .probing⟩ → s.ltu.probing = none → n < 48 → s.ltu.probeCursor ≤ n →
      (s.locker n).populated = true → (s.locker n).phase ≠ .service →
      (∀ j, s.ltu.probeCursor ≤ j → j < n → (s.locker j).populated = false ∨ (s.locker j).phase = .service) →
      pollRequest s = some (.probe n)) ∧
    (s.ltu.discovery = none → s.bbm.cycle ≠ .running → pollRequest s = none) ∧
    (s.bbm.exchange = none → s.bbm.line = .idle →
      (s.bbm.mapState = .waiting →
        chooseBus s =
          { s with
            ports := s.ports ++ [.bus (heatMapFrame (s.hta.frameTimer.getD 0) s.hta.heatMap)]
            bbm := { s.bbm with
              mapState := .sending, exchange := some (.broadcast (s.hta.frameTimer.getD 0)) } }) ∧
      (s.bbm.mapState ≠ .waiting → dispatchHead s.txu = none → pollRequest s = none → chooseBus s = s) ∧
      (∀ n, s.bbm.mapState ≠ .waiting → pollRequest s = some (.poll n) →
        dispatchHead s.txu = none ∨ s.bbm.lastWinner = .command →
        chooseBus s =
          { s with
            ports := s.ports ++ [.bus ⟨n, 0x01, []⟩]
            bbm := { s.bbm with
              lastWinner := .poll, cursor := n + 1
              exchange := some (.poll n 1 (decide (s.bbm.mapState = .sent))) } }) ∧
      (∀ q p, s.bbm.mapState ≠ .waiting → dispatchHead s.txu = some q → entryBySeq s.txu q = none →
        postedBySeq s.txu q = some p → pollRequest s = none ∨ s.bbm.lastWinner = .poll →
        chooseBus s =
          { s with
            ports := s.ports ++ [.bus (postedFrame p)]
            txu := { s.txu with
              table := s.txu.table.map fun e => if e.seq == q then { e with stage := .onBus } else e
              posted := s.txu.posted.map fun x => if x.seq == q then { x with stage := .onBus } else x }
            bbm := { s.bbm with
              lastWinner := .command, exchange := some (.command p.locker q 1 (postedFrame p)) } }) ∧
      (∀ n, s.bbm.mapState ≠ .waiting → pollRequest s = some (.probe n) →
        dispatchHead s.txu = none ∨ s.bbm.lastWinner = .command →
        chooseBus s =
          { s with
            ports := s.ports ++ [.bus ⟨n, 0x01, []⟩]
            ltu := { s.ltu with probing := some n, probeCursor := n + 1 }
            bbm := { s.bbm with
              lastWinner := .poll, exchange := some (.probe n 1 (decide (s.bbm.mapState = .sent))) } }) ∧
      (∀ q e, s.bbm.mapState ≠ .waiting → dispatchHead s.txu = some q → entryBySeq s.txu q = some e →
        pollRequest s = none ∨ s.bbm.lastWinner = .poll →
        let l := s.locker e.locker
        let window := s.params.unlatchWindowS
        let frame : BusFrame :=
          if e.request = .moduleRead then ⟨e.locker, 0x03, [e.item.getD 0 % 256]⟩
          else ⟨e.locker, 0x02, [((e.door.map Door.code).getD 0) % 256, window % 256]⟩
        let won : State :=
          { s with
            txu := { s.txu with
              table := s.txu.table.map fun x => if x.seq == q then { x with stage := .onBus } else x
              posted := s.txu.posted.map fun x => if x.seq == q then { x with stage := .onBus } else x }
            bbm := { s.bbm with lastWinner := .command } }
        let sends : Prop :=
          chooseBus s =
            { won with
              ports := s.ports ++ [.bus frame]
              bbm := { won.bbm with exchange := some (.command e.locker q 1 frame) } }
        let entered : Phase :=
          match e.request with
          | .loadOpen => .loading
          | .release | .panelRelease => .pickup
          | .clear | .clearLocker => .clearing
          | .serviceUnlatch | .moduleRead => .service
        (e.request = .moduleRead → sends) ∧
        (∀ d, e.request ≠ .moduleRead → e.door = some d →
          (l.phase = entered → ¬ (d = .c ∧ orderCondemned s l = true) → l.door d.other = .latched → sends) ∧
          (∀ o,
            o = (if l.phase = .offline then .offline
              else if l.phase ≠ entered then .wrongPhase
              else if d = .c ∧ orderCondemned s l = true then .tooLate
              else .interlock) →
            l.phase ≠ entered ∨ (d = .c ∧ orderCondemned s l = true) ∨ l.door d.other ≠ .latched →
            chooseBus s = chooseBus (endCommand q o won)))))

/-- A failed attempt is repeated at once with the same request, up to three in all; the third failed poll attempt ends
the poll as a failed one, which is counted and takes the locker OFFLINE when it is the third in a row (R5, R27, R91,
R92, R94). Where a discovery waits for its pulse, the pulse begins at the event at which the exchange ends, in place
of BBM's choice (R188; `ResetRequestsByRule` says what it does). A reply with a wrong check, from another address, or
of a kind that does not answer the request fails the attempt of a poll, a probe or a command as no reply does (R91,
R152); that a payload which is not of its kind does so too is log entry 15. While no reply is awaited, a frame and the
end of a reply window change nothing (R91; log entry 3). -/
def Obligations.FailedAttemptsByCount : Prop :=
  (∀ (n : Nat) (s : State), n < 48 →
     let fails := (s.locker n).pollFails
     let u : State := { s with ltu := { s.ltu with
       lockers := vset s.ltu.lockers n { s.locker n with pollFails := min (fails + 1) 3 } } }
     failedPoll n s = if fails = 2 then goOffline n .polls u else u) ∧
  (∀ (s : State) (bytes : List Byte),
     s.bbm.exchange = none ∨ (∃ off, s.bbm.exchange = some (.broadcast off)) →
     exec (.replyReceived bytes) s = .next { s with ports := [] } ∧
       exec .replyTimeout s = .next { s with ports := [] }) ∧
  (∀ (s : State) (n k : Nat),
     (∃ a m, (s.bbm.exchange = some (.poll n a m) ∨ s.bbm.exchange = some (.probe n a m)) ∧ k = 1) ∨
       (∃ q a g, s.bbm.exchange = some (.command n q a g) ∧ k = g.kind) →
     let failed (bytes : List Byte) : Prop := exec (.replyReceived bytes) s = exec .replyTimeout s
     (∀ bytes, (∀ f : BusFrame, f.payload.length ≤ 200 → bytes ≠ f.bytes) → failed bytes) ∧
     (∀ addr kind payload hi lo, crc16 ([addr, kind, payload.length] ++ payload) ≠ hi * 256 + lo →
       failed ([0x96, addr, kind, payload.length] ++ payload ++ [hi, lo])) ∧
     ∀ f : BusFrame, f.payload.length ≤ 200 →
       let body := [f.addr, f.kind, f.payload.length] ++ f.payload
       f.bytes = [0x96] ++ body ++ [crc16 body / 256 % 256, crc16 body % 256] ∧
       (f.addr ≠ n → failed f.bytes) ∧
       (¬ (f.kind = 0x8F ∨ (f.kind = 0x81 ∧ k = 1) ∨ (f.kind = 0x83 ∧ k = 3) ∨ (f.kind = 0x80 ∧ k ≠ 1 ∧ k ≠ 3)) →
         failed f.bytes) ∧
       (f.kind = 0x8F → (∀ r, r ≤ 2 → f.payload ≠ [r]) → failed f.bytes) ∧
       (f.kind = 0x83 → f.payload.length ≠ 2 → failed f.bytes) ∧
       (f.kind = 0x81 → f.payload.length ≠ 9 → failed f.bytes) ∧
       ∀ t1 t0 x y kn cn o z h, f.kind = 0x81 → f.payload = [t1, t0, x, y, kn, cn, o, z, h] →
         2 < x ∨ 2 < y ∨ 1 < o ∨ 3 < z ∨ 1 < h → failed f.bytes) ∧
  ∀ s : State,
    let after (v : State) : State :=
      match s.ltu.discovery with
      | some ⟨_, .reset⟩ => if s.bbm.line = .idle then startPulse v else chooseBus v
      | _ => chooseBus v
    (∀ n a m, s.bbm.exchange = some (.poll n a m) → a < 3 →
      exec .replyTimeout s =
        .next (chooseTransmit { s with
          ports := [.bus ⟨n, 0x01, []⟩], bbm := { s.bbm with exchange := some (.poll n (a + 1) m) } })) ∧
    (∀ n q a f, s.bbm.exchange = some (.command n q a f) → a < 3 →
      exec .replyTimeout s =
        .next (chooseTransmit { s with
          ports := [.bus f], bbm := { s.bbm with exchange := some (.command n q (a + 1) f) } })) ∧
    (∀ n m, s.bbm.exchange = some (.poll n 3 m) →
      exec .replyTimeout s =
        .next (chooseTransmit (after (endOfPoll (failedPoll n
          { s with
            ports := []
            bbm := { s.bbm with exchange := none, failedPolls := min (s.bbm.failedPolls + 1) 65535 } }))))) ∧
    (∀ n m, s.bbm.exchange = some (.poll n 3 m) → n < 48 → s.ltu.discovery = none →
      ∃ t, exec .replyTimeout s = .next t ∧
        t.bbm.failedPolls = min (s.bbm.failedPolls + 1) 65535 ∧
        (t.locker n).pollFails = min ((s.locker n).pollFails + 1) 3 ∧
        (t.locker n).sample = (s.locker n).sample ∧ (t.locker n).occupancy = (s.locker n).occupancy ∧
        (t.locker n).kSeen = (s.locker n).kSeen ∧ t.oru.orders = s.oru.orders ∧ t.sst = s.sst ∧
        ((s.locker n).pollFails = 2 → (s.locker n).phase ∉ [.offline, .absent] →
          (t.locker n).phase = .offline ∧ (t.locker n).resume = resumeOf s (s.locker n)))

/-- A whole observation of the polled module ends the poll as a good one, a REFUSED reply as a failed one (R91, R92).
The reply is stored in the record (R3, R4, R106, R152), then the steps of R8 follow in order: the door fault check
(R20) and the heater fault check (R21), the phase of an OFFLINE locker (R28), the completion of a transient phase, the
occupancy check (R22), the door-held bookkeeping (R19). `PhasesBySteps` says what each completion does. At its end the
poll cycle rests when no locker is left (R99), and then BBM chooses or the pulse that a discovery waits for begins
(R188). ONLINE before the notice to ORU is log entry 13. The finding named where a reply has two, and that the heater
check follows a door fault, are log entry 14. -/
def Obligations.GoodPollTakesTheSteps : Prop :=
  (∀ (n a : Nat) (m : Bool) (o : Observation) (s : State),
     n < 48 → s.bbm.exchange = some (.poll n a m) →
     (∀ T, o.sample = some T → -32767 ≤ T ∧ T ≤ 32767) → o.kCount < 256 → o.cCount < 256 →
     let u : State := { s with ports := [], bbm := { s.bbm with exchange := none } }
     let after (v : State) : State :=
       match s.ltu.discovery with
       | some ⟨_, .reset⟩ => if s.bbm.line = .idle then startPulse v else chooseBus v
       | _ => chooseBus v
     ∃ t, exec (.replyReceived (Reply.frame n (.observation o)).bytes) s = .next t ∧
       t = chooseTransmit (after (endOfPoll (goodPoll n o (m && decide (s.bbm.mapState = .sent)) u))) ∧
       (s.ltu.discovery = none →
       (t.locker n).kDoor = o.kDoor ∧ (t.locker n).cDoor = o.cDoor ∧ (t.locker n).occupancy = o.occupancy ∧
       (t.locker n).fault = o.fault ∧ (t.locker n).kSeen = o.kCount ∧ (t.locker n).cSeen = o.cCount ∧
       (t.locker n).sampleAge = 0 ∧ (t.locker n).pollFails = 0 ∧
       (t.locker n).sample = (o.sample.bind fun T => if -400 ≤ T ∧ T ≤ 1500 then some T else none) ∧
       (t.locker n).power = (s.locker n).power ∧ (t.locker n).granted = (s.locker n).granted ∧
       t.bbm.failedPolls = s.bbm.failedPolls ∧ t.sst = s.sst ∧ t.hta = s.hta ∧ t.hau = s.hau)) ∧
  (∀ (n a : Nat) (m : Bool) (r : Reason) (s : State),
     n < 48 → s.bbm.exchange = some (.poll n a m) →
     let after (v : State) : State :=
       match s.ltu.discovery with
       | some ⟨_, .reset⟩ => if s.bbm.line = .idle then startPulse v else chooseBus v
       | _ => chooseBus v
     exec (.replyReceived (Reply.frame n (.refused r)).bytes) s =
       .next (chooseTransmit (after (endOfPoll (failedPoll n
         { s with
           ports := []
           bbm := { s.bbm with exchange := none, failedPolls := min (s.bbm.failedPolls + 1) 65535 } }))))) ∧
  (∀ (o : Observation) (l : Locker),
     let opened : Bool :=
       match l.phase with
       | .loading | .clearing => decide (o.kDoor = .opened) || decide ((o.kCount + 256 - l.kSeen) % 256 ≠ 0)
       | .pickup => decide (o.cDoor = .opened) || decide ((o.cCount + 256 - l.cSeen) % 256 ≠ 0)
       | _ => false
     l.observe o = { l with
       kDoor := o.kDoor, cDoor := o.cDoor, kSeen := o.kCount, cSeen := o.cCount, occupancy := o.occupancy
       fault := o.fault, sample := o.sample.bind fun T => if -400 ≤ T ∧ T ≤ 1500 then some T else none
       sampleAge := 0, pollFails := 0
       openedNoted := if opened = true ∧ l.unlatchPending = none then some true else l.openedNoted }) ∧
  (∀ (n : Nat) (o : Observation) (mark : Bool) (s : State), n < 48 →
     let before := s.locker n
     let v0 : State := { s with ltu := { s.ltu with lockers := vset s.ltu.lockers n (before.observe o) } }
     let v1 := match doorFinding (before.observe o) with | some f => doorFault n f v0 | none => v0
     let v2 := heaterCheck n o.heaterOn mark v1
     let v3 := if (v2.locker n).phase = before.phase then resolveOffline n v2 else v2
     let v4 := if (v3.locker n).phase = before.phase then completeTransient n v3 else v3
     let v5 := if (v4.locker n).phase = before.phase then occupancyCheck n v4 else v4
     goodPoll n o mark s = doorHeldBookkeeping n before v5) ∧
  (∀ (n : Nat) (s : State), n < 48 →
     let l := s.locker n
     let finding : Option Nat :=
       if l.kDoor ≠ .latched ∧ l.cDoor ≠ .latched then some 0
       else if l.fault = .latchFault then some 1
       else if l.fault = .occupancyFault then some 2
       else none
     let faulty : State → State := submit .moduleFault [.b1 n, .b1 2]
     let marked : State :=
       { s with ltu := { s.ltu with lockers := vset s.ltu.lockers n { l with heaterExcluded := true } } }
     let dest (p : Phase) : Phase := if l.heaterExcluded = true ∧ (p = .free ∨ p = .purging) then .service else p
     let agrees (p : Phase) : Prop :=
       (p ∈ [.free, .reserved, .purging] → l.occupancy = .empty) ∧
         (p ∈ [.holding, .condemned] → l.occupancy = .occupied)
     (doorFinding l).map Finding.code = finding ∧
     (∀ f, l.phase = .absent ∨ l.phase = .service → doorFault n f s = s) ∧
     (∀ f, l.phase ≠ .absent → l.phase ≠ .service →
       let r := submit .doorFault [.b1 n, .b1 f.code, .orderId l.orderRef] (moveTo .service n s)
       (l.orderRef = none → doorFault n f s = r) ∧ ∀ id, l.orderRef = some id → doorFault n f s = condemn id .fault r) ∧
     (∀ on mark : Bool,
       let found : Prop := l.fault = .heaterFault ∨ (on = true ∧ mark = true ∧ l.granted = 0)
       (¬ found ∨ l.heaterExcluded = true → heaterCheck n on mark s = s) ∧
       (found → l.heaterExcluded = false →
         heaterCheck n on mark s =
           if l.phase = .free ∨ l.phase = .purging then moveTo .service n (faulty marked) else faulty marked)) ∧
     (l.phase ≠ .offline → resolveOffline n s = s) ∧
     (l.phase = .offline → l.resume = none → l.occupancy = .empty →
       resolveOffline n s = submit .online [.b1 n, .b1 (dest .purging).code] (moveTo (dest .purging) n s)) ∧
     (∀ p, l.phase = .offline → l.resume = some p → agrees p →
       let r := submit .online [.b1 n, .b1 (dest p).code] (moveTo (dest p) n s)
       resolveOffline n s = if dest p = .free then becameFree n r else r) ∧
     ((l.phase = .offline ∧ l.resume = none ∧ l.occupancy = .occupied) ∨
         (∃ p, l.phase = .offline ∧ l.resume = some p ∧ ¬ agrees p) → resolveOffline n s = quarantine n s) ∧
     (l.kDoor = .latched ∧ l.cDoor = .latched → ¬ agrees l.phase → occupancyCheck n s = quarantine n s) ∧
     (¬ (l.kDoor = .latched ∧ l.cDoor = .latched) ∨ agrees l.phase → occupancyCheck n s = s) ∧
     (l.orderRef = none →
       quarantine n s = submit .quarantined [.b1 n, .b4 0] (moveTo .quarantine n s)) ∧
     (∀ id, l.orderRef = some id →
       quarantine n s =
         submit .quarantined [.b1 n, .b4 id] (removeOrder id (condemn id .lost (moveTo .quarantine n s))))) ∧
  (∀ s : State,
     let left : Prop := ∃ n, n < 48 ∧ s.bbm.cursor ≤ n ∧ (s.locker n).phase ≠ .absent
     (s.bbm.cycle ≠ .running ∨ left → endOfPoll s = s) ∧
     (s.bbm.cycle = .running → ¬ left →
       endOfPoll s = { s with bbm := { s.bbm with
         cycle := if s.params.pollGapMs = 0 then .running else .gap
         cursor := if s.params.pollGapMs = 0 then 0 else s.bbm.cursor
         pollGap := if s.params.pollGapMs = 0 then none else some (0, s.params.pollGapMs) } }))

/-- What the shared steps of a good poll do. The fields that a phase brings and takes (R7), and the free list of a
locker that leaves FREE (R35). The ends of LOADING (R14), PICKUP (R16) and CLEARING (R18), each once its unlatch is no
longer pending and the watched door is LATCHED. The condemnation with its notice (R23, R48), the removal (R49).
DOOR_HELD and the restart of the transient timer (R19). -/
def Obligations.PhasesBySteps : Prop :=
  (∀ (p : Phase) (n : Nat) (s : State), n < 48 →
     let l := s.locker n
     let transient : Prop := l.phase = .loading ∨ l.phase = .pickup ∨ l.phase = .clearing
     let u := moveTo p n s
     ∃ left : Locker,
       (transient → left.openedNoted = none ∧ left.transientTimer = none ∧ left.doorHeld = none) ∧
       (¬ transient → left.openedNoted = l.openedNoted ∧ left.transientTimer = l.transientTimer ∧
         left.doorHeld = l.doorHeld) ∧
       left.clearOrigin = (if l.phase = .clearing then none else l.clearOrigin) ∧
       left.purgeProgress = (if l.phase = .purging then none else l.purgeProgress) ∧
       left.purgeSuspended = (if l.phase = .purging then none else l.purgeSuspended) ∧
       left.resume = (if l.phase = .offline then none else l.resume) ∧
       left = { l with
         openedNoted := left.openedNoted, transientTimer := left.transientTimer, doorHeld := left.doorHeld
         clearOrigin := left.clearOrigin, purgeProgress := left.purgeProgress
         purgeSuspended := left.purgeSuspended, resume := left.resume } ∧
       u.locker n =
         (match p with
         | .loading | .clearing =>
           { left with
             phase := p, openedNoted := some false, transientTimer := some 0, doorHeld := some false
             unlatchPending := some .k }
         | .pickup =>
           { left with
             phase := p, openedNoted := some false, transientTimer := some 0, doorHeld := some false
             unlatchPending := some .c }
         | .purging =>
           { left with phase := p, orderRef := none, purgeProgress := some 0, purgeSuspended := some false }
         | .offline => { left with phase := p, resume := none }
         | p => { left with phase := p }) ∧
       OtherLockersSame n s u ∧
       u = { s with
         ltu := { s.ltu with lockers := u.ltu.lockers }
         oru := { s.oru with
           freeSmall := u.oru.freeSmall, freeMedium := u.oru.freeMedium, freeLarge := u.oru.freeLarge } } ∧
       ∀ c, u.freeList c =
         if l.phase = .free ∧ c = l.cls then (s.freeList c).filter (fun m => m != n) else s.freeList c) ∧
  (∀ (n : Nat) (s : State), n < 48 →
     let l := s.locker n
     let settled (d : Door) : Prop := l.unlatchPending = none ∧ l.door d = .latched
     let dest : Phase := if l.heaterExcluded then .service else .purging
     (l.phase ∉ [.loading, .pickup, .clearing] ∨ l.unlatchPending ≠ none ∨
         (l.phase = .pickup ∧ l.cDoor ≠ .latched) ∨ (l.phase ≠ .pickup ∧ l.kDoor ≠ .latched) →
       completeTransient n s = s) ∧
     (∀ id, l.phase = .loading → settled .k → l.orderRef = some id →
       completeTransient n s =
         if l.openedNoted = some true ∧ l.occupancy = .occupied then
           let v := moveTo .holding n s
           submit .loaded [.b1 n, .b4 id]
             { v with oru := { v.oru with orders := s.oru.orders.map fun o =>
               if o.id == id then { o with hold := some ⟨o.budget, 0, false⟩ } else o } }
         else
           submit .loadEmpty [.b1 n, .b4 id, .b1 (if l.openedNoted = some true then 0 else 1)]
             (moveTo .reserved n s)) ∧
     (∀ id o, l.phase = .pickup → settled .c → l.orderRef = some id → s.order? id = some o →
       let back : Phase := if o.condemned.isSome then .condemned else .holding
       (l.openedNoted = some true → l.occupancy = .empty →
         completeTransient n s =
           moveTo dest n (removeOrder id
             (submit .collected [.b1 n, .b4 id, .b1 (if o.condemned.isSome then 1 else 0)] s))) ∧
       (l.openedNoted = some true → l.occupancy = .occupied →
         let tries := min (o.attempts + 1) 255
         completeTransient n s =
           moveTo back n (submit .pickupReturned [.b1 n, .b4 id, .b1 tries]
             { s with oru := { s.oru with orders := s.oru.orders.map fun x =>
               if x.id == id then { x with attempts := min (x.attempts + 1) 255 } else x } })) ∧
       (l.openedNoted ≠ some true →
         completeTransient n s = moveTo back n (submit .pickupTimeout [.b1 n, .b4 id] s))) ∧
     (∀ origin, l.phase = .clearing → settled .k → l.clearOrigin = some origin →
       (l.openedNoted = some true → l.occupancy = .empty → l.orderRef = none →
         completeTransient n s = moveTo dest n (submit .cleared [.b1 n, .b4 0] s)) ∧
       (∀ id, l.openedNoted = some true → l.occupancy = .empty → l.orderRef = some id →
         completeTransient n s = moveTo dest n (removeOrder id (submit .cleared [.b1 n, .b4 id] s))) ∧
       (l.openedNoted ≠ some true ∨ l.occupancy = .occupied →
         completeTransient n s =
           moveTo origin n (submit .clearReturned
             [.b1 n, .orderId l.orderRef, .b1 (if l.openedNoted = some true then 0 else 1)] s))) ∧
     (∀ before : Locker,
       let watched : Option Door :=
         match l.phase with | .loading | .clearing => some .k | .pickup => some .c | _ => none
       (watched = none → doorHeldBookkeeping n before s = s ∧ examineDoorHeld n s = s) ∧
       (∀ d, watched = some d →
         doorHeldBookkeeping n before s =
           examineDoorHeld n
             (if l.door d = .opened ∧ before.door d ≠ .opened then
               { s with ltu := { s.ltu with lockers := vset s.ltu.lockers n { l with transientTimer := some 0 } } }
              else s)) ∧
       (∀ d T, watched = some d → l.transientTimer = some T →
         examineDoorHeld n s =
           if l.door d = .opened ∧ s.params.doorOpenLimitS * 1000 < T ∧ l.doorHeld ≠ some true then
             submit .doorHeld [.b1 n, .b1 d.code, .orderId l.orderRef]
               { s with ltu := { s.ltu with lockers := vset s.ltu.lockers n { l with doorHeld := some true } } }
           else s))) ∧
  (∀ (id : Nat) (c : Cause) (s : State),
     (s.order? id = none → condemn id c s = s) ∧
     (∀ o, s.order? id = some o →
       (o.condemned ≠ none → condemn id c s = s) ∧
       (o.condemned = none →
         let r := submit .condemned [.b4 id, .b1 c.code, .opt1 o.locker]
           { s with oru := { s.oru with orders := s.oru.orders.map fun x =>
             if x.id == id then { x with condemned := some c } else x } }
         (o.locker = none → condemn id c s = r) ∧
         ∀ n, o.locker = some n → n < 48 →
           let l := s.locker n
           let noticed : Locker :=
             if l.phase = .holding then { l with phase := .condemned }
             else if l.phase = .offline ∧ l.resume = some .holding then { l with resume := some .condemned }
             else l
           condemn id c s = { r with ltu := { s.ltu with lockers := vset s.ltu.lockers n noticed } }) ∧
       removeOrder id s =
         { s with
           oru := { s.oru with
             orders := s.oru.orders.filter fun x => x.id != id
             codeMap := s.oru.codeMap.filter fun e => e.2 != id
             queue := s.oru.queue.filter fun i => i != id }
           ltu := match o.locker with
             | some n => { s.ltu with lockers := vset s.ltu.lockers n { s.locker n with orderRef := none } }
             | none => s.ltu }))

/-- The end of a command's exchange (R92): a reply gives its outcome, the third failed attempt NO_REPLY, which is
counted (R94). For a door command LTU clears unlatch pending and, for any outcome but OK, reverts the reservation
(R12); LATCH_FAULT is a door fault (R12, R20) and NO_REPLY under ISOLATE takes the locker OFFLINE (R27, R102). TXU
then removes the entry and answers its request, whose tag joins the recent completions (R122, R124), or hands the
outcome to the panel (R159). A posted command is never answered: REFUSED, and NO_REPLY under ISOLATE, are reported
with POSTED_LOST (R123, R131). The body of MODULE_READ's answer and the empty one of ABORTED are log entry 19, the
numbers of PANEL_REFUSED and of POSTED_LOST are log entry 20, that an ABSENT locker stays ABSENT at a NO_REPLY under
ISOLATE is log entry 17, LATCH_FAULT for a locker a RESCAN has set aside is log entry 30. Where a discovery waits for
its pulse, the pulse begins at the event at which the exchange ends, in place of BBM's choice (R188;
`ResetRequestsByRule` says what it does). -/
def Obligations.CommandExchangeEnds : Prop :=
  (∀ (n q a : Nat) (f : BusFrame) (s : State),
     s.bbm.exchange = some (.command n q a f) → n < 48 →
     let u : State := { s with ports := [], bbm := { s.bbm with exchange := none } }
     let after (v : State) : State :=
       match s.ltu.discovery with
       | some ⟨_, .reset⟩ => if s.bbm.line = .idle then startPulse v else chooseBus v
       | _ => chooseBus v
     let ends (o : CmdOutcome) (v : State) : State := chooseTransmit (after (endCommand q o v))
     (f.kind ≠ 1 → f.kind ≠ 3 →
       exec (.replyReceived (Reply.frame n .ok).bytes) s = .next (ends (.ok none) u)) ∧
     (∀ v, f.kind = 3 → v < 65536 →
       exec (.replyReceived (Reply.frame n (.item v)).bytes) s = .next (ends (.ok (some v)) u)) ∧
     (∀ r, exec (.replyReceived (Reply.frame n (.refused r)).bytes) s = .next (ends (.refused r) u)) ∧
     (3 ≤ a → exec .replyTimeout s =
       .next (ends .noReply { u with bbm := { u.bbm with
         failedExchanges := min (s.bbm.failedExchanges + 1) 65535 } }))) ∧
  (∀ (q : Nat) (e : Entry) (o : CmdOutcome) (s : State), entryBySeq s.txu q = some e →
     let n := e.locker
     let l := s.locker n
     let v : State :=
       { s with ltu := { s.ltu with lockers := vset s.ltu.lockers n { l with unlatchPending := none } } }
     let r : State := { s with ltu := { s.ltu with lockers := vset s.ltu.lockers n (l.reverted s e.request) } }
     let ended (w : State) : Prop := endCommand q o s = completeEntry e o w
     (e.request = .moduleRead →
       ended (if o = .noReply ∧ s.params.isolate = true then goOffline n .command s else s)) ∧
     (e.request ≠ .moduleRead → n < 48 →
       ((∃ x, o = .ok x) → ended v) ∧
       (o = .refused .latchFault → ended (doorFault n .latchFault r)) ∧
       (o = .noReply → ended (if s.params.isolate then goOffline n .command r else r)) ∧
       ((∀ x, o ≠ .ok x) → o ≠ .refused .latchFault → o ≠ .noReply → ended r))) ∧
  (∀ (n : Nat) (c : OfflineCause) (s : State), n < 48 →
     let l := s.locker n
     let resume : Option Phase :=
       match l.phase with
       | .loading => some .reserved
       | .pickup => some (if orderCondemned s l then .condemned else .holding)
       | .clearing => l.clearOrigin
       | p => some p
     (l.phase = .offline ∨ l.phase = .absent → goOffline n c s = s) ∧
     (l.phase ≠ .offline → l.phase ≠ .absent →
       ∃ u, goOffline n c s = submit .offline [.b1 n, .b1 c.code, .opt1 (resume.map Phase.code)] u ∧
         u.locker n = { (moveTo .offline n s).locker n with resume := resume } ∧
         u = { moveTo .offline n s with ltu := { s.ltu with lockers := u.ltu.lockers } } ∧
         OtherLockersSame n s u)) ∧
  (∀ (e : Entry) (o : CmdOutcome) (s : State),
     let gone : State :=
       { s with txu := { s.txu with table := s.txu.table.filter fun x => x.seq != e.seq } }
     let bodyOf : Status × List Field :=
       match o with
       | .ok v =>
         (.ok, if e.request = .moduleRead then [.b1 (e.item.getD 0), .b2 (v.getD 0)]
           else [.b1 e.locker, match e.door with | some d => .b1 d.code | none => .b1 255])
       | .refused r => (.moduleRefused, [.b1 e.locker, .b1 r.code])
       | .noReply => (.noReply, [.b1 e.locker])
       | .bankReset => (.bankReset, [.b1 e.locker])
       | .offline => (.offline, [.b1 e.locker])
       | .wrongPhase => (.wrongPhase, [.b1 e.locker])
       | .tooLate => (.tooLate, [.b1 e.locker])
       | .interlock => (.interlock, [.b1 e.locker])
       | .aborted | .discarded => (.aborted, [])
     let shown : Option (PanelMessage × Nat × Nat) :=
       match o with
       | .tooLate => some (.expired, 0, 7)
       | .offline => some (.outOfService, 3, 8)
       | .wrongPhase => some (.outOfService, 3, 9)
       | .interlock => some (.outOfService, 3, 10)
       | .noReply => some (.outOfService, 3, 11)
       | .refused _ => some (.outOfService, 3, 12)
       | .bankReset => some (.busy, 2, 13)
       | .discarded => some (.busy, 2, 14)
       | .ok _ | .aborted => none
     (∀ tag, e.origin = .server → e.tag = some tag →
       let kept := s.txu.recent.filter (fun x => x != tag) ++ [tag]
       completeEntry e o s =
         { gone with
           lki := { s.lki with answerQ := s.lki.answerQ ++ [⟨e.request.kind, tag, bodyOf.1, bodyOf.2⟩] }
           txu := { gone.txu with recent := kept.drop (kept.length - 8) } }) ∧
     (e.origin = .server → e.tag = none → completeEntry e o s = gone) ∧
     (e.origin = .panel →
       let freed (m : PanelMessage) : State :=
         { gone with
           ports := s.ports ++ [.display m]
           pni := { s.pni with releases := s.pni.releases.filter fun r => r.1 != e.locker } }
       ((∃ x, o = .ok x) →
         completeEntry e o s =
           submit .panelPickup [.orderId (s.releaseFor e), .b1 e.locker] (freed (.opened e.locker))) ∧
       (∀ m mc cause, shown = some (m, mc, cause) →
         completeEntry e o s =
           submit .panelRefused [.b1 mc, .b1 cause, .orderId (s.releaseFor e), .b1 e.locker] (freed m)))) ∧
  (∀ (q : Nat) (p : Posted) (s : State), entryBySeq s.txu q = none → postedBySeq s.txu q = some p →
     let gone (lost : Nat) : State :=
       { s with txu := { s.txu with posted := s.txu.posted.filter (fun x => x.seq != p.seq), postedLost := lost } }
     let lost := min (s.txu.postedLost + 1) 65535
     let kind : Nat := match p.content with | .lamp _ => 0 | .label _ => 1 | .moduleWrite .. => 2
     (∀ x, endCommand q (.ok x) s = gone s.txu.postedLost) ∧
     (∀ r : Reason, endCommand q (.refused r) s =
       submit .postedLost [.b1 p.locker, .b1 kind, .b1 p.tag, .b1 1, .b1 r.code, .b2 lost] (gone lost)) ∧
     endCommand q .noReply s =
       (if s.params.isolate then
         submit .postedLost [.b1 p.locker, .b1 kind, .b1 p.tag, .b1 0, .b1 255, .b2 lost] (gone lost)
        else gone lost) ∧
     endCommand q .bankReset s = gone lost)

/-- A probe's end: the row of R190's table its reply meets, or OFFLINE after the third failed attempt or a REFUSED
reply (R92, R94, R190). The discovery goes on while a locker is left to probe (R189), and else ends: STARTED with the
bank as it stands, the flag cleared, the poll cycle RUNNING from 0; after POWER_ON the frame, hold tick and silence
timers start and the long-operation place is freed, after a RESCAN its DONE follows (R128, R191, R195). A power-on
discovery that finds every locker ABSENT rests its first cycle at once (R99). The door finding named where a reply has
two is log entry 14, its number log entry 20. -/
def Obligations.ProbesSettleTheBank : Prop :=
  (∀ (n a : Nat) (m : Bool) (k : DiscoveryKind) (s : State),
     s.ltu.discovery = some ⟨k, .probing⟩ → s.bbm.exchange = some (.probe n a m) → n < 48 →
     let u : State := { s with ports := [], bbm := { s.bbm with exchange := none } }
     let failed : State := { u with bbm := { u.bbm with failedPolls := min (s.bbm.failedPolls + 1) 65535 } }
     let ends (v : State) : State := chooseTransmit (chooseBus (endOfProbe v))
     (∀ o : Observation, (∀ T, o.sample = some T → -32767 ≤ T ∧ T ≤ 32767) → o.kCount < 256 → o.cCount < 256 →
       exec (.replyReceived (Reply.frame n (.observation o)).bytes) s =
         .next (ends (probeAnswered n o (m && decide (s.bbm.mapState = .sent)) u))) ∧
     (∀ r, exec (.replyReceived (Reply.frame n (.refused r)).bytes) s = .next (ends (probeFailed n failed))) ∧
     (3 ≤ a → exec .replyTimeout s = .next (ends (probeFailed n failed))) ∧
     (a < 3 → exec .replyTimeout s =
       .next (chooseTransmit { s with
         ports := [.bus ⟨n, 0x01, []⟩], bbm := { s.bbm with exchange := some (.probe n (a + 1) m) } }))) ∧
  (∀ (n : Nat) (o : Observation) (mark : Bool) (s : State), n < 48 →
     let l := (s.locker n).observe o
     let stored : State :=
       { s with ltu := { s.ltu with
         lockers := vset s.ltu.lockers n l, answered := min (s.ltu.answered + 1) 48 } }
     let excluded : State :=
       { stored with ltu := { stored.ltu with lockers := vset s.ltu.lockers n { l with heaterExcluded := true } } }
     let faulty : State := if l.heaterExcluded then stored else submit .moduleFault [.b1 n, .b1 2] excluded
     let doorFault : Prop :=
       (o.kDoor ≠ .latched ∧ o.cDoor ≠ .latched) ∨ o.fault = .latchFault ∨ o.fault = .occupancyFault
     let heater : Prop :=
       o.fault = .heaterFault ∨ (o.heaterOn = true ∧ mark = true ∧ (s.locker n).granted = 0)
     let found (v : State) : State := submit .quarantined [.b1 n, .b4 0] (moveTo .quarantine n v)
     let t := probeAnswered n o mark s
     (doorFault →
       t = submit .doorFault
         [.b1 n, .b1 (if o.kDoor ≠ .latched ∧ o.cDoor ≠ .latched then 0 else if o.fault = .latchFault then 1 else 2),
           .orderId (s.locker n).orderRef] (moveTo .service n stored)) ∧
     (¬ doorFault → heater → t = if o.occupancy = .empty then moveTo .service n faulty else found faulty) ∧
     (¬ doorFault → ¬ heater → o.occupancy = .empty →
       t = moveTo (if (s.locker n).heaterExcluded then .service else .purging) n stored) ∧
     (¬ doorFault → ¬ heater → o.occupancy = .occupied → t = found stored)) ∧
  (∀ (n : Nat) (s : State), n < 48 →
     let v := moveTo .offline n s
     probeFailed n s =
       { v with ltu := { s.ltu with
         lockers := vset s.ltu.lockers n { v.locker n with pollFails := 3, resume := none } } }) ∧
  (∀ (k : DiscoveryKind) (s : State), s.ltu.discovery = some ⟨k, .probing⟩ →
     let v : State := { s with ltu := { s.ltu with probing := none } }
     let left : Prop :=
       ∃ n, n < 48 ∧ s.ltu.probeCursor ≤ n ∧ (s.locker n).populated = true ∧ (s.locker n).phase ≠ .service
     (left → endOfProbe s = v) ∧ (¬ left → endOfProbe s = endDiscovery k v)) ∧
  (∀ (s : State),
     let count (p : Phase) : Nat := ((List.range 48).filter fun n => decide ((s.locker n).phase = p)).length
     let started (k : Nat) : State :=
       submit .started [.b1 k, .b1 s.ltu.answered, .b1 (count .absent), .b1 (count .offline), .b1 (count .quarantine),
         .b1 (count .service)] s
     let cycle : Bbm :=
       { s.bbm with
         cycle := if count .absent = 48 ∧ s.params.pollGapMs ≠ 0 then .gap else .running, cursor := 0
         pollGap := if count .absent = 48 ∧ s.params.pollGapMs ≠ 0 then some (0, s.params.pollGapMs) else none }
     (s.txu.longOp = some ⟨.powerOnDiscovery, none⟩ →
       let v := frameStart { started 0 with ltu := { s.ltu with discovery := none }, bbm := cycle }
       endDiscovery .powerOn s =
         { v with
           hau := ⟨some 0⟩
           lki := { v.lki with silenceTimer := some 0 }
           txu := { s.txu with longOp := none } } ∧
       v.hta.frameTimer = some 0) ∧
     (∀ tag, s.txu.longOp = some ⟨.rescan, some tag⟩ →
       endDiscovery .rescan s =
         { submitTagged tag .done [.b1 tag, .b1 1, .b1 0]
             { started 1 with ltu := { s.ltu with discovery := none }, bbm := cycle } with
           txu := { s.txu with longOp := none } }))

/-- The end of a broadcast: the map is SENT unless a frame start has handed a newer one, and BBM chooses (R98), during
a RESCAN too. A pulse that the RESCAN waits for begins instead (R188). The poll gap's expiry begins a cycle at 0; a
cycle that finds every locker ABSENT rests again for POLL_GAP_MS (R99). That the rest of the gap passes first is log
entry 2. -/
def Obligations.BroadcastAndPollGapEnd : Prop :=
  (∀ (s : State) (off : Nat), s.bbm.exchange = some (.broadcast off) →
     let after (v : State) : State :=
       match s.ltu.discovery with
       | some ⟨_, .reset⟩ => if s.bbm.line = .idle then startPulse v else chooseBus v
       | _ => chooseBus v
     (s.bbm.mapState = .sending →
       exec .broadcastEnd s =
         .next (chooseTransmit (after
           { s with ports := [], bbm := { s.bbm with exchange := none, mapState := .sent } }))) ∧
     (s.bbm.mapState ≠ .sending →
       exec .broadcastEnd s =
         .next (chooseTransmit (after { s with ports := [], bbm := { s.bbm with exchange := none } })))) ∧
  (∀ (s : State) (e len : Nat), s.bbm.pollGap = some (e, len) →
     let u := s.clearPorts.elapse (len - e)
     ((∃ n, n < 48 ∧ (s.locker n).phase ≠ .absent) →
       exec .pollGapTimerExpiry s =
         .next (chooseTransmit (chooseBus
           { u with bbm := { u.bbm with cycle := .running, cursor := 0, pollGap := none } }))) ∧
     ((∀ n, n < 48 → (s.locker n).phase = .absent) → s.params.pollGapMs ≠ 0 →
       exec .pollGapTimerExpiry s =
         .next (chooseTransmit (chooseBus
           { u with bbm := { u.bbm with
             cycle := .gap, cursor := 0, pollGap := some (0, s.params.pollGapMs) } }))))

/-- DOOR_HELD: when the transient timer passes DOOR_OPEN_LIMIT_S with the watched door OPEN in the record, it is
reported with the locker, the door and the order id, once per transient phase, and no phase changes (R19). That the
time to the limit passes first is log entry 2. -/
def Obligations.DoorHeldIsReportedOnce : Prop :=
  ∀ (n x : Nat) (d : Door) (s : State),
    n < 48 → (s.locker n).phase.watched = some d → (s.locker n).transientTimer = some x →
    (s.locker n).door d = .opened → s.params.doorOpenLimitS ≤ 600 →
    ((s.locker n).doorHeld = some true → exec (.doorHeld n) s = .next s.clearPorts) ∧
    ((s.locker n).doorHeld ≠ some true →
      let u := s.clearPorts.elapse (s.params.doorOpenLimitS * 1000 + 1 - x)
      ∃ v, exec (.doorHeld n) s =
          .next (chooseTransmit (submit .doorHeld [.b1 n, .b1 d.code, .orderId (s.locker n).orderRef] v)) ∧
        v = { u with ltu := { u.ltu with lockers := v.ltu.lockers } } ∧ OtherLockersSame n u v ∧
        v.locker n = { u.locker n with doorHeld := some true })

/-! ### The panel -/

/-- A scan by the checks of R156 and the findings of R157, in order: refusals with their message and report, or a
panel release that TXU takes with the locker in PICKUP (R119, R156 to R158, R163). A code is eight characters, each a
decimal digit, with its leading zeros (R156). The numbers of message and cause in PANEL_REFUSED are log entry 20. -/
def Obligations.ScanByRule : Prop :=
  ∀ (chars : List Nat) (s : State),
    let refused (m : PanelMessage) (mc cause : Nat) (id n : Option Nat) : Prop :=
      exec (.scan chars) s =
        .next (chooseTransmit (submit .panelRefused [.b1 mc, .b1 cause, .orderId id, .opt1 n]
          { s with ports := [.display m] }))
    let serving : Prop := s.pni.lockoutTimer = none ∧ s.params.panelEnable = true ∧ s.ltu.discovery = none
    (s.pni.lockoutTimer ≠ none → refused .lockedOut 5 0 none none) ∧
    (s.pni.lockoutTimer = none → s.params.panelEnable = false → refused .notAvailable 4 1 none none) ∧
    (s.pni.lockoutTimer = none → s.params.panelEnable = true → s.ltu.discovery ≠ none →
      refused .busy 2 2 none none) ∧
    (∀ id o, serving → chars.length = 8 → (∀ c ∈ chars, 48 ≤ c ∧ c ≤ 57) →
      let code := chars.foldl (fun v c => v * 10 + (c - 48)) 0
      (s.oru.codeMap.find? fun e => e.1 == code) = some (code, id) → s.order? id = some o →
      (o.condemned ≠ none → refused .expired 0 3 (some id) o.locker) ∧
      (o.condemned = none → o.locker = none → refused .notReady 1 4 (some id) none) ∧
      (∀ n, o.condemned = none → o.locker = some n → n < 48 →
        (o.hold = none → refused .notReady 1 4 (some id) (some n)) ∧
        (o.hold ≠ none → (s.locker n).phase = .pickup → refused .busy 2 5 (some id) (some n)) ∧
        (o.hold ≠ none → (s.locker n).orderRef = some id →
          ((s.locker n).phase = .offline → refused .outOfService 3 8 (some id) (some n)) ∧
          ((s.locker n).phase = .holding →
            ¬ ((s.locker n).kDoor = .latched ∧ (s.locker n).unlatchPending = none) →
            refused .outOfService 3 10 (some id) (some n)) ∧
          ((s.locker n).phase = .holding → (s.locker n).kDoor = .latched → (s.locker n).unlatchPending = none →
            (8 ≤ s.txu.table.length ∨ (∃ e ∈ s.txu.table, e.locker = n) →
              refused .busy 2 6 (some id) (some n)) ∧
            (s.txu.table.length < 8 → (∀ e ∈ s.txu.table, e.locker ≠ n) →
              ∃ u, exec (.scan chars) s = .next (chooseTransmit (chooseBus u)) ∧
                u = { s with
                  ports := []
                  txu := { s.txu with
                    table := s.txu.table ++
                      [⟨.panel, none, .panelRelease, n, some .c, none, s.txu.nextSeq, .waiting⟩]
                    nextSeq := (s.txu.nextSeq + 1) % 65536 }
                  pni := { s.pni with releases := s.pni.releases ++ [(n, id)] }
                  ltu := { s.ltu with lockers := u.ltu.lockers } } ∧ OtherLockersSame n s u ∧
                u.locker n = { s.locker n with
                  phase := .pickup, openedNoted := some false, transientTimer := some 0, doorHeld := some false
                  unlatchPending := some .c })))))

/-- A scan counted as unknown, one that is not eight decimal digits or whose code, with its leading zeros, no order
has, moves the count of its window, the fifth begins the lockout; the window's end returns the count to 0, the
lockout's end frees the panel (R156, R157, R161, R162). That the rest of a timer's time passes before its expiry is
log entry 2. -/
def Obligations.UnknownCodesLockThePanel : Prop :=
  ∀ (chars : List Nat) (s : State),
    s.pni.lockoutTimer = none → s.params.panelEnable = true → s.ltu.discovery = none →
    (chars.length = 8 → (∀ c ∈ chars, 48 ≤ c ∧ c ≤ 57) →
      ∀ e ∈ s.oru.codeMap, e.1 ≠ chars.foldl (fun v c => v * 10 + (c - 48)) 0) →
    let after (m : PanelMessage) (p : Pni) : State := { s with ports := [.display m], pni := p }
    (s.pni.unknownCount = 0 →
      exec (.scan chars) s =
        .next (chooseTransmit (after .unknown { s.pni with unknownCount := 1, windowTimer := some 0 }))) ∧
    (1 ≤ s.pni.unknownCount → s.pni.unknownCount ≤ 3 →
      exec (.scan chars) s =
        .next (chooseTransmit (after .unknown { s.pni with unknownCount := s.pni.unknownCount + 1 }))) ∧
    (s.pni.unknownCount = 4 →
      exec (.scan chars) s =
        .next (chooseTransmit (submit .panelLockout [.b4 (uptimeOfSeconds (s.uptimeSeconds + 30))]
          (after .lockedOut
            { s.pni with unknownCount := 0, windowTimer := none, lockoutTimer := some 0 })))) ∧
    (∀ t e, t.pni.windowTimer = some e →
      let u := t.clearPorts.elapse (60000 - e)
      exec .windowTimerExpiry t = .next { u with pni := { u.pni with unknownCount := 0, windowTimer := none } }) ∧
    (∀ t e, t.pni.lockoutTimer = some e →
      let u := t.clearPorts.elapse (30000 - e)
      exec .lockoutTimerExpiry t = .next { u with pni := { u.pni with lockoutTimer := none } })

/-! ### The locker module -/

/-- The module as bus partner: an UNLATCH by its checks, a door that opens and closes, a window that passes, the open
counts, heating in granted slots only, counted from the frame start that the received map places, the reset and the
start after it, which find again a fault that persists (R103 to R107). It hears nothing while it starts and discards a
frame with a bad check. A request of an unknown kind, or a POLL with payload bytes, is refused: log entry 34. The time
to start is the module's own: log entry 35. -/
def Obligations.ModuleKeepsItsSide : Prop :=
  ∀ (m : LockerModule) (d : Door) (w : Nat),
    (w < 5 ∨ 60 < w → m.unlatch d.code w = (m, .refused .badRequest)) ∧
    (5 ≤ w → w ≤ 60 → (m.door d).latchWorks = false → m.unlatch d.code w = (m, .refused .latchFault)) ∧
    (5 ≤ w → w ≤ 60 → (m.door d).latchWorks = true → (m.door d.other).state ≠ .latched →
      m.unlatch d.code w = (m, .refused .interlock)) ∧
    (5 ≤ w → w ≤ 60 → (m.door d).latchWorks = true → (m.door d.other).state = .latched → (m.door d).shut = true →
      let r := m.unlatch d.code w
      r.2 = .ok ∧ (r.1.door d).state = .closed ∧ r.1.door d.other = m.door d.other ∧
      ((r.1.door d).after (w * 1000)).state = .latched ∧
      ((r.1.door d).openDoor).state = .opened ∧
      (((r.1.door d).openDoor).after (w * 1000)).released = true ∧
      (((r.1.door d).openDoor).closeDoor).state = .latched ∧
      ((r.1.door d).openDoor).count = ((m.door d).count + 1) % 256) ∧
    (∀ f took slots t, f + took + t < 2000 →
      ((m.takeMap f took slots).after t).heaterOn = slots.contains ((f + took + t) / 100)) ∧
    (∀ f took slots t, 2000 ≤ f + took + t → ((m.takeMap f took slots).after t).heaterOn = false) ∧
    (m.reset.heaterOn = false ∧ (m.reset.door d).released = false ∧ (m.reset.door d).windowMs = none ∧
      (m.reset.door d).count = 0 ∧ m.reset.items = m.defaults ∧ m.reset.startMs ≤ 500 ∧
      (0 < m.startTakes → m.reset.fault = .none ∧ m.reset.started = false) ∧
      (m.reset.after 500).started = true ∧
      (m.k.latchWorks = false ∨ m.c.latchWorks = false → (m.reset.after 500).fault = .latchFault) ∧
      (m.k.latchWorks = true → m.c.latchWorks = true → m.sensorWorks = false →
        (m.reset.after 500).fault = .occupancyFault) ∧
      (m.k.latchWorks = true → m.c.latchWorks = true → m.sensorWorks = true →
        (m.reset.after 500).fault = if m.heaterWorks then .none else .heaterFault) ∧
      ((m.reset.door d).shut = false → ((m.reset.door d).closeDoor).state = .latched ∧
        ((m.reset.door d).closeDoor).count = 0)) ∧
    (∀ (n took : Nat) (f : BusFrame), n < 48 → f.addr < 256 → f.kind < 256 → f.payload.length ≤ 200 →
      (m.started = false → m.receive n took f.bytes = (m, none)) ∧
      (f.addr ≠ n → f.addr ≠ 0xFF → m.receive n took f.bytes = (m, none)) ∧
      (∀ bytes, parseBusFrame bytes = none → m.receive n took bytes = (m, none)) ∧
      (m.started = true → f = ⟨n, 0x01, []⟩ →
        m.receive n took f.bytes = (m, some (.observation m.observation))) ∧
      (m.started = true → f.addr = n → f.kind = 0x01 → f.payload ≠ [] →
        m.receive n took f.bytes = (m, some (.refused .badRequest))) ∧
      (m.started = true → f = ⟨n, 0x02, [d.code, w]⟩ →
        m.receive n took f.bytes = ((m.unlatch d.code w).1, some (m.unlatch d.code w).2)) ∧
      (m.started = true → f.addr = n → f.kind ∉ [1, 2, 3, 4, 5, 6] →
        m.receive n took f.bytes = (m, some (.refused .badRequest)))) ∧
    (∀ (n took off : Nat) (map : Vector (List Nat) 48), n < 48 → off < 65536 → m.started = true →
      m.receive n took (heatMapFrame off map).bytes =
        (m.takeMap off took ((List.range 20).filter fun k => (vget map n []).contains k), none))

end
end

