-- ==== Sys2Proof/Laws/State.lean ====
section
/-! SUPPORT. What each named update of State leaves as it was and what it sets: one lemma per field per update, so that
no proof unfolds a record update. -/

namespace Sys2Proof.Machine

/-! ### withLki -/

@[simp] theorem State.withLki_pending (s : State) (x : Lki) : (s.withLki x).pending = s.pending := rfl
@[simp] theorem State.withLki_ports (s : State) (x : Lki) : (s.withLki x).ports = s.ports := rfl
@[simp] theorem State.withLki_upMs (s : State) (x : Lki) : (s.withLki x).upMs = s.upMs := rfl
@[simp] theorem State.withLki_shedLines (s : State) (x : Lki) : (s.withLki x).shedLines = s.shedLines := rfl
@[simp] theorem State.withLki_txu (s : State) (x : Lki) : (s.withLki x).txu = s.txu := rfl
@[simp] theorem State.withLki_bbm (s : State) (x : Lki) : (s.withLki x).bbm = s.bbm := rfl
@[simp] theorem State.withLki_ltu (s : State) (x : Lki) : (s.withLki x).ltu = s.ltu := rfl
@[simp] theorem State.withLki_oru (s : State) (x : Lki) : (s.withLki x).oru = s.oru := rfl
@[simp] theorem State.withLki_hau (s : State) (x : Lki) : (s.withLki x).hau = s.hau := rfl
@[simp] theorem State.withLki_hta (s : State) (x : Lki) : (s.withLki x).hta = s.hta := rfl
@[simp] theorem State.withLki_pni (s : State) (x : Lki) : (s.withLki x).pni = s.pni := rfl
@[simp] theorem State.withLki_sst (s : State) (x : Lki) : (s.withLki x).sst = s.sst := rfl
@[simp] theorem State.withLki_locker (s : State) (x : Lki) (m : Nat) : (s.withLki x).locker m = s.locker m := rfl
@[simp] theorem State.withLki_order (s : State) (x : Lki) (i : Nat) : (s.withLki x).order? i = s.order? i := rfl
@[simp] theorem State.withLki_freeList (s : State) (x : Lki) (k : SizeClass) : (s.withLki x).freeList k = s.freeList k := rfl
@[simp] theorem State.withLki_params (s : State) (x : Lki) : (s.withLki x).params = s.params := rfl
@[simp] theorem State.withLki_profile (s : State) (x : Lki) (i : Nat) : (s.withLki x).profile i = s.profile i := rfl
@[simp] theorem State.withLki_feedEntry (s : State) (x : Lki) (f : Nat) : (s.withLki x).feedEntry f = s.feedEntry f := rfl
@[simp] theorem State.withLki_layoutEntry (s : State) (x : Lki) (m : Nat) : (s.withLki x).layoutEntry m = s.layoutEntry m := rfl
@[simp] theorem State.withLki_discovering (s : State) (x : Lki) : (s.withLki x).discovering = s.discovering := rfl
@[simp] theorem State.withLki_uptimeSeconds (s : State) (x : Lki) : (s.withLki x).uptimeSeconds = s.uptimeSeconds := rfl
@[simp] theorem State.withLki_uptime (s : State) (x : Lki) : (s.withLki x).uptime = s.uptime := rfl
@[simp] theorem State.withLki_shedLine (s : State) (x : Lki) (f : Nat) : (s.withLki x).shedLine f = s.shedLine f := rfl
@[simp] theorem State.withLki_isShed (s : State) (x : Lki) (f : Nat) : (s.withLki x).isShed f = s.isShed f := rfl
@[simp] theorem State.withLki_budget (s : State) (x : Lki) (f : Nat) : (s.withLki x).budget f = s.budget f := rfl

/-! ### withTxu -/

@[simp] theorem State.withTxu_pending (s : State) (x : Txu) : (s.withTxu x).pending = s.pending := rfl
@[simp] theorem State.withTxu_ports (s : State) (x : Txu) : (s.withTxu x).ports = s.ports := rfl
@[simp] theorem State.withTxu_upMs (s : State) (x : Txu) : (s.withTxu x).upMs = s.upMs := rfl
@[simp] theorem State.withTxu_shedLines (s : State) (x : Txu) : (s.withTxu x).shedLines = s.shedLines := rfl
@[simp] theorem State.withTxu_lki (s : State) (x : Txu) : (s.withTxu x).lki = s.lki := rfl
@[simp] theorem State.withTxu_bbm (s : State) (x : Txu) : (s.withTxu x).bbm = s.bbm := rfl
@[simp] theorem State.withTxu_ltu (s : State) (x : Txu) : (s.withTxu x).ltu = s.ltu := rfl
@[simp] theorem State.withTxu_oru (s : State) (x : Txu) : (s.withTxu x).oru = s.oru := rfl
@[simp] theorem State.withTxu_hau (s : State) (x : Txu) : (s.withTxu x).hau = s.hau := rfl
@[simp] theorem State.withTxu_hta (s : State) (x : Txu) : (s.withTxu x).hta = s.hta := rfl
@[simp] theorem State.withTxu_pni (s : State) (x : Txu) : (s.withTxu x).pni = s.pni := rfl
@[simp] theorem State.withTxu_sst (s : State) (x : Txu) : (s.withTxu x).sst = s.sst := rfl
@[simp] theorem State.withTxu_locker (s : State) (x : Txu) (m : Nat) : (s.withTxu x).locker m = s.locker m := rfl
@[simp] theorem State.withTxu_order (s : State) (x : Txu) (i : Nat) : (s.withTxu x).order? i = s.order? i := rfl
@[simp] theorem State.withTxu_freeList (s : State) (x : Txu) (k : SizeClass) : (s.withTxu x).freeList k = s.freeList k := rfl
@[simp] theorem State.withTxu_params (s : State) (x : Txu) : (s.withTxu x).params = s.params := rfl
@[simp] theorem State.withTxu_profile (s : State) (x : Txu) (i : Nat) : (s.withTxu x).profile i = s.profile i := rfl
@[simp] theorem State.withTxu_feedEntry (s : State) (x : Txu) (f : Nat) : (s.withTxu x).feedEntry f = s.feedEntry f := rfl
@[simp] theorem State.withTxu_layoutEntry (s : State) (x : Txu) (m : Nat) : (s.withTxu x).layoutEntry m = s.layoutEntry m := rfl
@[simp] theorem State.withTxu_discovering (s : State) (x : Txu) : (s.withTxu x).discovering = s.discovering := rfl
@[simp] theorem State.withTxu_uptimeSeconds (s : State) (x : Txu) : (s.withTxu x).uptimeSeconds = s.uptimeSeconds := rfl
@[simp] theorem State.withTxu_uptime (s : State) (x : Txu) : (s.withTxu x).uptime = s.uptime := rfl
@[simp] theorem State.withTxu_shedLine (s : State) (x : Txu) (f : Nat) : (s.withTxu x).shedLine f = s.shedLine f := rfl
@[simp] theorem State.withTxu_isShed (s : State) (x : Txu) (f : Nat) : (s.withTxu x).isShed f = s.isShed f := rfl
@[simp] theorem State.withTxu_budget (s : State) (x : Txu) (f : Nat) : (s.withTxu x).budget f = s.budget f := rfl

/-! ### withBbm -/

@[simp] theorem State.withBbm_pending (s : State) (x : Bbm) : (s.withBbm x).pending = s.pending := rfl
@[simp] theorem State.withBbm_ports (s : State) (x : Bbm) : (s.withBbm x).ports = s.ports := rfl
@[simp] theorem State.withBbm_upMs (s : State) (x : Bbm) : (s.withBbm x).upMs = s.upMs := rfl
@[simp] theorem State.withBbm_shedLines (s : State) (x : Bbm) : (s.withBbm x).shedLines = s.shedLines := rfl
@[simp] theorem State.withBbm_lki (s : State) (x : Bbm) : (s.withBbm x).lki = s.lki := rfl
@[simp] theorem State.withBbm_txu (s : State) (x : Bbm) : (s.withBbm x).txu = s.txu := rfl
@[simp] theorem State.withBbm_ltu (s : State) (x : Bbm) : (s.withBbm x).ltu = s.ltu := rfl
@[simp] theorem State.withBbm_oru (s : State) (x : Bbm) : (s.withBbm x).oru = s.oru := rfl
@[simp] theorem State.withBbm_hau (s : State) (x : Bbm) : (s.withBbm x).hau = s.hau := rfl
@[simp] theorem State.withBbm_hta (s : State) (x : Bbm) : (s.withBbm x).hta = s.hta := rfl
@[simp] theorem State.withBbm_pni (s : State) (x : Bbm) : (s.withBbm x).pni = s.pni := rfl
@[simp] theorem State.withBbm_sst (s : State) (x : Bbm) : (s.withBbm x).sst = s.sst := rfl
@[simp] theorem State.withBbm_locker (s : State) (x : Bbm) (m : Nat) : (s.withBbm x).locker m = s.locker m := rfl
@[simp] theorem State.withBbm_order (s : State) (x : Bbm) (i : Nat) : (s.withBbm x).order? i = s.order? i := rfl
@[simp] theorem State.withBbm_freeList (s : State) (x : Bbm) (k : SizeClass) : (s.withBbm x).freeList k = s.freeList k := rfl
@[simp] theorem State.withBbm_params (s : State) (x : Bbm) : (s.withBbm x).params = s.params := rfl
@[simp] theorem State.withBbm_profile (s : State) (x : Bbm) (i : Nat) : (s.withBbm x).profile i = s.profile i := rfl
@[simp] theorem State.withBbm_feedEntry (s : State) (x : Bbm) (f : Nat) : (s.withBbm x).feedEntry f = s.feedEntry f := rfl
@[simp] theorem State.withBbm_layoutEntry (s : State) (x : Bbm) (m : Nat) : (s.withBbm x).layoutEntry m = s.layoutEntry m := rfl
@[simp] theorem State.withBbm_discovering (s : State) (x : Bbm) : (s.withBbm x).discovering = s.discovering := rfl
@[simp] theorem State.withBbm_uptimeSeconds (s : State) (x : Bbm) : (s.withBbm x).uptimeSeconds = s.uptimeSeconds := rfl
@[simp] theorem State.withBbm_uptime (s : State) (x : Bbm) : (s.withBbm x).uptime = s.uptime := rfl
@[simp] theorem State.withBbm_shedLine (s : State) (x : Bbm) (f : Nat) : (s.withBbm x).shedLine f = s.shedLine f := rfl
@[simp] theorem State.withBbm_isShed (s : State) (x : Bbm) (f : Nat) : (s.withBbm x).isShed f = s.isShed f := rfl
@[simp] theorem State.withBbm_budget (s : State) (x : Bbm) (f : Nat) : (s.withBbm x).budget f = s.budget f := rfl

/-! ### withLtu -/

@[simp] theorem State.withLtu_pending (s : State) (x : Ltu) : (s.withLtu x).pending = s.pending := rfl
@[simp] theorem State.withLtu_ports (s : State) (x : Ltu) : (s.withLtu x).ports = s.ports := rfl
@[simp] theorem State.withLtu_upMs (s : State) (x : Ltu) : (s.withLtu x).upMs = s.upMs := rfl
@[simp] theorem State.withLtu_shedLines (s : State) (x : Ltu) : (s.withLtu x).shedLines = s.shedLines := rfl
@[simp] theorem State.withLtu_lki (s : State) (x : Ltu) : (s.withLtu x).lki = s.lki := rfl
@[simp] theorem State.withLtu_txu (s : State) (x : Ltu) : (s.withLtu x).txu = s.txu := rfl
@[simp] theorem State.withLtu_bbm (s : State) (x : Ltu) : (s.withLtu x).bbm = s.bbm := rfl
@[simp] theorem State.withLtu_oru (s : State) (x : Ltu) : (s.withLtu x).oru = s.oru := rfl
@[simp] theorem State.withLtu_hau (s : State) (x : Ltu) : (s.withLtu x).hau = s.hau := rfl
@[simp] theorem State.withLtu_hta (s : State) (x : Ltu) : (s.withLtu x).hta = s.hta := rfl
@[simp] theorem State.withLtu_pni (s : State) (x : Ltu) : (s.withLtu x).pni = s.pni := rfl
@[simp] theorem State.withLtu_sst (s : State) (x : Ltu) : (s.withLtu x).sst = s.sst := rfl
@[simp] theorem State.withLtu_order (s : State) (x : Ltu) (i : Nat) : (s.withLtu x).order? i = s.order? i := rfl
@[simp] theorem State.withLtu_freeList (s : State) (x : Ltu) (k : SizeClass) : (s.withLtu x).freeList k = s.freeList k := rfl
@[simp] theorem State.withLtu_params (s : State) (x : Ltu) : (s.withLtu x).params = s.params := rfl
@[simp] theorem State.withLtu_profile (s : State) (x : Ltu) (i : Nat) : (s.withLtu x).profile i = s.profile i := rfl
@[simp] theorem State.withLtu_feedEntry (s : State) (x : Ltu) (f : Nat) : (s.withLtu x).feedEntry f = s.feedEntry f := rfl
@[simp] theorem State.withLtu_layoutEntry (s : State) (x : Ltu) (m : Nat) : (s.withLtu x).layoutEntry m = s.layoutEntry m := rfl
@[simp] theorem State.withLtu_uptimeSeconds (s : State) (x : Ltu) : (s.withLtu x).uptimeSeconds = s.uptimeSeconds := rfl
@[simp] theorem State.withLtu_uptime (s : State) (x : Ltu) : (s.withLtu x).uptime = s.uptime := rfl
@[simp] theorem State.withLtu_shedLine (s : State) (x : Ltu) (f : Nat) : (s.withLtu x).shedLine f = s.shedLine f := rfl
@[simp] theorem State.withLtu_isShed (s : State) (x : Ltu) (f : Nat) : (s.withLtu x).isShed f = s.isShed f := rfl
@[simp] theorem State.withLtu_budget (s : State) (x : Ltu) (f : Nat) : (s.withLtu x).budget f = s.budget f := rfl

/-! ### withSst -/

@[simp] theorem State.withSst_pending (s : State) (x : Sst) : (s.withSst x).pending = s.pending := rfl
@[simp] theorem State.withSst_ports (s : State) (x : Sst) : (s.withSst x).ports = s.ports := rfl
@[simp] theorem State.withSst_upMs (s : State) (x : Sst) : (s.withSst x).upMs = s.upMs := rfl
@[simp] theorem State.withSst_shedLines (s : State) (x : Sst) : (s.withSst x).shedLines = s.shedLines := rfl
@[simp] theorem State.withSst_lki (s : State) (x : Sst) : (s.withSst x).lki = s.lki := rfl
@[simp] theorem State.withSst_txu (s : State) (x : Sst) : (s.withSst x).txu = s.txu := rfl
@[simp] theorem State.withSst_bbm (s : State) (x : Sst) : (s.withSst x).bbm = s.bbm := rfl
@[simp] theorem State.withSst_ltu (s : State) (x : Sst) : (s.withSst x).ltu = s.ltu := rfl
@[simp] theorem State.withSst_oru (s : State) (x : Sst) : (s.withSst x).oru = s.oru := rfl
@[simp] theorem State.withSst_hau (s : State) (x : Sst) : (s.withSst x).hau = s.hau := rfl
@[simp] theorem State.withSst_hta (s : State) (x : Sst) : (s.withSst x).hta = s.hta := rfl
@[simp] theorem State.withSst_pni (s : State) (x : Sst) : (s.withSst x).pni = s.pni := rfl
@[simp] theorem State.withSst_locker (s : State) (x : Sst) (m : Nat) : (s.withSst x).locker m = s.locker m := rfl
@[simp] theorem State.withSst_order (s : State) (x : Sst) (i : Nat) : (s.withSst x).order? i = s.order? i := rfl
@[simp] theorem State.withSst_freeList (s : State) (x : Sst) (k : SizeClass) : (s.withSst x).freeList k = s.freeList k := rfl
@[simp] theorem State.withSst_discovering (s : State) (x : Sst) : (s.withSst x).discovering = s.discovering := rfl
@[simp] theorem State.withSst_uptimeSeconds (s : State) (x : Sst) : (s.withSst x).uptimeSeconds = s.uptimeSeconds := rfl
@[simp] theorem State.withSst_uptime (s : State) (x : Sst) : (s.withSst x).uptime = s.uptime := rfl
@[simp] theorem State.withSst_shedLine (s : State) (x : Sst) (f : Nat) : (s.withSst x).shedLine f = s.shedLine f := rfl
@[simp] theorem State.withSst_isShed (s : State) (x : Sst) (f : Nat) : (s.withSst x).isShed f = s.isShed f := rfl
@[simp] theorem State.withSst_budget (s : State) (x : Sst) (f : Nat) : (s.withSst x).budget f = s.budget f := rfl

/-! ### withWorking -/

@[simp] theorem State.withWorking_pending (s : State) (w : Settings) : (s.withWorking w).pending = s.pending := rfl
@[simp] theorem State.withWorking_ports (s : State) (w : Settings) : (s.withWorking w).ports = s.ports := rfl
@[simp] theorem State.withWorking_upMs (s : State) (w : Settings) : (s.withWorking w).upMs = s.upMs := rfl
@[simp] theorem State.withWorking_shedLines (s : State) (w : Settings) : (s.withWorking w).shedLines = s.shedLines := rfl
@[simp] theorem State.withWorking_lki (s : State) (w : Settings) : (s.withWorking w).lki = s.lki := rfl
@[simp] theorem State.withWorking_txu (s : State) (w : Settings) : (s.withWorking w).txu = s.txu := rfl
@[simp] theorem State.withWorking_bbm (s : State) (w : Settings) : (s.withWorking w).bbm = s.bbm := rfl
@[simp] theorem State.withWorking_ltu (s : State) (w : Settings) : (s.withWorking w).ltu = s.ltu := rfl
@[simp] theorem State.withWorking_oru (s : State) (w : Settings) : (s.withWorking w).oru = s.oru := rfl
@[simp] theorem State.withWorking_hau (s : State) (w : Settings) : (s.withWorking w).hau = s.hau := rfl
@[simp] theorem State.withWorking_hta (s : State) (w : Settings) : (s.withWorking w).hta = s.hta := rfl
@[simp] theorem State.withWorking_pni (s : State) (w : Settings) : (s.withWorking w).pni = s.pni := rfl
@[simp] theorem State.withWorking_locker (s : State) (w : Settings) (m : Nat) : (s.withWorking w).locker m = s.locker m := rfl
@[simp] theorem State.withWorking_order (s : State) (w : Settings) (i : Nat) : (s.withWorking w).order? i = s.order? i := rfl
@[simp] theorem State.withWorking_freeList (s : State) (w : Settings) (k : SizeClass) : (s.withWorking w).freeList k = s.freeList k := rfl
@[simp] theorem State.withWorking_discovering (s : State) (w : Settings) : (s.withWorking w).discovering = s.discovering := rfl
@[simp] theorem State.withWorking_uptimeSeconds (s : State) (w : Settings) : (s.withWorking w).uptimeSeconds = s.uptimeSeconds := rfl
@[simp] theorem State.withWorking_uptime (s : State) (w : Settings) : (s.withWorking w).uptime = s.uptime := rfl
@[simp] theorem State.withWorking_shedLine (s : State) (w : Settings) (f : Nat) : (s.withWorking w).shedLine f = s.shedLine f := rfl
@[simp] theorem State.withWorking_isShed (s : State) (w : Settings) (f : Nat) : (s.withWorking w).isShed f = s.isShed f := rfl
@[simp] theorem State.withWorking_budget (s : State) (w : Settings) (f : Nat) : (s.withWorking w).budget f = s.budget f := rfl

/-! ### setParams -/

@[simp] theorem State.setParams_pending (s : State) (p : Params) : (s.setParams p).pending = s.pending := rfl
@[simp] theorem State.setParams_ports (s : State) (p : Params) : (s.setParams p).ports = s.ports := rfl
@[simp] theorem State.setParams_upMs (s : State) (p : Params) : (s.setParams p).upMs = s.upMs := rfl
@[simp] theorem State.setParams_shedLines (s : State) (p : Params) : (s.setParams p).shedLines = s.shedLines := rfl
@[simp] theorem State.setParams_lki (s : State) (p : Params) : (s.setParams p).lki = s.lki := rfl
@[simp] theorem State.setParams_txu (s : State) (p : Params) : (s.setParams p).txu = s.txu := rfl
@[simp] theorem State.setParams_bbm (s : State) (p : Params) : (s.setParams p).bbm = s.bbm := rfl
@[simp] theorem State.setParams_ltu (s : State) (p : Params) : (s.setParams p).ltu = s.ltu := rfl
@[simp] theorem State.setParams_oru (s : State) (p : Params) : (s.setParams p).oru = s.oru := rfl
@[simp] theorem State.setParams_hau (s : State) (p : Params) : (s.setParams p).hau = s.hau := rfl
@[simp] theorem State.setParams_hta (s : State) (p : Params) : (s.setParams p).hta = s.hta := rfl
@[simp] theorem State.setParams_pni (s : State) (p : Params) : (s.setParams p).pni = s.pni := rfl
@[simp] theorem State.setParams_locker (s : State) (p : Params) (m : Nat) : (s.setParams p).locker m = s.locker m := rfl
@[simp] theorem State.setParams_order (s : State) (p : Params) (i : Nat) : (s.setParams p).order? i = s.order? i := rfl
@[simp] theorem State.setParams_freeList (s : State) (p : Params) (k : SizeClass) : (s.setParams p).freeList k = s.freeList k := rfl
@[simp] theorem State.setParams_discovering (s : State) (p : Params) : (s.setParams p).discovering = s.discovering := rfl
@[simp] theorem State.setParams_uptimeSeconds (s : State) (p : Params) : (s.setParams p).uptimeSeconds = s.uptimeSeconds := rfl
@[simp] theorem State.setParams_uptime (s : State) (p : Params) : (s.setParams p).uptime = s.uptime := rfl
@[simp] theorem State.setParams_shedLine (s : State) (p : Params) (f : Nat) : (s.setParams p).shedLine f = s.shedLine f := rfl
@[simp] theorem State.setParams_isShed (s : State) (p : Params) (f : Nat) : (s.setParams p).isShed f = s.isShed f := rfl
@[simp] theorem State.setParams_budget (s : State) (p : Params) (f : Nat) : (s.setParams p).budget f = s.budget f := rfl

/-! ### setShedLines -/

@[simp] theorem State.setShedLines_pending (s : State) (l0 l1 l2 l3 : Bool) : (s.setShedLines l0 l1 l2 l3).pending = s.pending := rfl
@[simp] theorem State.setShedLines_ports (s : State) (l0 l1 l2 l3 : Bool) : (s.setShedLines l0 l1 l2 l3).ports = s.ports := rfl
@[simp] theorem State.setShedLines_upMs (s : State) (l0 l1 l2 l3 : Bool) : (s.setShedLines l0 l1 l2 l3).upMs = s.upMs := rfl
@[simp] theorem State.setShedLines_lki (s : State) (l0 l1 l2 l3 : Bool) : (s.setShedLines l0 l1 l2 l3).lki = s.lki := rfl
@[simp] theorem State.setShedLines_txu (s : State) (l0 l1 l2 l3 : Bool) : (s.setShedLines l0 l1 l2 l3).txu = s.txu := rfl
@[simp] theorem State.setShedLines_bbm (s : State) (l0 l1 l2 l3 : Bool) : (s.setShedLines l0 l1 l2 l3).bbm = s.bbm := rfl
@[simp] theorem State.setShedLines_ltu (s : State) (l0 l1 l2 l3 : Bool) : (s.setShedLines l0 l1 l2 l3).ltu = s.ltu := rfl
@[simp] theorem State.setShedLines_oru (s : State) (l0 l1 l2 l3 : Bool) : (s.setShedLines l0 l1 l2 l3).oru = s.oru := rfl
@[simp] theorem State.setShedLines_hau (s : State) (l0 l1 l2 l3 : Bool) : (s.setShedLines l0 l1 l2 l3).hau = s.hau := rfl
@[simp] theorem State.setShedLines_hta (s : State) (l0 l1 l2 l3 : Bool) : (s.setShedLines l0 l1 l2 l3).hta = s.hta := rfl
@[simp] theorem State.setShedLines_pni (s : State) (l0 l1 l2 l3 : Bool) : (s.setShedLines l0 l1 l2 l3).pni = s.pni := rfl
@[simp] theorem State.setShedLines_sst (s : State) (l0 l1 l2 l3 : Bool) : (s.setShedLines l0 l1 l2 l3).sst = s.sst := rfl
@[simp] theorem State.setShedLines_locker (s : State) (l0 l1 l2 l3 : Bool) (m : Nat) : (s.setShedLines l0 l1 l2 l3).locker m = s.locker m := rfl
@[simp] theorem State.setShedLines_order (s : State) (l0 l1 l2 l3 : Bool) (i : Nat) : (s.setShedLines l0 l1 l2 l3).order? i = s.order? i := rfl
@[simp] theorem State.setShedLines_freeList (s : State) (l0 l1 l2 l3 : Bool) (k : SizeClass) : (s.setShedLines l0 l1 l2 l3).freeList k = s.freeList k := rfl
@[simp] theorem State.setShedLines_params (s : State) (l0 l1 l2 l3 : Bool) : (s.setShedLines l0 l1 l2 l3).params = s.params := rfl
@[simp] theorem State.setShedLines_profile (s : State) (l0 l1 l2 l3 : Bool) (i : Nat) : (s.setShedLines l0 l1 l2 l3).profile i = s.profile i := rfl
@[simp] theorem State.setShedLines_feedEntry (s : State) (l0 l1 l2 l3 : Bool) (f : Nat) : (s.setShedLines l0 l1 l2 l3).feedEntry f = s.feedEntry f := rfl
@[simp] theorem State.setShedLines_layoutEntry (s : State) (l0 l1 l2 l3 : Bool) (m : Nat) : (s.setShedLines l0 l1 l2 l3).layoutEntry m = s.layoutEntry m := rfl
@[simp] theorem State.setShedLines_discovering (s : State) (l0 l1 l2 l3 : Bool) : (s.setShedLines l0 l1 l2 l3).discovering = s.discovering := rfl
@[simp] theorem State.setShedLines_uptimeSeconds (s : State) (l0 l1 l2 l3 : Bool) : (s.setShedLines l0 l1 l2 l3).uptimeSeconds = s.uptimeSeconds := rfl
@[simp] theorem State.setShedLines_uptime (s : State) (l0 l1 l2 l3 : Bool) : (s.setShedLines l0 l1 l2 l3).uptime = s.uptime := rfl
@[simp] theorem State.setShedLines_isShed (s : State) (l0 l1 l2 l3 : Bool) (f : Nat) : (s.setShedLines l0 l1 l2 l3).isShed f = s.isShed f := rfl
@[simp] theorem State.setShedLines_budget (s : State) (l0 l1 l2 l3 : Bool) (f : Nat) : (s.setShedLines l0 l1 l2 l3).budget f = s.budget f := rfl

/-! ### setRx -/

@[simp] theorem State.setRx_pending (s : State) (r : RxFramer) (g : Option Nat) : (s.setRx r g).pending = s.pending := rfl
@[simp] theorem State.setRx_ports (s : State) (r : RxFramer) (g : Option Nat) : (s.setRx r g).ports = s.ports := rfl
@[simp] theorem State.setRx_upMs (s : State) (r : RxFramer) (g : Option Nat) : (s.setRx r g).upMs = s.upMs := rfl
@[simp] theorem State.setRx_shedLines (s : State) (r : RxFramer) (g : Option Nat) : (s.setRx r g).shedLines = s.shedLines := rfl
@[simp] theorem State.setRx_txu (s : State) (r : RxFramer) (g : Option Nat) : (s.setRx r g).txu = s.txu := rfl
@[simp] theorem State.setRx_bbm (s : State) (r : RxFramer) (g : Option Nat) : (s.setRx r g).bbm = s.bbm := rfl
@[simp] theorem State.setRx_ltu (s : State) (r : RxFramer) (g : Option Nat) : (s.setRx r g).ltu = s.ltu := rfl
@[simp] theorem State.setRx_oru (s : State) (r : RxFramer) (g : Option Nat) : (s.setRx r g).oru = s.oru := rfl
@[simp] theorem State.setRx_hau (s : State) (r : RxFramer) (g : Option Nat) : (s.setRx r g).hau = s.hau := rfl
@[simp] theorem State.setRx_hta (s : State) (r : RxFramer) (g : Option Nat) : (s.setRx r g).hta = s.hta := rfl
@[simp] theorem State.setRx_pni (s : State) (r : RxFramer) (g : Option Nat) : (s.setRx r g).pni = s.pni := rfl
@[simp] theorem State.setRx_sst (s : State) (r : RxFramer) (g : Option Nat) : (s.setRx r g).sst = s.sst := rfl
@[simp] theorem State.setRx_locker (s : State) (r : RxFramer) (g : Option Nat) (m : Nat) : (s.setRx r g).locker m = s.locker m := rfl
@[simp] theorem State.setRx_order (s : State) (r : RxFramer) (g : Option Nat) (i : Nat) : (s.setRx r g).order? i = s.order? i := rfl
@[simp] theorem State.setRx_freeList (s : State) (r : RxFramer) (g : Option Nat) (k : SizeClass) : (s.setRx r g).freeList k = s.freeList k := rfl
@[simp] theorem State.setRx_params (s : State) (r : RxFramer) (g : Option Nat) : (s.setRx r g).params = s.params := rfl
@[simp] theorem State.setRx_profile (s : State) (r : RxFramer) (g : Option Nat) (i : Nat) : (s.setRx r g).profile i = s.profile i := rfl
@[simp] theorem State.setRx_feedEntry (s : State) (r : RxFramer) (g : Option Nat) (f : Nat) : (s.setRx r g).feedEntry f = s.feedEntry f := rfl
@[simp] theorem State.setRx_layoutEntry (s : State) (r : RxFramer) (g : Option Nat) (m : Nat) : (s.setRx r g).layoutEntry m = s.layoutEntry m := rfl
@[simp] theorem State.setRx_discovering (s : State) (r : RxFramer) (g : Option Nat) : (s.setRx r g).discovering = s.discovering := rfl
@[simp] theorem State.setRx_uptimeSeconds (s : State) (r : RxFramer) (g : Option Nat) : (s.setRx r g).uptimeSeconds = s.uptimeSeconds := rfl
@[simp] theorem State.setRx_uptime (s : State) (r : RxFramer) (g : Option Nat) : (s.setRx r g).uptime = s.uptime := rfl
@[simp] theorem State.setRx_shedLine (s : State) (r : RxFramer) (g : Option Nat) (f : Nat) : (s.setRx r g).shedLine f = s.shedLine f := rfl
@[simp] theorem State.setRx_isShed (s : State) (r : RxFramer) (g : Option Nat) (f : Nat) : (s.setRx r g).isShed f = s.isShed f := rfl
@[simp] theorem State.setRx_budget (s : State) (r : RxFramer) (g : Option Nat) (f : Nat) : (s.setRx r g).budget f = s.budget f := rfl

/-! ### clearPorts -/

@[simp] theorem State.clearPorts_pending (s : State) : s.clearPorts.pending = s.pending := rfl
@[simp] theorem State.clearPorts_upMs (s : State) : s.clearPorts.upMs = s.upMs := rfl
@[simp] theorem State.clearPorts_shedLines (s : State) : s.clearPorts.shedLines = s.shedLines := rfl
@[simp] theorem State.clearPorts_lki (s : State) : s.clearPorts.lki = s.lki := rfl
@[simp] theorem State.clearPorts_txu (s : State) : s.clearPorts.txu = s.txu := rfl
@[simp] theorem State.clearPorts_bbm (s : State) : s.clearPorts.bbm = s.bbm := rfl
@[simp] theorem State.clearPorts_ltu (s : State) : s.clearPorts.ltu = s.ltu := rfl
@[simp] theorem State.clearPorts_oru (s : State) : s.clearPorts.oru = s.oru := rfl
@[simp] theorem State.clearPorts_hau (s : State) : s.clearPorts.hau = s.hau := rfl
@[simp] theorem State.clearPorts_hta (s : State) : s.clearPorts.hta = s.hta := rfl
@[simp] theorem State.clearPorts_pni (s : State) : s.clearPorts.pni = s.pni := rfl
@[simp] theorem State.clearPorts_sst (s : State) : s.clearPorts.sst = s.sst := rfl
@[simp] theorem State.clearPorts_locker (s : State) (m : Nat) : s.clearPorts.locker m = s.locker m := rfl
@[simp] theorem State.clearPorts_order (s : State) (i : Nat) : s.clearPorts.order? i = s.order? i := rfl
@[simp] theorem State.clearPorts_freeList (s : State) (k : SizeClass) : s.clearPorts.freeList k = s.freeList k := rfl
@[simp] theorem State.clearPorts_params (s : State) : s.clearPorts.params = s.params := rfl
@[simp] theorem State.clearPorts_profile (s : State) (i : Nat) : s.clearPorts.profile i = s.profile i := rfl
@[simp] theorem State.clearPorts_feedEntry (s : State) (f : Nat) : s.clearPorts.feedEntry f = s.feedEntry f := rfl
@[simp] theorem State.clearPorts_layoutEntry (s : State) (m : Nat) : s.clearPorts.layoutEntry m = s.layoutEntry m := rfl
@[simp] theorem State.clearPorts_discovering (s : State) : s.clearPorts.discovering = s.discovering := rfl
@[simp] theorem State.clearPorts_uptimeSeconds (s : State) : s.clearPorts.uptimeSeconds = s.uptimeSeconds := rfl
@[simp] theorem State.clearPorts_uptime (s : State) : s.clearPorts.uptime = s.uptime := rfl
@[simp] theorem State.clearPorts_shedLine (s : State) (f : Nat) : s.clearPorts.shedLine f = s.shedLine f := rfl
@[simp] theorem State.clearPorts_isShed (s : State) (f : Nat) : s.clearPorts.isShed f = s.isShed f := rfl
@[simp] theorem State.clearPorts_budget (s : State) (f : Nat) : s.clearPorts.budget f = s.budget f := rfl

/-! ### emit -/

@[simp] theorem State.emit_pending (s : State) (e : PortEvent) : (s.emit e).pending = s.pending := rfl
@[simp] theorem State.emit_upMs (s : State) (e : PortEvent) : (s.emit e).upMs = s.upMs := rfl
@[simp] theorem State.emit_shedLines (s : State) (e : PortEvent) : (s.emit e).shedLines = s.shedLines := rfl
@[simp] theorem State.emit_lki (s : State) (e : PortEvent) : (s.emit e).lki = s.lki := rfl
@[simp] theorem State.emit_txu (s : State) (e : PortEvent) : (s.emit e).txu = s.txu := rfl
@[simp] theorem State.emit_bbm (s : State) (e : PortEvent) : (s.emit e).bbm = s.bbm := rfl
@[simp] theorem State.emit_ltu (s : State) (e : PortEvent) : (s.emit e).ltu = s.ltu := rfl
@[simp] theorem State.emit_oru (s : State) (e : PortEvent) : (s.emit e).oru = s.oru := rfl
@[simp] theorem State.emit_hau (s : State) (e : PortEvent) : (s.emit e).hau = s.hau := rfl
@[simp] theorem State.emit_hta (s : State) (e : PortEvent) : (s.emit e).hta = s.hta := rfl
@[simp] theorem State.emit_pni (s : State) (e : PortEvent) : (s.emit e).pni = s.pni := rfl
@[simp] theorem State.emit_sst (s : State) (e : PortEvent) : (s.emit e).sst = s.sst := rfl
@[simp] theorem State.emit_locker (s : State) (e : PortEvent) (m : Nat) : (s.emit e).locker m = s.locker m := rfl
@[simp] theorem State.emit_order (s : State) (e : PortEvent) (i : Nat) : (s.emit e).order? i = s.order? i := rfl
@[simp] theorem State.emit_freeList (s : State) (e : PortEvent) (k : SizeClass) : (s.emit e).freeList k = s.freeList k := rfl
@[simp] theorem State.emit_params (s : State) (e : PortEvent) : (s.emit e).params = s.params := rfl
@[simp] theorem State.emit_profile (s : State) (e : PortEvent) (i : Nat) : (s.emit e).profile i = s.profile i := rfl
@[simp] theorem State.emit_feedEntry (s : State) (e : PortEvent) (f : Nat) : (s.emit e).feedEntry f = s.feedEntry f := rfl
@[simp] theorem State.emit_layoutEntry (s : State) (e : PortEvent) (m : Nat) : (s.emit e).layoutEntry m = s.layoutEntry m := rfl
@[simp] theorem State.emit_discovering (s : State) (e : PortEvent) : (s.emit e).discovering = s.discovering := rfl
@[simp] theorem State.emit_uptimeSeconds (s : State) (e : PortEvent) : (s.emit e).uptimeSeconds = s.uptimeSeconds := rfl
@[simp] theorem State.emit_uptime (s : State) (e : PortEvent) : (s.emit e).uptime = s.uptime := rfl
@[simp] theorem State.emit_shedLine (s : State) (e : PortEvent) (f : Nat) : (s.emit e).shedLine f = s.shedLine f := rfl
@[simp] theorem State.emit_isShed (s : State) (e : PortEvent) (f : Nat) : (s.emit e).isShed f = s.isShed f := rfl
@[simp] theorem State.emit_budget (s : State) (e : PortEvent) (f : Nat) : (s.emit e).budget f = s.budget f := rfl

/-! ### setLocker -/

@[simp] theorem State.setLocker_pending (s : State) (n : Nat) (l : Locker) : (s.setLocker n l).pending = s.pending := rfl
@[simp] theorem State.setLocker_ports (s : State) (n : Nat) (l : Locker) : (s.setLocker n l).ports = s.ports := rfl
@[simp] theorem State.setLocker_upMs (s : State) (n : Nat) (l : Locker) : (s.setLocker n l).upMs = s.upMs := rfl
@[simp] theorem State.setLocker_shedLines (s : State) (n : Nat) (l : Locker) : (s.setLocker n l).shedLines = s.shedLines := rfl
@[simp] theorem State.setLocker_lki (s : State) (n : Nat) (l : Locker) : (s.setLocker n l).lki = s.lki := rfl
@[simp] theorem State.setLocker_txu (s : State) (n : Nat) (l : Locker) : (s.setLocker n l).txu = s.txu := rfl
@[simp] theorem State.setLocker_bbm (s : State) (n : Nat) (l : Locker) : (s.setLocker n l).bbm = s.bbm := rfl
@[simp] theorem State.setLocker_oru (s : State) (n : Nat) (l : Locker) : (s.setLocker n l).oru = s.oru := rfl
@[simp] theorem State.setLocker_hau (s : State) (n : Nat) (l : Locker) : (s.setLocker n l).hau = s.hau := rfl
@[simp] theorem State.setLocker_hta (s : State) (n : Nat) (l : Locker) : (s.setLocker n l).hta = s.hta := rfl
@[simp] theorem State.setLocker_pni (s : State) (n : Nat) (l : Locker) : (s.setLocker n l).pni = s.pni := rfl
@[simp] theorem State.setLocker_sst (s : State) (n : Nat) (l : Locker) : (s.setLocker n l).sst = s.sst := rfl
@[simp] theorem State.setLocker_order (s : State) (n : Nat) (l : Locker) (i : Nat) : (s.setLocker n l).order? i = s.order? i := rfl
@[simp] theorem State.setLocker_freeList (s : State) (n : Nat) (l : Locker) (k : SizeClass) : (s.setLocker n l).freeList k = s.freeList k := rfl
@[simp] theorem State.setLocker_params (s : State) (n : Nat) (l : Locker) : (s.setLocker n l).params = s.params := rfl
@[simp] theorem State.setLocker_profile (s : State) (n : Nat) (l : Locker) (i : Nat) : (s.setLocker n l).profile i = s.profile i := rfl
@[simp] theorem State.setLocker_feedEntry (s : State) (n : Nat) (l : Locker) (f : Nat) : (s.setLocker n l).feedEntry f = s.feedEntry f := rfl
@[simp] theorem State.setLocker_layoutEntry (s : State) (n : Nat) (l : Locker) (m : Nat) : (s.setLocker n l).layoutEntry m = s.layoutEntry m := rfl
@[simp] theorem State.setLocker_uptimeSeconds (s : State) (n : Nat) (l : Locker) : (s.setLocker n l).uptimeSeconds = s.uptimeSeconds := rfl
@[simp] theorem State.setLocker_uptime (s : State) (n : Nat) (l : Locker) : (s.setLocker n l).uptime = s.uptime := rfl
@[simp] theorem State.setLocker_shedLine (s : State) (n : Nat) (l : Locker) (f : Nat) : (s.setLocker n l).shedLine f = s.shedLine f := rfl
@[simp] theorem State.setLocker_isShed (s : State) (n : Nat) (l : Locker) (f : Nat) : (s.setLocker n l).isShed f = s.isShed f := rfl
@[simp] theorem State.setLocker_budget (s : State) (n : Nat) (l : Locker) (f : Nat) : (s.setLocker n l).budget f = s.budget f := rfl

/-! ### modLocker -/

@[simp] theorem State.modLocker_pending (s : State) (n : Nat) (f : Locker → Locker) : (s.modLocker n f).pending = s.pending := rfl
@[simp] theorem State.modLocker_ports (s : State) (n : Nat) (f : Locker → Locker) : (s.modLocker n f).ports = s.ports := rfl
@[simp] theorem State.modLocker_upMs (s : State) (n : Nat) (f : Locker → Locker) : (s.modLocker n f).upMs = s.upMs := rfl
@[simp] theorem State.modLocker_shedLines (s : State) (n : Nat) (f : Locker → Locker) : (s.modLocker n f).shedLines = s.shedLines := rfl
@[simp] theorem State.modLocker_lki (s : State) (n : Nat) (f : Locker → Locker) : (s.modLocker n f).lki = s.lki := rfl
@[simp] theorem State.modLocker_txu (s : State) (n : Nat) (f : Locker → Locker) : (s.modLocker n f).txu = s.txu := rfl
@[simp] theorem State.modLocker_bbm (s : State) (n : Nat) (f : Locker → Locker) : (s.modLocker n f).bbm = s.bbm := rfl
@[simp] theorem State.modLocker_oru (s : State) (n : Nat) (f : Locker → Locker) : (s.modLocker n f).oru = s.oru := rfl
@[simp] theorem State.modLocker_hau (s : State) (n : Nat) (f : Locker → Locker) : (s.modLocker n f).hau = s.hau := rfl
@[simp] theorem State.modLocker_hta (s : State) (n : Nat) (f : Locker → Locker) : (s.modLocker n f).hta = s.hta := rfl
@[simp] theorem State.modLocker_pni (s : State) (n : Nat) (f : Locker → Locker) : (s.modLocker n f).pni = s.pni := rfl
@[simp] theorem State.modLocker_sst (s : State) (n : Nat) (f : Locker → Locker) : (s.modLocker n f).sst = s.sst := rfl
@[simp] theorem State.modLocker_order (s : State) (n : Nat) (f : Locker → Locker) (i : Nat) : (s.modLocker n f).order? i = s.order? i := rfl
@[simp] theorem State.modLocker_freeList (s : State) (n : Nat) (f : Locker → Locker) (k : SizeClass) : (s.modLocker n f).freeList k = s.freeList k := rfl
@[simp] theorem State.modLocker_params (s : State) (n : Nat) (f : Locker → Locker) : (s.modLocker n f).params = s.params := rfl
@[simp] theorem State.modLocker_profile (s : State) (n : Nat) (f : Locker → Locker) (i : Nat) : (s.modLocker n f).profile i = s.profile i := rfl
@[simp] theorem State.modLocker_feedEntry (s : State) (n : Nat) (f : Locker → Locker) (j : Nat) : (s.modLocker n f).feedEntry j = s.feedEntry j := rfl
@[simp] theorem State.modLocker_layoutEntry (s : State) (n : Nat) (f : Locker → Locker) (m : Nat) : (s.modLocker n f).layoutEntry m = s.layoutEntry m := rfl
@[simp] theorem State.modLocker_uptimeSeconds (s : State) (n : Nat) (f : Locker → Locker) : (s.modLocker n f).uptimeSeconds = s.uptimeSeconds := rfl
@[simp] theorem State.modLocker_uptime (s : State) (n : Nat) (f : Locker → Locker) : (s.modLocker n f).uptime = s.uptime := rfl
@[simp] theorem State.modLocker_shedLine (s : State) (n : Nat) (f : Locker → Locker) (j : Nat) : (s.modLocker n f).shedLine j = s.shedLine j := rfl
@[simp] theorem State.modLocker_isShed (s : State) (n : Nat) (f : Locker → Locker) (j : Nat) : (s.modLocker n f).isShed j = s.isShed j := rfl
@[simp] theorem State.modLocker_budget (s : State) (n : Nat) (f : Locker → Locker) (j : Nat) : (s.modLocker n f).budget j = s.budget j := rfl

/-! ### modOrder -/

@[simp] theorem State.modOrder_pending (s : State) (id : Nat) (f : Order → Order) : (s.modOrder id f).pending = s.pending := rfl
@[simp] theorem State.modOrder_ports (s : State) (id : Nat) (f : Order → Order) : (s.modOrder id f).ports = s.ports := rfl
@[simp] theorem State.modOrder_upMs (s : State) (id : Nat) (f : Order → Order) : (s.modOrder id f).upMs = s.upMs := rfl
@[simp] theorem State.modOrder_shedLines (s : State) (id : Nat) (f : Order → Order) : (s.modOrder id f).shedLines = s.shedLines := rfl
@[simp] theorem State.modOrder_lki (s : State) (id : Nat) (f : Order → Order) : (s.modOrder id f).lki = s.lki := rfl
@[simp] theorem State.modOrder_txu (s : State) (id : Nat) (f : Order → Order) : (s.modOrder id f).txu = s.txu := rfl
@[simp] theorem State.modOrder_bbm (s : State) (id : Nat) (f : Order → Order) : (s.modOrder id f).bbm = s.bbm := rfl
@[simp] theorem State.modOrder_ltu (s : State) (id : Nat) (f : Order → Order) : (s.modOrder id f).ltu = s.ltu := rfl
@[simp] theorem State.modOrder_hau (s : State) (id : Nat) (f : Order → Order) : (s.modOrder id f).hau = s.hau := rfl
@[simp] theorem State.modOrder_hta (s : State) (id : Nat) (f : Order → Order) : (s.modOrder id f).hta = s.hta := rfl
@[simp] theorem State.modOrder_pni (s : State) (id : Nat) (f : Order → Order) : (s.modOrder id f).pni = s.pni := rfl
@[simp] theorem State.modOrder_sst (s : State) (id : Nat) (f : Order → Order) : (s.modOrder id f).sst = s.sst := rfl
@[simp] theorem State.modOrder_locker (s : State) (id : Nat) (f : Order → Order) (m : Nat) : (s.modOrder id f).locker m = s.locker m := rfl
@[simp] theorem State.modOrder_params (s : State) (id : Nat) (f : Order → Order) : (s.modOrder id f).params = s.params := rfl
@[simp] theorem State.modOrder_profile (s : State) (id : Nat) (f : Order → Order) (i : Nat) : (s.modOrder id f).profile i = s.profile i := rfl
@[simp] theorem State.modOrder_feedEntry (s : State) (id : Nat) (f : Order → Order) (j : Nat) : (s.modOrder id f).feedEntry j = s.feedEntry j := rfl
@[simp] theorem State.modOrder_layoutEntry (s : State) (id : Nat) (f : Order → Order) (m : Nat) : (s.modOrder id f).layoutEntry m = s.layoutEntry m := rfl
@[simp] theorem State.modOrder_discovering (s : State) (id : Nat) (f : Order → Order) : (s.modOrder id f).discovering = s.discovering := rfl
@[simp] theorem State.modOrder_uptimeSeconds (s : State) (id : Nat) (f : Order → Order) : (s.modOrder id f).uptimeSeconds = s.uptimeSeconds := rfl
@[simp] theorem State.modOrder_uptime (s : State) (id : Nat) (f : Order → Order) : (s.modOrder id f).uptime = s.uptime := rfl
@[simp] theorem State.modOrder_shedLine (s : State) (id : Nat) (f : Order → Order) (j : Nat) : (s.modOrder id f).shedLine j = s.shedLine j := rfl
@[simp] theorem State.modOrder_isShed (s : State) (id : Nat) (f : Order → Order) (j : Nat) : (s.modOrder id f).isShed j = s.isShed j := rfl
@[simp] theorem State.modOrder_budget (s : State) (id : Nat) (f : Order → Order) (j : Nat) : (s.modOrder id f).budget j = s.budget j := rfl

/-! ### setFreeList -/

@[simp] theorem State.setFreeList_pending (s : State) (c : SizeClass) (q : List Nat) : (s.setFreeList c q).pending = s.pending := by cases c <;> rfl
@[simp] theorem State.setFreeList_ports (s : State) (c : SizeClass) (q : List Nat) : (s.setFreeList c q).ports = s.ports := by cases c <;> rfl
@[simp] theorem State.setFreeList_upMs (s : State) (c : SizeClass) (q : List Nat) : (s.setFreeList c q).upMs = s.upMs := by cases c <;> rfl
@[simp] theorem State.setFreeList_shedLines (s : State) (c : SizeClass) (q : List Nat) : (s.setFreeList c q).shedLines = s.shedLines := by cases c <;> rfl
@[simp] theorem State.setFreeList_lki (s : State) (c : SizeClass) (q : List Nat) : (s.setFreeList c q).lki = s.lki := by cases c <;> rfl
@[simp] theorem State.setFreeList_txu (s : State) (c : SizeClass) (q : List Nat) : (s.setFreeList c q).txu = s.txu := by cases c <;> rfl
@[simp] theorem State.setFreeList_bbm (s : State) (c : SizeClass) (q : List Nat) : (s.setFreeList c q).bbm = s.bbm := by cases c <;> rfl
@[simp] theorem State.setFreeList_ltu (s : State) (c : SizeClass) (q : List Nat) : (s.setFreeList c q).ltu = s.ltu := by cases c <;> rfl
@[simp] theorem State.setFreeList_hau (s : State) (c : SizeClass) (q : List Nat) : (s.setFreeList c q).hau = s.hau := by cases c <;> rfl
@[simp] theorem State.setFreeList_hta (s : State) (c : SizeClass) (q : List Nat) : (s.setFreeList c q).hta = s.hta := by cases c <;> rfl
@[simp] theorem State.setFreeList_pni (s : State) (c : SizeClass) (q : List Nat) : (s.setFreeList c q).pni = s.pni := by cases c <;> rfl
@[simp] theorem State.setFreeList_sst (s : State) (c : SizeClass) (q : List Nat) : (s.setFreeList c q).sst = s.sst := by cases c <;> rfl
@[simp] theorem State.setFreeList_locker (s : State) (c : SizeClass) (q : List Nat) (m : Nat) : (s.setFreeList c q).locker m = s.locker m := by cases c <;> rfl
@[simp] theorem State.setFreeList_params (s : State) (c : SizeClass) (q : List Nat) : (s.setFreeList c q).params = s.params := by cases c <;> rfl
@[simp] theorem State.setFreeList_profile (s : State) (c : SizeClass) (q : List Nat) (i : Nat) : (s.setFreeList c q).profile i = s.profile i := by cases c <;> rfl
@[simp] theorem State.setFreeList_feedEntry (s : State) (c : SizeClass) (q : List Nat) (f : Nat) : (s.setFreeList c q).feedEntry f = s.feedEntry f := by cases c <;> rfl
@[simp] theorem State.setFreeList_layoutEntry (s : State) (c : SizeClass) (q : List Nat) (m : Nat) : (s.setFreeList c q).layoutEntry m = s.layoutEntry m := by cases c <;> rfl
@[simp] theorem State.setFreeList_discovering (s : State) (c : SizeClass) (q : List Nat) : (s.setFreeList c q).discovering = s.discovering := by cases c <;> rfl
@[simp] theorem State.setFreeList_uptimeSeconds (s : State) (c : SizeClass) (q : List Nat) : (s.setFreeList c q).uptimeSeconds = s.uptimeSeconds := by cases c <;> rfl
@[simp] theorem State.setFreeList_uptime (s : State) (c : SizeClass) (q : List Nat) : (s.setFreeList c q).uptime = s.uptime := by cases c <;> rfl
@[simp] theorem State.setFreeList_shedLine (s : State) (c : SizeClass) (q : List Nat) (f : Nat) : (s.setFreeList c q).shedLine f = s.shedLine f := by cases c <;> rfl
@[simp] theorem State.setFreeList_isShed (s : State) (c : SizeClass) (q : List Nat) (f : Nat) : (s.setFreeList c q).isShed f = s.isShed f := by cases c <;> rfl
@[simp] theorem State.setFreeList_budget (s : State) (c : SizeClass) (q : List Nat) (f : Nat) : (s.setFreeList c q).budget f = s.budget f := by cases c <;> rfl

/-! ### elapse -/

@[simp] theorem State.elapse_pending (s : State) (d : Nat) : (s.elapse d).pending = s.pending := rfl
@[simp] theorem State.elapse_ports (s : State) (d : Nat) : (s.elapse d).ports = s.ports := rfl
@[simp] theorem State.elapse_shedLines (s : State) (d : Nat) : (s.elapse d).shedLines = s.shedLines := rfl
@[simp] theorem State.elapse_txu (s : State) (d : Nat) : (s.elapse d).txu = s.txu := rfl
@[simp] theorem State.elapse_oru (s : State) (d : Nat) : (s.elapse d).oru = s.oru := rfl
@[simp] theorem State.elapse_sst (s : State) (d : Nat) : (s.elapse d).sst = s.sst := rfl
@[simp] theorem State.elapse_order (s : State) (d : Nat) (i : Nat) : (s.elapse d).order? i = s.order? i := rfl
@[simp] theorem State.elapse_freeList (s : State) (d : Nat) (k : SizeClass) : (s.elapse d).freeList k = s.freeList k := rfl
@[simp] theorem State.elapse_params (s : State) (d : Nat) : (s.elapse d).params = s.params := rfl
@[simp] theorem State.elapse_profile (s : State) (d : Nat) (i : Nat) : (s.elapse d).profile i = s.profile i := rfl
@[simp] theorem State.elapse_feedEntry (s : State) (d : Nat) (f : Nat) : (s.elapse d).feedEntry f = s.feedEntry f := rfl
@[simp] theorem State.elapse_layoutEntry (s : State) (d : Nat) (m : Nat) : (s.elapse d).layoutEntry m = s.layoutEntry m := rfl
@[simp] theorem State.elapse_shedLine (s : State) (d : Nat) (f : Nat) : (s.elapse d).shedLine f = s.shedLine f := rfl

/-! ### What each update sets -/

@[simp] theorem State.withLki_lki (s : State) (x : Lki) : (s.withLki x).lki = x := rfl
@[simp] theorem State.withTxu_txu (s : State) (x : Txu) : (s.withTxu x).txu = x := rfl
@[simp] theorem State.withBbm_bbm (s : State) (x : Bbm) : (s.withBbm x).bbm = x := rfl
@[simp] theorem State.withLtu_ltu (s : State) (x : Ltu) : (s.withLtu x).ltu = x := rfl
@[simp] theorem State.withSst_sst (s : State) (x : Sst) : (s.withSst x).sst = x := rfl
@[simp] theorem State.withWorking_sst (s : State) (w : Settings) :
    (s.withWorking w).sst = { s.sst with working := w } := rfl
@[simp] theorem State.setParams_params (s : State) (p : Params) : (s.setParams p).params = p := rfl
@[simp] theorem State.setRx_lki (s : State) (r : RxFramer) (g : Option Nat) :
    (s.setRx r g).lki = { s.lki with rx := r, gapTimer := g } := rfl
@[simp] theorem State.setShedLines_shedLines (s : State) (l0 l1 l2 l3 : Bool) :
    (s.setShedLines l0 l1 l2 l3).shedLines = #v[l0, l1, l2, l3] := rfl
@[simp] theorem State.clearPorts_ports (s : State) : s.clearPorts.ports = [] := rfl
@[simp] theorem State.emit_ports (s : State) (e : PortEvent) : (s.emit e).ports = s.ports ++ [e] := rfl
@[simp] theorem State.elapse_upMs (s : State) (d : Nat) : (s.elapse d).upMs = s.upMs + d := rfl
@[simp] theorem State.elapse_discovery (s : State) (d : Nat) : (s.elapse d).ltu.discovery = s.ltu.discovery := rfl
@[simp] theorem State.elapse_discovering (s : State) (d : Nat) : (s.elapse d).discovering = s.discovering := rfl
@[simp] theorem State.elapse_isShed (s : State) (d f : Nat) : (s.elapse d).isShed f = s.isShed f := rfl
@[simp] theorem State.elapse_budget (s : State) (d f : Nat) : (s.elapse d).budget f = s.budget f := rfl

theorem State.modLocker_eq (s : State) (n : Nat) (f : Locker → Locker) :
    s.modLocker n f = s.setLocker n (f (s.locker n)) := rfl
@[simp] theorem State.setLocker_discovery (s : State) (n : Nat) (l : Locker) :
    (s.setLocker n l).ltu.discovery = s.ltu.discovery := rfl
@[simp] theorem State.setLocker_probing (s : State) (n : Nat) (l : Locker) :
    (s.setLocker n l).ltu.probing = s.ltu.probing := rfl
@[simp] theorem State.setLocker_probeCursor (s : State) (n : Nat) (l : Locker) :
    (s.setLocker n l).ltu.probeCursor = s.ltu.probeCursor := rfl
@[simp] theorem State.setLocker_answered (s : State) (n : Nat) (l : Locker) :
    (s.setLocker n l).ltu.answered = s.ltu.answered := rfl
@[simp] theorem State.setLocker_discovering (s : State) (n : Nat) (l : Locker) :
    (s.setLocker n l).discovering = s.discovering := rfl
@[simp] theorem State.modLocker_discovery (s : State) (n : Nat) (f : Locker → Locker) :
    (s.modLocker n f).ltu.discovery = s.ltu.discovery := rfl
@[simp] theorem State.modLocker_discovering (s : State) (n : Nat) (f : Locker → Locker) :
    (s.modLocker n f).discovering = s.discovering := rfl
@[simp] theorem State.modOrder_orders (s : State) (id : Nat) (f : Order → Order) :
    (s.modOrder id f).oru.orders = s.oru.orders.map fun o => if o.id == id then f o else o := rfl
@[simp] theorem State.modOrder_codeMap (s : State) (id : Nat) (f : Order → Order) :
    (s.modOrder id f).oru.codeMap = s.oru.codeMap := rfl
@[simp] theorem State.modOrder_queue (s : State) (id : Nat) (f : Order → Order) :
    (s.modOrder id f).oru.queue = s.oru.queue := rfl
@[simp] theorem State.modOrder_freeList (s : State) (id : Nat) (f : Order → Order) (c : SizeClass) :
    (s.modOrder id f).freeList c = s.freeList c := by cases c <;> rfl
@[simp] theorem State.setFreeList_orders (s : State) (c : SizeClass) (q : List Nat) :
    (s.setFreeList c q).oru.orders = s.oru.orders := by cases c <;> rfl
@[simp] theorem State.setFreeList_codeMap (s : State) (c : SizeClass) (q : List Nat) :
    (s.setFreeList c q).oru.codeMap = s.oru.codeMap := by cases c <;> rfl
@[simp] theorem State.setFreeList_queue (s : State) (c : SizeClass) (q : List Nat) :
    (s.setFreeList c q).oru.queue = s.oru.queue := by cases c <;> rfl
@[simp] theorem State.setFreeList_order (s : State) (c : SizeClass) (q : List Nat) (i : Nat) :
    (s.setFreeList c q).order? i = s.order? i := by cases c <;> rfl
theorem State.setFreeList_freeList (s : State) (c k : SizeClass) (q : List Nat) :
    (s.setFreeList c q).freeList k = if k = c then q else s.freeList k := by cases c <;> cases k <;> rfl

/-! ### Tables of fixed length -/

@[simp] theorem vget_vinit {α : Type} (n : Nat) (f : Nat → α) (i : Nat) (d : α) (h : i < n) :
    vget (vinit n f) i d = f i := by
  simp [vget, vinit, h]

theorem vget_out {α : Type} {n : Nat} (v : Vector α n) (i : Nat) (d : α) (h : n ≤ i) : vget v i d = d := by
  simp [vget, Nat.not_lt.mpr h]

@[simp] theorem vget_vset_same {α : Type} {n : Nat} (v : Vector α n) (i : Nat) (x d : α) (h : i < n) :
    vget (vset v i x) i d = x := by
  simp [vget, vset, h]

@[simp] theorem vget_vset_ne {α : Type} {n : Nat} (v : Vector α n) (i j : Nat) (x d : α) (h : j ≠ i) :
    vget (vset v i x) j d = vget v j d := by
  unfold vget vset
  split <;> [split; rfl] <;> simp [Ne.symm h]

theorem vset_out {α : Type} {n : Nat} (v : Vector α n) (i : Nat) (x : α) (h : n ≤ i) : vset v i x = v := by
  simp [vset, Nat.not_lt.mpr h]

/-! ### Locker records -/

theorem State.locker_out (s : State) (n : Nat) (h : 48 ≤ n) : s.locker n = Locker.blank := vget_out _ _ _ h

@[simp] theorem State.setLocker_same (s : State) (n : Nat) (l : Locker) (h : n < 48) :
    (s.setLocker n l).locker n = l := vget_vset_same _ _ _ _ h

@[simp] theorem State.setLocker_ne (s : State) (n m : Nat) (l : Locker) (h : m ≠ n) :
    (s.setLocker n l).locker m = s.locker m := vget_vset_ne _ _ _ _ _ h

theorem State.setLocker_out (s : State) (n : Nat) (l : Locker) (h : 48 ≤ n) : s.setLocker n l = s := by
  simp [State.setLocker, vset_out _ _ _ h]

@[simp] theorem State.modLocker_same (s : State) (n : Nat) (f : Locker → Locker) (h : n < 48) :
    (s.modLocker n f).locker n = f (s.locker n) := State.setLocker_same _ _ _ h

@[simp] theorem State.modLocker_ne (s : State) (n m : Nat) (f : Locker → Locker) (h : m ≠ n) :
    (s.modLocker n f).locker m = s.locker m := State.setLocker_ne _ _ _ _ h

/-- Every locker record after `d` ms (R3, R19). -/
theorem State.elapse_locker (s : State) (d n : Nat) (h : n < 48) : (s.elapse d).locker n = (s.locker n).after d :=
  vget_vinit _ _ _ _ h

/-- Time leaves a record's phase and its links alone. -/
@[simp] theorem State.elapse_phase (s : State) (d n : Nat) : ((s.elapse d).locker n).phase = (s.locker n).phase := by
  by_cases h : n < 48
  · rw [s.elapse_locker d n h]; rfl
  · rw [State.locker_out _ _ (by omega), State.locker_out _ _ (by omega)]

/-! ### Order records -/

/-- The record of an order after a change to the order `id`, which keeps its id. -/
theorem State.modOrder_order (s : State) (id i : Nat) (f : Order → Order) (hf : ∀ o, (f o).id = o.id) :
    (s.modOrder id f).order? i = (s.order? i).map fun o => if o.id = id then f o else o := by
  have key : ∀ os : List Order,
      (os.map fun o => if o.id == id then f o else o).find? (fun o => o.id == i) =
        (os.find? fun o => o.id == i).map fun o => if o.id = id then f o else o := by
    intro os
    induction os with
    | nil => rfl
    | cons o os ih =>
      simp only [List.map_cons, List.find?_cons]
      have hid : (if o.id == id then f o else o).id = o.id := by split <;> simp [hf]
      rw [hid]
      split <;> simp_all
  exact key _

theorem State.order_id (s : State) (i : Nat) (o : Order) (h : s.order? i = some o) : o.id = i := by
  simpa using List.find?_some h

theorem State.order_mem (s : State) (i : Nat) (o : Order) (h : s.order? i = some o) : o ∈ s.oru.orders :=
  List.mem_of_find?_eq_some h

end Sys2Proof.Machine
end

