-- ==== Sys2Proof/Laws/Link.lean ====
section
/-! SUPPORT. What each operation of the Link Interface can do (chapter 07), and that none of them touches another
unit. -/

namespace Sys2Proof.Machine

/-! ### Differing in the link only -/

theorem OnlyLink.refl (s : State) : OnlyLink s s := rfl

theorem OnlyLink.trans {s t u : State} (h : OnlyLink s t) (k : OnlyLink t u) : OnlyLink s u := by
  unfold OnlyLink at *
  rw [k, h]

theorem OnlyLink.pending {s t : State} (h : OnlyLink s t) : t.pending = s.pending := (congrArg State.pending h).trans rfl
theorem OnlyLink.upMs {s t : State} (h : OnlyLink s t) : t.upMs = s.upMs := (congrArg State.upMs h).trans rfl
theorem OnlyLink.shedLines {s t : State} (h : OnlyLink s t) : t.shedLines = s.shedLines := (congrArg State.shedLines h).trans rfl
theorem OnlyLink.txu {s t : State} (h : OnlyLink s t) : t.txu = s.txu := (congrArg State.txu h).trans rfl
theorem OnlyLink.bbm {s t : State} (h : OnlyLink s t) : t.bbm = s.bbm := (congrArg State.bbm h).trans rfl
theorem OnlyLink.ltu {s t : State} (h : OnlyLink s t) : t.ltu = s.ltu := (congrArg State.ltu h).trans rfl
theorem OnlyLink.oru {s t : State} (h : OnlyLink s t) : t.oru = s.oru := (congrArg State.oru h).trans rfl
theorem OnlyLink.hau {s t : State} (h : OnlyLink s t) : t.hau = s.hau := (congrArg State.hau h).trans rfl
theorem OnlyLink.hta {s t : State} (h : OnlyLink s t) : t.hta = s.hta := (congrArg State.hta h).trans rfl
theorem OnlyLink.pni {s t : State} (h : OnlyLink s t) : t.pni = s.pni := (congrArg State.pni h).trans rfl
theorem OnlyLink.sst {s t : State} (h : OnlyLink s t) : t.sst = s.sst := (congrArg State.sst h).trans rfl

theorem OnlyLink.locker {s t : State} (h : OnlyLink s t) (m : Nat) : t.locker m = s.locker m := (congrArg (fun x => State.locker x m) h).trans rfl
theorem OnlyLink.order {s t : State} (h : OnlyLink s t) (i : Nat) : t.order? i = s.order? i := (congrArg (fun x => State.order? x i) h).trans rfl
theorem OnlyLink.freeList {s t : State} (h : OnlyLink s t) (k : SizeClass) : t.freeList k = s.freeList k := (congrArg (fun x => State.freeList x k) h).trans rfl
theorem OnlyLink.params {s t : State} (h : OnlyLink s t) : t.params = s.params := (congrArg (fun x => State.params x) h).trans rfl
theorem OnlyLink.profile {s t : State} (h : OnlyLink s t) (i : Nat) : t.profile i = s.profile i := (congrArg (fun x => State.profile x i) h).trans rfl
theorem OnlyLink.feedEntry {s t : State} (h : OnlyLink s t) (f : Nat) : t.feedEntry f = s.feedEntry f := (congrArg (fun x => State.feedEntry x f) h).trans rfl
theorem OnlyLink.layoutEntry {s t : State} (h : OnlyLink s t) (m : Nat) : t.layoutEntry m = s.layoutEntry m := (congrArg (fun x => State.layoutEntry x m) h).trans rfl
theorem OnlyLink.discovering {s t : State} (h : OnlyLink s t) : t.discovering = s.discovering := (congrArg (fun x => State.discovering x) h).trans rfl
theorem OnlyLink.uptimeSeconds {s t : State} (h : OnlyLink s t) : t.uptimeSeconds = s.uptimeSeconds := (congrArg (fun x => State.uptimeSeconds x) h).trans rfl
theorem OnlyLink.uptime {s t : State} (h : OnlyLink s t) : t.uptime = s.uptime := (congrArg (fun x => State.uptime x) h).trans rfl
theorem OnlyLink.shedLine {s t : State} (h : OnlyLink s t) (f : Nat) : t.shedLine f = s.shedLine f := (congrArg (fun x => State.shedLine x f) h).trans rfl
theorem OnlyLink.isShed {s t : State} (h : OnlyLink s t) (f : Nat) : t.isShed f = s.isShed f := (congrArg (fun x => State.isShed x f) h).trans rfl
theorem OnlyLink.budget {s t : State} (h : OnlyLink s t) (f : Nat) : t.budget f = s.budget f := (congrArg (fun x => State.budget x f) h).trans rfl

theorem withLki_onlyLink (s : State) (x : Lki) : OnlyLink s (s.withLki x) := rfl
theorem setRx_onlyLink (s : State) (r : RxFramer) (g : Option Nat) : OnlyLink s (s.setRx r g) := rfl
theorem clearPorts_onlyLink (s : State) : OnlyLink s s.clearPorts := rfl
theorem emit_onlyLink (s : State) (e : PortEvent) : OnlyLink s (s.emit e) := rfl

/-! ### Reports -/

/-- A submission changes the report queue and the lost-report count, nothing else (R142, R143). -/
theorem submitTagged_eq (tag : Nat) (k : ReportKind) (fs : List Field) (s : State) :
    submitTagged tag k fs s =
      { s with lki := { s.lki with
          reportQ := (submitTagged tag k fs s).lki.reportQ
          lostReports := (submitTagged tag k fs s).lki.lostReports } } := by
  unfold submitTagged
  split
  · unfold enqueueReport
    split
    · rfl
    · split
      · rfl
      · split <;> rfl
  · rfl

theorem submit_eq (k : ReportKind) (fs : List Field) (s : State) :
    submit k fs s =
      { s with lki := { s.lki with
          reportQ := (submit k fs s).lki.reportQ, lostReports := (submit k fs s).lki.lostReports } } :=
  submitTagged_eq 0 k fs s

/-- REPORTS_LOST changes the report queue and the lost-report count, nothing else (R144). -/
theorem submitReportsLost_eq (s : State) :
    submitReportsLost s =
      { s with lki := { s.lki with
          reportQ := (submitReportsLost s).lki.reportQ, lostReports := (submitReportsLost s).lki.lostReports } } := by
  unfold submitReportsLost
  split
  · rfl
  · dsimp only
    rw [submit_eq]
    rfl

theorem submitTagged_onlyLink (tag : Nat) (k : ReportKind) (fs : List Field) (s : State) :
    OnlyLink s (submitTagged tag k fs s) := by
  unfold OnlyLink
  rw [submitTagged_eq]

theorem submit_onlyLink (k : ReportKind) (fs : List Field) (s : State) : OnlyLink s (submit k fs s) :=
  submitTagged_onlyLink 0 k fs s

theorem submitReportsLost_onlyLink (s : State) : OnlyLink s (submitReportsLost s) := by
  unfold OnlyLink
  rw [submitReportsLost_eq]

/-- A submission with room in the queue (R143). -/
theorem submitTagged_room (tag : Nat) (k : ReportKind) (fs : List Field) (s : State)
    (on : groupEnabled s.params k.group = true) (room : s.lki.reportQ.length < 32) :
    submitTagged tag k fs s =
      s.withLki { s.lki with reportQ := s.lki.reportQ ++ [⟨k, s.uptime, tag, fs⟩] } := by
  simp [submitTagged, on, enqueueReport, room]

theorem submit_room (k : ReportKind) (fs : List Field) (s : State)
    (on : groupEnabled s.params k.group = true) (room : s.lki.reportQ.length < 32) :
    submit k fs s = s.withLki { s.lki with reportQ := s.lki.reportQ ++ [⟨k, s.uptime, 0, fs⟩] } :=
  submitTagged_room 0 k fs s on room

/-- A masked report is not queued (R142, R174). -/
theorem submit_masked (k : ReportKind) (fs : List Field) (s : State)
    (off : groupEnabled s.params k.group = false) : submit k fs s = s := by
  simp [submit, submitTagged, off]

theorem dropOldestMaskable_length (q q' : List Report) (h : dropOldestMaskable q = some q') :
    q.length = q'.length + 1 := by
  induction q generalizing q' with
  | nil => simp [dropOldestMaskable] at h
  | cons r rest ih =>
    simp only [dropOldestMaskable] at h
    split at h
    · cases h; simp
    · simp only [Option.map_eq_some_iff] at h
      obtain ⟨x, hx, rfl⟩ := h
      simp [ih x hx]

/-- The report queue never grows past its 32 places (R143). -/
theorem enqueueReport_length (r : Report) (l : Lki) (h : l.reportQ.length ≤ 32) :
    (enqueueReport r l).reportQ.length ≤ 32 := by
  unfold enqueueReport
  split
  · simp; omega
  · split
    · exact h
    · split
      · rename_i q hq
        have := dropOldestMaskable_length _ _ hq
        simp; omega
      · exact h

theorem submitTagged_length (tag : Nat) (k : ReportKind) (fs : List Field) (s : State)
    (h : s.lki.reportQ.length ≤ 32) : (submitTagged tag k fs s).lki.reportQ.length ≤ 32 := by
  unfold submitTagged
  split
  · exact enqueueReport_length _ _ h
  · exact h

theorem submit_length (k : ReportKind) (fs : List Field) (s : State) (h : s.lki.reportQ.length ≤ 32) :
    (submit k fs s).lki.reportQ.length ≤ 32 := submitTagged_length 0 k fs s h

theorem submitReportsLost_length (s : State) (h : s.lki.reportQ.length ≤ 32) :
    (submitReportsLost s).lki.reportQ.length ≤ 32 := by
  unfold submitReportsLost
  split
  · exact h
  · exact submit_length _ _ _ h

/-! ### Answers and the transmit framer -/

theorem answer_onlyLink (k : Kind) (tag : Nat) (st : Status) (body : List Field) (s : State) :
    OnlyLink s (answer k tag st body s) := rfl

theorem answer_lki (k : Kind) (tag : Nat) (st : Status) (body : List Field) (s : State) :
    (answer k tag st body s).lki = { s.lki with answerQ := s.lki.answerQ ++ [⟨k, tag, st, body⟩] } := rfl

theorem beginTransmit_onlyLink (f : UpFrame) (s : State) : OnlyLink s (beginTransmit f s) := rfl

theorem chooseTransmit_onlyLink (s : State) : OnlyLink s (chooseTransmit s) := by
  unfold chooseTransmit
  split
  · rfl
  · split
    · rfl
    · split
      · exact (OnlyLink.trans (withLki_onlyLink _ _) (beginTransmit_onlyLink _ _)).trans (submitReportsLost_onlyLink _)
      · rfl

/-- A framer that sends, and a framer during island, begins nothing (R140). -/
theorem chooseTransmit_busy (s : State) (h : s.lki.tx ≠ none ∨ s.lki.island = true) : chooseTransmit s = s := by
  unfold chooseTransmit
  rw [if_pos]
  rcases h with h | h
  · simp [Option.isSome_iff_ne_none, h]
  · simp [h]

/-- An idle framer outside island takes the oldest answer and releases its place (R136, R140). -/
theorem chooseTransmit_answer (s : State) (a : Answer) (rest : List Answer)
    (htx : s.lki.tx = none) (hi : s.lki.island = false) (hq : s.lki.answerQ = a :: rest) :
    chooseTransmit s =
      (s.withLki { s.lki with
        tx := some (.answer a), answerQ := rest, placesHeld := s.lki.placesHeld - 1 }).emit (.link (.answer a)) := by
  simp [chooseTransmit, htx, hi, hq, beginTransmit, State.withLki, State.emit]

/-- With no answer waiting it takes the oldest report, and REPORTS_LOST follows where reports were lost (R140, R144). -/
theorem chooseTransmit_report (s : State) (r : Report) (rest : List Report)
    (htx : s.lki.tx = none) (hi : s.lki.island = false) (ha : s.lki.answerQ = []) (hq : s.lki.reportQ = r :: rest) :
    chooseTransmit s =
      submitReportsLost (beginTransmit (.report r) (s.withLki { s.lki with reportQ := rest })) := by
  simp [chooseTransmit, htx, hi, ha, hq]

theorem chooseTransmit_empty (s : State) (ha : s.lki.answerQ = []) (hr : s.lki.reportQ = []) :
    chooseTransmit s = s := by
  unfold chooseTransmit
  rw [ha, hr]
  split <;> rfl

/-! ### Taking a frame -/

theorem discardFrame_onlyLink (c : LinkError) (s : State) : OnlyLink s (discardFrame c s) := rfl

theorem hearValidFrame_onlyLink (s : State) : OnlyLink s (hearValidFrame s) := by
  unfold hearValidFrame
  dsimp only
  split
  · exact (OnlyLink.trans (withLki_onlyLink _ _) (withLki_onlyLink _ _)).trans (submit_onlyLink _ _ _)
  · rfl

theorem heard_onlyLink (s : State) : OnlyLink s s.heard := (clearPorts_onlyLink s).trans (hearValidFrame_onlyLink _)

theorem accepted_onlyLink (s : State) : OnlyLink s s.accepted := (heard_onlyLink s).trans (withLki_onlyLink _ _)

/-- Hearing a valid frame touches the silence timer, the island fields and the reports only (R134, R145, R147). -/
theorem heard_eq (s : State) :
    s.heard =
      { s with
        ports := []
        lki := { s.lki with
          silenceTimer := s.lki.silenceTimer.map fun _ => 0
          island := false
          islandStart := s.heard.lki.islandStart
          reportQ := s.heard.lki.reportQ
          lostReports := s.heard.lki.lostReports } } := by
  unfold State.heard hearValidFrame
  dsimp only
  split
  · rw [submit_eq]
    rfl
  · rename_i h
    simp only [State.withLki, State.clearPorts, Bool.not_eq_true] at h ⊢
    simp [h]

@[simp] theorem heard_ports (s : State) : s.heard.ports = [] := by rw [heard_eq]
@[simp] theorem heard_placesHeld (s : State) : s.heard.lki.placesHeld = s.lki.placesHeld := by rw [heard_eq]
@[simp] theorem heard_answerQ (s : State) : s.heard.lki.answerQ = s.lki.answerQ := by rw [heard_eq]
@[simp] theorem heard_island (s : State) : s.heard.lki.island = false := by rw [heard_eq]
@[simp] theorem heard_tx (s : State) : s.heard.lki.tx = s.lki.tx := by rw [heard_eq]
@[simp] theorem accepted_ports (s : State) : s.accepted.ports = [] := heard_ports s
@[simp] theorem accepted_placesHeld (s : State) : s.accepted.lki.placesHeld = s.lki.placesHeld + 1 := by
  simp [State.accepted]
@[simp] theorem accepted_answerQ (s : State) : s.accepted.lki.answerQ = s.lki.answerQ := heard_answerQ s
@[simp] theorem accepted_island (s : State) : s.accepted.lki.island = false := heard_island s
@[simp] theorem accepted_tx (s : State) : s.accepted.lki.tx = s.lki.tx := heard_tx s

/-- A request that finds a free place is served in the accepted state (R136). -/
theorem takeRequest_free (serve : State → State) (s : State) (h : s.lki.placesHeld < 32) :
    takeRequest serve s = chooseTransmit (serve s.accepted) := by
  simp [takeRequest, Nat.not_le.mpr h]

/-- A request that finds no free place is discarded (R136). -/
theorem takeRequest_full (serve : State → State) (s : State) (h : 32 ≤ s.lki.placesHeld) :
    takeRequest serve s = chooseTransmit (discardFrame .overrun s.heard) := by
  simp [takeRequest, h]

/-! ### No other unit is touched -/

@[simp] theorem submitTagged_pending (tag : Nat) (k : ReportKind) (fs : List Field) (s : State) : (submitTagged tag k fs s).pending = s.pending := (submitTagged_onlyLink _ _ _ _).pending
@[simp] theorem submitTagged_upMs (tag : Nat) (k : ReportKind) (fs : List Field) (s : State) : (submitTagged tag k fs s).upMs = s.upMs := (submitTagged_onlyLink _ _ _ _).upMs
@[simp] theorem submitTagged_shedLines (tag : Nat) (k : ReportKind) (fs : List Field) (s : State) : (submitTagged tag k fs s).shedLines = s.shedLines := (submitTagged_onlyLink _ _ _ _).shedLines
@[simp] theorem submitTagged_txu (tag : Nat) (k : ReportKind) (fs : List Field) (s : State) : (submitTagged tag k fs s).txu = s.txu := (submitTagged_onlyLink _ _ _ _).txu
@[simp] theorem submitTagged_bbm (tag : Nat) (k : ReportKind) (fs : List Field) (s : State) : (submitTagged tag k fs s).bbm = s.bbm := (submitTagged_onlyLink _ _ _ _).bbm
@[simp] theorem submitTagged_ltu (tag : Nat) (k : ReportKind) (fs : List Field) (s : State) : (submitTagged tag k fs s).ltu = s.ltu := (submitTagged_onlyLink _ _ _ _).ltu
@[simp] theorem submitTagged_oru (tag : Nat) (k : ReportKind) (fs : List Field) (s : State) : (submitTagged tag k fs s).oru = s.oru := (submitTagged_onlyLink _ _ _ _).oru
@[simp] theorem submitTagged_hau (tag : Nat) (k : ReportKind) (fs : List Field) (s : State) : (submitTagged tag k fs s).hau = s.hau := (submitTagged_onlyLink _ _ _ _).hau
@[simp] theorem submitTagged_hta (tag : Nat) (k : ReportKind) (fs : List Field) (s : State) : (submitTagged tag k fs s).hta = s.hta := (submitTagged_onlyLink _ _ _ _).hta
@[simp] theorem submitTagged_pni (tag : Nat) (k : ReportKind) (fs : List Field) (s : State) : (submitTagged tag k fs s).pni = s.pni := (submitTagged_onlyLink _ _ _ _).pni
@[simp] theorem submitTagged_sst (tag : Nat) (k : ReportKind) (fs : List Field) (s : State) : (submitTagged tag k fs s).sst = s.sst := (submitTagged_onlyLink _ _ _ _).sst
@[simp] theorem submitTagged_locker (tag : Nat) (k : ReportKind) (fs : List Field) (s : State) (m : Nat) : (submitTagged tag k fs s).locker m = s.locker m := (submitTagged_onlyLink _ _ _ _).locker m
@[simp] theorem submitTagged_order (tag : Nat) (k : ReportKind) (fs : List Field) (s : State) (i : Nat) : (submitTagged tag k fs s).order? i = s.order? i := (submitTagged_onlyLink _ _ _ _).order i
@[simp] theorem submitTagged_freeList (tag : Nat) (k : ReportKind) (fs : List Field) (s : State) (j : SizeClass) : (submitTagged tag k fs s).freeList j = s.freeList j := (submitTagged_onlyLink _ _ _ _).freeList j
@[simp] theorem submitTagged_params (tag : Nat) (k : ReportKind) (fs : List Field) (s : State) : (submitTagged tag k fs s).params = s.params := (submitTagged_onlyLink _ _ _ _).params
@[simp] theorem submitTagged_profile (tag : Nat) (k : ReportKind) (fs : List Field) (s : State) (i : Nat) : (submitTagged tag k fs s).profile i = s.profile i := (submitTagged_onlyLink _ _ _ _).profile i
@[simp] theorem submitTagged_feedEntry (tag : Nat) (k : ReportKind) (fs : List Field) (s : State) (f : Nat) : (submitTagged tag k fs s).feedEntry f = s.feedEntry f := (submitTagged_onlyLink _ _ _ _).feedEntry f
@[simp] theorem submitTagged_layoutEntry (tag : Nat) (k : ReportKind) (fs : List Field) (s : State) (m : Nat) : (submitTagged tag k fs s).layoutEntry m = s.layoutEntry m := (submitTagged_onlyLink _ _ _ _).layoutEntry m
@[simp] theorem submitTagged_discovering (tag : Nat) (k : ReportKind) (fs : List Field) (s : State) : (submitTagged tag k fs s).discovering = s.discovering := (submitTagged_onlyLink _ _ _ _).discovering
@[simp] theorem submitTagged_uptimeSeconds (tag : Nat) (k : ReportKind) (fs : List Field) (s : State) : (submitTagged tag k fs s).uptimeSeconds = s.uptimeSeconds := (submitTagged_onlyLink _ _ _ _).uptimeSeconds
@[simp] theorem submitTagged_uptime (tag : Nat) (k : ReportKind) (fs : List Field) (s : State) : (submitTagged tag k fs s).uptime = s.uptime := (submitTagged_onlyLink _ _ _ _).uptime
@[simp] theorem submitTagged_shedLine (tag : Nat) (k : ReportKind) (fs : List Field) (s : State) (f : Nat) : (submitTagged tag k fs s).shedLine f = s.shedLine f := (submitTagged_onlyLink _ _ _ _).shedLine f
@[simp] theorem submitTagged_isShed (tag : Nat) (k : ReportKind) (fs : List Field) (s : State) (f : Nat) : (submitTagged tag k fs s).isShed f = s.isShed f := (submitTagged_onlyLink _ _ _ _).isShed f
@[simp] theorem submitTagged_budget (tag : Nat) (k : ReportKind) (fs : List Field) (s : State) (f : Nat) : (submitTagged tag k fs s).budget f = s.budget f := (submitTagged_onlyLink _ _ _ _).budget f

@[simp] theorem submit_pending (k : ReportKind) (fs : List Field) (s : State) : (submit k fs s).pending = s.pending := (submit_onlyLink _ _ _).pending
@[simp] theorem submit_upMs (k : ReportKind) (fs : List Field) (s : State) : (submit k fs s).upMs = s.upMs := (submit_onlyLink _ _ _).upMs
@[simp] theorem submit_shedLines (k : ReportKind) (fs : List Field) (s : State) : (submit k fs s).shedLines = s.shedLines := (submit_onlyLink _ _ _).shedLines
@[simp] theorem submit_txu (k : ReportKind) (fs : List Field) (s : State) : (submit k fs s).txu = s.txu := (submit_onlyLink _ _ _).txu
@[simp] theorem submit_bbm (k : ReportKind) (fs : List Field) (s : State) : (submit k fs s).bbm = s.bbm := (submit_onlyLink _ _ _).bbm
@[simp] theorem submit_ltu (k : ReportKind) (fs : List Field) (s : State) : (submit k fs s).ltu = s.ltu := (submit_onlyLink _ _ _).ltu
@[simp] theorem submit_oru (k : ReportKind) (fs : List Field) (s : State) : (submit k fs s).oru = s.oru := (submit_onlyLink _ _ _).oru
@[simp] theorem submit_hau (k : ReportKind) (fs : List Field) (s : State) : (submit k fs s).hau = s.hau := (submit_onlyLink _ _ _).hau
@[simp] theorem submit_hta (k : ReportKind) (fs : List Field) (s : State) : (submit k fs s).hta = s.hta := (submit_onlyLink _ _ _).hta
@[simp] theorem submit_pni (k : ReportKind) (fs : List Field) (s : State) : (submit k fs s).pni = s.pni := (submit_onlyLink _ _ _).pni
@[simp] theorem submit_sst (k : ReportKind) (fs : List Field) (s : State) : (submit k fs s).sst = s.sst := (submit_onlyLink _ _ _).sst
@[simp] theorem submit_locker (k : ReportKind) (fs : List Field) (s : State) (m : Nat) : (submit k fs s).locker m = s.locker m := (submit_onlyLink _ _ _).locker m
@[simp] theorem submit_order (k : ReportKind) (fs : List Field) (s : State) (i : Nat) : (submit k fs s).order? i = s.order? i := (submit_onlyLink _ _ _).order i
@[simp] theorem submit_freeList (k : ReportKind) (fs : List Field) (s : State) (j : SizeClass) : (submit k fs s).freeList j = s.freeList j := (submit_onlyLink _ _ _).freeList j
@[simp] theorem submit_params (k : ReportKind) (fs : List Field) (s : State) : (submit k fs s).params = s.params := (submit_onlyLink _ _ _).params
@[simp] theorem submit_profile (k : ReportKind) (fs : List Field) (s : State) (i : Nat) : (submit k fs s).profile i = s.profile i := (submit_onlyLink _ _ _).profile i
@[simp] theorem submit_feedEntry (k : ReportKind) (fs : List Field) (s : State) (f : Nat) : (submit k fs s).feedEntry f = s.feedEntry f := (submit_onlyLink _ _ _).feedEntry f
@[simp] theorem submit_layoutEntry (k : ReportKind) (fs : List Field) (s : State) (m : Nat) : (submit k fs s).layoutEntry m = s.layoutEntry m := (submit_onlyLink _ _ _).layoutEntry m
@[simp] theorem submit_discovering (k : ReportKind) (fs : List Field) (s : State) : (submit k fs s).discovering = s.discovering := (submit_onlyLink _ _ _).discovering
@[simp] theorem submit_uptimeSeconds (k : ReportKind) (fs : List Field) (s : State) : (submit k fs s).uptimeSeconds = s.uptimeSeconds := (submit_onlyLink _ _ _).uptimeSeconds
@[simp] theorem submit_uptime (k : ReportKind) (fs : List Field) (s : State) : (submit k fs s).uptime = s.uptime := (submit_onlyLink _ _ _).uptime
@[simp] theorem submit_shedLine (k : ReportKind) (fs : List Field) (s : State) (f : Nat) : (submit k fs s).shedLine f = s.shedLine f := (submit_onlyLink _ _ _).shedLine f
@[simp] theorem submit_isShed (k : ReportKind) (fs : List Field) (s : State) (f : Nat) : (submit k fs s).isShed f = s.isShed f := (submit_onlyLink _ _ _).isShed f
@[simp] theorem submit_budget (k : ReportKind) (fs : List Field) (s : State) (f : Nat) : (submit k fs s).budget f = s.budget f := (submit_onlyLink _ _ _).budget f

@[simp] theorem submitReportsLost_pending (s : State) : (submitReportsLost s).pending = s.pending := (submitReportsLost_onlyLink _).pending
@[simp] theorem submitReportsLost_upMs (s : State) : (submitReportsLost s).upMs = s.upMs := (submitReportsLost_onlyLink _).upMs
@[simp] theorem submitReportsLost_shedLines (s : State) : (submitReportsLost s).shedLines = s.shedLines := (submitReportsLost_onlyLink _).shedLines
@[simp] theorem submitReportsLost_txu (s : State) : (submitReportsLost s).txu = s.txu := (submitReportsLost_onlyLink _).txu
@[simp] theorem submitReportsLost_bbm (s : State) : (submitReportsLost s).bbm = s.bbm := (submitReportsLost_onlyLink _).bbm
@[simp] theorem submitReportsLost_ltu (s : State) : (submitReportsLost s).ltu = s.ltu := (submitReportsLost_onlyLink _).ltu
@[simp] theorem submitReportsLost_oru (s : State) : (submitReportsLost s).oru = s.oru := (submitReportsLost_onlyLink _).oru
@[simp] theorem submitReportsLost_hau (s : State) : (submitReportsLost s).hau = s.hau := (submitReportsLost_onlyLink _).hau
@[simp] theorem submitReportsLost_hta (s : State) : (submitReportsLost s).hta = s.hta := (submitReportsLost_onlyLink _).hta
@[simp] theorem submitReportsLost_pni (s : State) : (submitReportsLost s).pni = s.pni := (submitReportsLost_onlyLink _).pni
@[simp] theorem submitReportsLost_sst (s : State) : (submitReportsLost s).sst = s.sst := (submitReportsLost_onlyLink _).sst
@[simp] theorem submitReportsLost_locker (s : State) (m : Nat) : (submitReportsLost s).locker m = s.locker m := (submitReportsLost_onlyLink _).locker m
@[simp] theorem submitReportsLost_order (s : State) (i : Nat) : (submitReportsLost s).order? i = s.order? i := (submitReportsLost_onlyLink _).order i
@[simp] theorem submitReportsLost_freeList (s : State) (k : SizeClass) : (submitReportsLost s).freeList k = s.freeList k := (submitReportsLost_onlyLink _).freeList k
@[simp] theorem submitReportsLost_params (s : State) : (submitReportsLost s).params = s.params := (submitReportsLost_onlyLink _).params
@[simp] theorem submitReportsLost_profile (s : State) (i : Nat) : (submitReportsLost s).profile i = s.profile i := (submitReportsLost_onlyLink _).profile i
@[simp] theorem submitReportsLost_feedEntry (s : State) (f : Nat) : (submitReportsLost s).feedEntry f = s.feedEntry f := (submitReportsLost_onlyLink _).feedEntry f
@[simp] theorem submitReportsLost_layoutEntry (s : State) (m : Nat) : (submitReportsLost s).layoutEntry m = s.layoutEntry m := (submitReportsLost_onlyLink _).layoutEntry m
@[simp] theorem submitReportsLost_discovering (s : State) : (submitReportsLost s).discovering = s.discovering := (submitReportsLost_onlyLink _).discovering
@[simp] theorem submitReportsLost_uptimeSeconds (s : State) : (submitReportsLost s).uptimeSeconds = s.uptimeSeconds := (submitReportsLost_onlyLink _).uptimeSeconds
@[simp] theorem submitReportsLost_uptime (s : State) : (submitReportsLost s).uptime = s.uptime := (submitReportsLost_onlyLink _).uptime
@[simp] theorem submitReportsLost_shedLine (s : State) (f : Nat) : (submitReportsLost s).shedLine f = s.shedLine f := (submitReportsLost_onlyLink _).shedLine f
@[simp] theorem submitReportsLost_isShed (s : State) (f : Nat) : (submitReportsLost s).isShed f = s.isShed f := (submitReportsLost_onlyLink _).isShed f
@[simp] theorem submitReportsLost_budget (s : State) (f : Nat) : (submitReportsLost s).budget f = s.budget f := (submitReportsLost_onlyLink _).budget f

@[simp] theorem answer_pending (k : Kind) (tag : Nat) (st : Status) (body : List Field) (s : State) : (answer k tag st body s).pending = s.pending := (answer_onlyLink _ _ _ _ _).pending
@[simp] theorem answer_upMs (k : Kind) (tag : Nat) (st : Status) (body : List Field) (s : State) : (answer k tag st body s).upMs = s.upMs := (answer_onlyLink _ _ _ _ _).upMs
@[simp] theorem answer_shedLines (k : Kind) (tag : Nat) (st : Status) (body : List Field) (s : State) : (answer k tag st body s).shedLines = s.shedLines := (answer_onlyLink _ _ _ _ _).shedLines
@[simp] theorem answer_txu (k : Kind) (tag : Nat) (st : Status) (body : List Field) (s : State) : (answer k tag st body s).txu = s.txu := (answer_onlyLink _ _ _ _ _).txu
@[simp] theorem answer_bbm (k : Kind) (tag : Nat) (st : Status) (body : List Field) (s : State) : (answer k tag st body s).bbm = s.bbm := (answer_onlyLink _ _ _ _ _).bbm
@[simp] theorem answer_ltu (k : Kind) (tag : Nat) (st : Status) (body : List Field) (s : State) : (answer k tag st body s).ltu = s.ltu := (answer_onlyLink _ _ _ _ _).ltu
@[simp] theorem answer_oru (k : Kind) (tag : Nat) (st : Status) (body : List Field) (s : State) : (answer k tag st body s).oru = s.oru := (answer_onlyLink _ _ _ _ _).oru
@[simp] theorem answer_hau (k : Kind) (tag : Nat) (st : Status) (body : List Field) (s : State) : (answer k tag st body s).hau = s.hau := (answer_onlyLink _ _ _ _ _).hau
@[simp] theorem answer_hta (k : Kind) (tag : Nat) (st : Status) (body : List Field) (s : State) : (answer k tag st body s).hta = s.hta := (answer_onlyLink _ _ _ _ _).hta
@[simp] theorem answer_pni (k : Kind) (tag : Nat) (st : Status) (body : List Field) (s : State) : (answer k tag st body s).pni = s.pni := (answer_onlyLink _ _ _ _ _).pni
@[simp] theorem answer_sst (k : Kind) (tag : Nat) (st : Status) (body : List Field) (s : State) : (answer k tag st body s).sst = s.sst := (answer_onlyLink _ _ _ _ _).sst
@[simp] theorem answer_locker (k : Kind) (tag : Nat) (st : Status) (body : List Field) (s : State) (m : Nat) : (answer k tag st body s).locker m = s.locker m := (answer_onlyLink _ _ _ _ _).locker m
@[simp] theorem answer_order (k : Kind) (tag : Nat) (st : Status) (body : List Field) (s : State) (i : Nat) : (answer k tag st body s).order? i = s.order? i := (answer_onlyLink _ _ _ _ _).order i
@[simp] theorem answer_freeList (k : Kind) (tag : Nat) (st : Status) (body : List Field) (s : State) (j : SizeClass) : (answer k tag st body s).freeList j = s.freeList j := (answer_onlyLink _ _ _ _ _).freeList j
@[simp] theorem answer_params (k : Kind) (tag : Nat) (st : Status) (body : List Field) (s : State) : (answer k tag st body s).params = s.params := (answer_onlyLink _ _ _ _ _).params
@[simp] theorem answer_profile (k : Kind) (tag : Nat) (st : Status) (body : List Field) (s : State) (i : Nat) : (answer k tag st body s).profile i = s.profile i := (answer_onlyLink _ _ _ _ _).profile i
@[simp] theorem answer_feedEntry (k : Kind) (tag : Nat) (st : Status) (body : List Field) (s : State) (f : Nat) : (answer k tag st body s).feedEntry f = s.feedEntry f := (answer_onlyLink _ _ _ _ _).feedEntry f
@[simp] theorem answer_layoutEntry (k : Kind) (tag : Nat) (st : Status) (body : List Field) (s : State) (m : Nat) : (answer k tag st body s).layoutEntry m = s.layoutEntry m := (answer_onlyLink _ _ _ _ _).layoutEntry m
@[simp] theorem answer_discovering (k : Kind) (tag : Nat) (st : Status) (body : List Field) (s : State) : (answer k tag st body s).discovering = s.discovering := (answer_onlyLink _ _ _ _ _).discovering
@[simp] theorem answer_uptimeSeconds (k : Kind) (tag : Nat) (st : Status) (body : List Field) (s : State) : (answer k tag st body s).uptimeSeconds = s.uptimeSeconds := (answer_onlyLink _ _ _ _ _).uptimeSeconds
@[simp] theorem answer_uptime (k : Kind) (tag : Nat) (st : Status) (body : List Field) (s : State) : (answer k tag st body s).uptime = s.uptime := (answer_onlyLink _ _ _ _ _).uptime
@[simp] theorem answer_shedLine (k : Kind) (tag : Nat) (st : Status) (body : List Field) (s : State) (f : Nat) : (answer k tag st body s).shedLine f = s.shedLine f := (answer_onlyLink _ _ _ _ _).shedLine f
@[simp] theorem answer_isShed (k : Kind) (tag : Nat) (st : Status) (body : List Field) (s : State) (f : Nat) : (answer k tag st body s).isShed f = s.isShed f := (answer_onlyLink _ _ _ _ _).isShed f
@[simp] theorem answer_budget (k : Kind) (tag : Nat) (st : Status) (body : List Field) (s : State) (f : Nat) : (answer k tag st body s).budget f = s.budget f := (answer_onlyLink _ _ _ _ _).budget f

@[simp] theorem beginTransmit_pending (f : UpFrame) (s : State) : (beginTransmit f s).pending = s.pending := (beginTransmit_onlyLink _ _).pending
@[simp] theorem beginTransmit_upMs (f : UpFrame) (s : State) : (beginTransmit f s).upMs = s.upMs := (beginTransmit_onlyLink _ _).upMs
@[simp] theorem beginTransmit_shedLines (f : UpFrame) (s : State) : (beginTransmit f s).shedLines = s.shedLines := (beginTransmit_onlyLink _ _).shedLines
@[simp] theorem beginTransmit_txu (f : UpFrame) (s : State) : (beginTransmit f s).txu = s.txu := (beginTransmit_onlyLink _ _).txu
@[simp] theorem beginTransmit_bbm (f : UpFrame) (s : State) : (beginTransmit f s).bbm = s.bbm := (beginTransmit_onlyLink _ _).bbm
@[simp] theorem beginTransmit_ltu (f : UpFrame) (s : State) : (beginTransmit f s).ltu = s.ltu := (beginTransmit_onlyLink _ _).ltu
@[simp] theorem beginTransmit_oru (f : UpFrame) (s : State) : (beginTransmit f s).oru = s.oru := (beginTransmit_onlyLink _ _).oru
@[simp] theorem beginTransmit_hau (f : UpFrame) (s : State) : (beginTransmit f s).hau = s.hau := (beginTransmit_onlyLink _ _).hau
@[simp] theorem beginTransmit_hta (f : UpFrame) (s : State) : (beginTransmit f s).hta = s.hta := (beginTransmit_onlyLink _ _).hta
@[simp] theorem beginTransmit_pni (f : UpFrame) (s : State) : (beginTransmit f s).pni = s.pni := (beginTransmit_onlyLink _ _).pni
@[simp] theorem beginTransmit_sst (f : UpFrame) (s : State) : (beginTransmit f s).sst = s.sst := (beginTransmit_onlyLink _ _).sst
@[simp] theorem beginTransmit_locker (f : UpFrame) (s : State) (m : Nat) : (beginTransmit f s).locker m = s.locker m := (beginTransmit_onlyLink _ _).locker m
@[simp] theorem beginTransmit_order (f : UpFrame) (s : State) (i : Nat) : (beginTransmit f s).order? i = s.order? i := (beginTransmit_onlyLink _ _).order i
@[simp] theorem beginTransmit_freeList (f : UpFrame) (s : State) (k : SizeClass) : (beginTransmit f s).freeList k = s.freeList k := (beginTransmit_onlyLink _ _).freeList k
@[simp] theorem beginTransmit_params (f : UpFrame) (s : State) : (beginTransmit f s).params = s.params := (beginTransmit_onlyLink _ _).params
@[simp] theorem beginTransmit_profile (f : UpFrame) (s : State) (i : Nat) : (beginTransmit f s).profile i = s.profile i := (beginTransmit_onlyLink _ _).profile i
@[simp] theorem beginTransmit_feedEntry (f : UpFrame) (s : State) (j : Nat) : (beginTransmit f s).feedEntry j = s.feedEntry j := (beginTransmit_onlyLink _ _).feedEntry j
@[simp] theorem beginTransmit_layoutEntry (f : UpFrame) (s : State) (m : Nat) : (beginTransmit f s).layoutEntry m = s.layoutEntry m := (beginTransmit_onlyLink _ _).layoutEntry m
@[simp] theorem beginTransmit_discovering (f : UpFrame) (s : State) : (beginTransmit f s).discovering = s.discovering := (beginTransmit_onlyLink _ _).discovering
@[simp] theorem beginTransmit_uptimeSeconds (f : UpFrame) (s : State) : (beginTransmit f s).uptimeSeconds = s.uptimeSeconds := (beginTransmit_onlyLink _ _).uptimeSeconds
@[simp] theorem beginTransmit_uptime (f : UpFrame) (s : State) : (beginTransmit f s).uptime = s.uptime := (beginTransmit_onlyLink _ _).uptime
@[simp] theorem beginTransmit_shedLine (f : UpFrame) (s : State) (j : Nat) : (beginTransmit f s).shedLine j = s.shedLine j := (beginTransmit_onlyLink _ _).shedLine j
@[simp] theorem beginTransmit_isShed (f : UpFrame) (s : State) (j : Nat) : (beginTransmit f s).isShed j = s.isShed j := (beginTransmit_onlyLink _ _).isShed j
@[simp] theorem beginTransmit_budget (f : UpFrame) (s : State) (j : Nat) : (beginTransmit f s).budget j = s.budget j := (beginTransmit_onlyLink _ _).budget j

@[simp] theorem chooseTransmit_pending (s : State) : (chooseTransmit s).pending = s.pending := (chooseTransmit_onlyLink _).pending
@[simp] theorem chooseTransmit_upMs (s : State) : (chooseTransmit s).upMs = s.upMs := (chooseTransmit_onlyLink _).upMs
@[simp] theorem chooseTransmit_shedLines (s : State) : (chooseTransmit s).shedLines = s.shedLines := (chooseTransmit_onlyLink _).shedLines
@[simp] theorem chooseTransmit_txu (s : State) : (chooseTransmit s).txu = s.txu := (chooseTransmit_onlyLink _).txu
@[simp] theorem chooseTransmit_bbm (s : State) : (chooseTransmit s).bbm = s.bbm := (chooseTransmit_onlyLink _).bbm
@[simp] theorem chooseTransmit_ltu (s : State) : (chooseTransmit s).ltu = s.ltu := (chooseTransmit_onlyLink _).ltu
@[simp] theorem chooseTransmit_oru (s : State) : (chooseTransmit s).oru = s.oru := (chooseTransmit_onlyLink _).oru
@[simp] theorem chooseTransmit_hau (s : State) : (chooseTransmit s).hau = s.hau := (chooseTransmit_onlyLink _).hau
@[simp] theorem chooseTransmit_hta (s : State) : (chooseTransmit s).hta = s.hta := (chooseTransmit_onlyLink _).hta
@[simp] theorem chooseTransmit_pni (s : State) : (chooseTransmit s).pni = s.pni := (chooseTransmit_onlyLink _).pni
@[simp] theorem chooseTransmit_sst (s : State) : (chooseTransmit s).sst = s.sst := (chooseTransmit_onlyLink _).sst
@[simp] theorem chooseTransmit_locker (s : State) (m : Nat) : (chooseTransmit s).locker m = s.locker m := (chooseTransmit_onlyLink _).locker m
@[simp] theorem chooseTransmit_order (s : State) (i : Nat) : (chooseTransmit s).order? i = s.order? i := (chooseTransmit_onlyLink _).order i
@[simp] theorem chooseTransmit_freeList (s : State) (k : SizeClass) : (chooseTransmit s).freeList k = s.freeList k := (chooseTransmit_onlyLink _).freeList k
@[simp] theorem chooseTransmit_params (s : State) : (chooseTransmit s).params = s.params := (chooseTransmit_onlyLink _).params
@[simp] theorem chooseTransmit_profile (s : State) (i : Nat) : (chooseTransmit s).profile i = s.profile i := (chooseTransmit_onlyLink _).profile i
@[simp] theorem chooseTransmit_feedEntry (s : State) (f : Nat) : (chooseTransmit s).feedEntry f = s.feedEntry f := (chooseTransmit_onlyLink _).feedEntry f
@[simp] theorem chooseTransmit_layoutEntry (s : State) (m : Nat) : (chooseTransmit s).layoutEntry m = s.layoutEntry m := (chooseTransmit_onlyLink _).layoutEntry m
@[simp] theorem chooseTransmit_discovering (s : State) : (chooseTransmit s).discovering = s.discovering := (chooseTransmit_onlyLink _).discovering
@[simp] theorem chooseTransmit_uptimeSeconds (s : State) : (chooseTransmit s).uptimeSeconds = s.uptimeSeconds := (chooseTransmit_onlyLink _).uptimeSeconds
@[simp] theorem chooseTransmit_uptime (s : State) : (chooseTransmit s).uptime = s.uptime := (chooseTransmit_onlyLink _).uptime
@[simp] theorem chooseTransmit_shedLine (s : State) (f : Nat) : (chooseTransmit s).shedLine f = s.shedLine f := (chooseTransmit_onlyLink _).shedLine f
@[simp] theorem chooseTransmit_isShed (s : State) (f : Nat) : (chooseTransmit s).isShed f = s.isShed f := (chooseTransmit_onlyLink _).isShed f
@[simp] theorem chooseTransmit_budget (s : State) (f : Nat) : (chooseTransmit s).budget f = s.budget f := (chooseTransmit_onlyLink _).budget f

@[simp] theorem discardFrame_pending (c : LinkError) (s : State) : (discardFrame c s).pending = s.pending := (discardFrame_onlyLink _ _).pending
@[simp] theorem discardFrame_upMs (c : LinkError) (s : State) : (discardFrame c s).upMs = s.upMs := (discardFrame_onlyLink _ _).upMs
@[simp] theorem discardFrame_shedLines (c : LinkError) (s : State) : (discardFrame c s).shedLines = s.shedLines := (discardFrame_onlyLink _ _).shedLines
@[simp] theorem discardFrame_txu (c : LinkError) (s : State) : (discardFrame c s).txu = s.txu := (discardFrame_onlyLink _ _).txu
@[simp] theorem discardFrame_bbm (c : LinkError) (s : State) : (discardFrame c s).bbm = s.bbm := (discardFrame_onlyLink _ _).bbm
@[simp] theorem discardFrame_ltu (c : LinkError) (s : State) : (discardFrame c s).ltu = s.ltu := (discardFrame_onlyLink _ _).ltu
@[simp] theorem discardFrame_oru (c : LinkError) (s : State) : (discardFrame c s).oru = s.oru := (discardFrame_onlyLink _ _).oru
@[simp] theorem discardFrame_hau (c : LinkError) (s : State) : (discardFrame c s).hau = s.hau := (discardFrame_onlyLink _ _).hau
@[simp] theorem discardFrame_hta (c : LinkError) (s : State) : (discardFrame c s).hta = s.hta := (discardFrame_onlyLink _ _).hta
@[simp] theorem discardFrame_pni (c : LinkError) (s : State) : (discardFrame c s).pni = s.pni := (discardFrame_onlyLink _ _).pni
@[simp] theorem discardFrame_sst (c : LinkError) (s : State) : (discardFrame c s).sst = s.sst := (discardFrame_onlyLink _ _).sst
@[simp] theorem discardFrame_locker (c : LinkError) (s : State) (m : Nat) : (discardFrame c s).locker m = s.locker m := (discardFrame_onlyLink _ _).locker m
@[simp] theorem discardFrame_order (c : LinkError) (s : State) (i : Nat) : (discardFrame c s).order? i = s.order? i := (discardFrame_onlyLink _ _).order i
@[simp] theorem discardFrame_freeList (c : LinkError) (s : State) (k : SizeClass) : (discardFrame c s).freeList k = s.freeList k := (discardFrame_onlyLink _ _).freeList k
@[simp] theorem discardFrame_params (c : LinkError) (s : State) : (discardFrame c s).params = s.params := (discardFrame_onlyLink _ _).params
@[simp] theorem discardFrame_profile (c : LinkError) (s : State) (i : Nat) : (discardFrame c s).profile i = s.profile i := (discardFrame_onlyLink _ _).profile i
@[simp] theorem discardFrame_feedEntry (c : LinkError) (s : State) (f : Nat) : (discardFrame c s).feedEntry f = s.feedEntry f := (discardFrame_onlyLink _ _).feedEntry f
@[simp] theorem discardFrame_layoutEntry (c : LinkError) (s : State) (m : Nat) : (discardFrame c s).layoutEntry m = s.layoutEntry m := (discardFrame_onlyLink _ _).layoutEntry m
@[simp] theorem discardFrame_discovering (c : LinkError) (s : State) : (discardFrame c s).discovering = s.discovering := (discardFrame_onlyLink _ _).discovering
@[simp] theorem discardFrame_uptimeSeconds (c : LinkError) (s : State) : (discardFrame c s).uptimeSeconds = s.uptimeSeconds := (discardFrame_onlyLink _ _).uptimeSeconds
@[simp] theorem discardFrame_uptime (c : LinkError) (s : State) : (discardFrame c s).uptime = s.uptime := (discardFrame_onlyLink _ _).uptime
@[simp] theorem discardFrame_shedLine (c : LinkError) (s : State) (f : Nat) : (discardFrame c s).shedLine f = s.shedLine f := (discardFrame_onlyLink _ _).shedLine f
@[simp] theorem discardFrame_isShed (c : LinkError) (s : State) (f : Nat) : (discardFrame c s).isShed f = s.isShed f := (discardFrame_onlyLink _ _).isShed f
@[simp] theorem discardFrame_budget (c : LinkError) (s : State) (f : Nat) : (discardFrame c s).budget f = s.budget f := (discardFrame_onlyLink _ _).budget f

@[simp] theorem heard_pending (s : State) : (State.heard s).pending = s.pending := (heard_onlyLink _).pending
@[simp] theorem heard_upMs (s : State) : (State.heard s).upMs = s.upMs := (heard_onlyLink _).upMs
@[simp] theorem heard_shedLines (s : State) : (State.heard s).shedLines = s.shedLines := (heard_onlyLink _).shedLines
@[simp] theorem heard_txu (s : State) : (State.heard s).txu = s.txu := (heard_onlyLink _).txu
@[simp] theorem heard_bbm (s : State) : (State.heard s).bbm = s.bbm := (heard_onlyLink _).bbm
@[simp] theorem heard_ltu (s : State) : (State.heard s).ltu = s.ltu := (heard_onlyLink _).ltu
@[simp] theorem heard_oru (s : State) : (State.heard s).oru = s.oru := (heard_onlyLink _).oru
@[simp] theorem heard_hau (s : State) : (State.heard s).hau = s.hau := (heard_onlyLink _).hau
@[simp] theorem heard_hta (s : State) : (State.heard s).hta = s.hta := (heard_onlyLink _).hta
@[simp] theorem heard_pni (s : State) : (State.heard s).pni = s.pni := (heard_onlyLink _).pni
@[simp] theorem heard_sst (s : State) : (State.heard s).sst = s.sst := (heard_onlyLink _).sst
@[simp] theorem heard_locker (s : State) (m : Nat) : (State.heard s).locker m = s.locker m := (heard_onlyLink _).locker m
@[simp] theorem heard_order (s : State) (i : Nat) : (State.heard s).order? i = s.order? i := (heard_onlyLink _).order i
@[simp] theorem heard_freeList (s : State) (k : SizeClass) : (State.heard s).freeList k = s.freeList k := (heard_onlyLink _).freeList k
@[simp] theorem heard_params (s : State) : (State.heard s).params = s.params := (heard_onlyLink _).params
@[simp] theorem heard_profile (s : State) (i : Nat) : (State.heard s).profile i = s.profile i := (heard_onlyLink _).profile i
@[simp] theorem heard_feedEntry (s : State) (f : Nat) : (State.heard s).feedEntry f = s.feedEntry f := (heard_onlyLink _).feedEntry f
@[simp] theorem heard_layoutEntry (s : State) (m : Nat) : (State.heard s).layoutEntry m = s.layoutEntry m := (heard_onlyLink _).layoutEntry m
@[simp] theorem heard_discovering (s : State) : (State.heard s).discovering = s.discovering := (heard_onlyLink _).discovering
@[simp] theorem heard_uptimeSeconds (s : State) : (State.heard s).uptimeSeconds = s.uptimeSeconds := (heard_onlyLink _).uptimeSeconds
@[simp] theorem heard_uptime (s : State) : (State.heard s).uptime = s.uptime := (heard_onlyLink _).uptime
@[simp] theorem heard_shedLine (s : State) (f : Nat) : (State.heard s).shedLine f = s.shedLine f := (heard_onlyLink _).shedLine f
@[simp] theorem heard_isShed (s : State) (f : Nat) : (State.heard s).isShed f = s.isShed f := (heard_onlyLink _).isShed f
@[simp] theorem heard_budget (s : State) (f : Nat) : (State.heard s).budget f = s.budget f := (heard_onlyLink _).budget f

@[simp] theorem accepted_pending (s : State) : (State.accepted s).pending = s.pending := (accepted_onlyLink _).pending
@[simp] theorem accepted_upMs (s : State) : (State.accepted s).upMs = s.upMs := (accepted_onlyLink _).upMs
@[simp] theorem accepted_shedLines (s : State) : (State.accepted s).shedLines = s.shedLines := (accepted_onlyLink _).shedLines
@[simp] theorem accepted_txu (s : State) : (State.accepted s).txu = s.txu := (accepted_onlyLink _).txu
@[simp] theorem accepted_bbm (s : State) : (State.accepted s).bbm = s.bbm := (accepted_onlyLink _).bbm
@[simp] theorem accepted_ltu (s : State) : (State.accepted s).ltu = s.ltu := (accepted_onlyLink _).ltu
@[simp] theorem accepted_oru (s : State) : (State.accepted s).oru = s.oru := (accepted_onlyLink _).oru
@[simp] theorem accepted_hau (s : State) : (State.accepted s).hau = s.hau := (accepted_onlyLink _).hau
@[simp] theorem accepted_hta (s : State) : (State.accepted s).hta = s.hta := (accepted_onlyLink _).hta
@[simp] theorem accepted_pni (s : State) : (State.accepted s).pni = s.pni := (accepted_onlyLink _).pni
@[simp] theorem accepted_sst (s : State) : (State.accepted s).sst = s.sst := (accepted_onlyLink _).sst
@[simp] theorem accepted_locker (s : State) (m : Nat) : (State.accepted s).locker m = s.locker m := (accepted_onlyLink _).locker m
@[simp] theorem accepted_order (s : State) (i : Nat) : (State.accepted s).order? i = s.order? i := (accepted_onlyLink _).order i
@[simp] theorem accepted_freeList (s : State) (k : SizeClass) : (State.accepted s).freeList k = s.freeList k := (accepted_onlyLink _).freeList k
@[simp] theorem accepted_params (s : State) : (State.accepted s).params = s.params := (accepted_onlyLink _).params
@[simp] theorem accepted_profile (s : State) (i : Nat) : (State.accepted s).profile i = s.profile i := (accepted_onlyLink _).profile i
@[simp] theorem accepted_feedEntry (s : State) (f : Nat) : (State.accepted s).feedEntry f = s.feedEntry f := (accepted_onlyLink _).feedEntry f
@[simp] theorem accepted_layoutEntry (s : State) (m : Nat) : (State.accepted s).layoutEntry m = s.layoutEntry m := (accepted_onlyLink _).layoutEntry m
@[simp] theorem accepted_discovering (s : State) : (State.accepted s).discovering = s.discovering := (accepted_onlyLink _).discovering
@[simp] theorem accepted_uptimeSeconds (s : State) : (State.accepted s).uptimeSeconds = s.uptimeSeconds := (accepted_onlyLink _).uptimeSeconds
@[simp] theorem accepted_uptime (s : State) : (State.accepted s).uptime = s.uptime := (accepted_onlyLink _).uptime
@[simp] theorem accepted_shedLine (s : State) (f : Nat) : (State.accepted s).shedLine f = s.shedLine f := (accepted_onlyLink _).shedLine f
@[simp] theorem accepted_isShed (s : State) (f : Nat) : (State.accepted s).isShed f = s.isShed f := (accepted_onlyLink _).isShed f
@[simp] theorem accepted_budget (s : State) (f : Nat) : (State.accepted s).budget f = s.budget f := (accepted_onlyLink _).budget f

end Sys2Proof.Machine
end

