-- ==== Sys2Proof/Laws/Records.lean ====
section
/-! SUPPORT. What the shared operations over locker records and orders can touch: the locker records, the Order Unit,
the report queue with its lost-report count, and nothing else (chapters 01 to 04). -/

namespace Sys2Proof.Machine

/-- `t` differs from `s` at most in the locker records, the Order Unit and the queued reports. -/
def RecordsOnly (s t : State) : Prop :=
  t = { s with
    lki := { s.lki with reportQ := t.lki.reportQ, lostReports := t.lki.lostReports }
    ltu := { s.ltu with lockers := t.ltu.lockers }
    oru := t.oru }

theorem RecordsOnly.refl (s : State) : RecordsOnly s s := rfl

theorem RecordsOnly.trans {s t u : State} (h : RecordsOnly s t) (k : RecordsOnly t u) : RecordsOnly s u := by
  unfold RecordsOnly at *
  rw [k, h]

/-- Running one more operation that touches only records. -/
theorem RecordsOnly.andThen {s t : State} {f : State → State} (h : RecordsOnly s t) (k : ∀ x, RecordsOnly x (f x)) :
    RecordsOnly s (f t) := h.trans (k t)

theorem RecordsOnly.foldl {α : Type} (f : State → α → State) (hf : ∀ x a, RecordsOnly x (f x a)) (as : List α)
    (s : State) : RecordsOnly s (as.foldl f s) := by
  induction as generalizing s with
  | nil => exact .refl s
  | cons a as ih => exact (hf s a).trans (ih _)

theorem RecordsOnly.onlyRecords {s t : State} (h : RecordsOnly s t) : OnlyRecords s t := by
  unfold OnlyRecords RecordsOnly at *
  rw [h]

theorem RecordsOnly.pending {s t : State} (h : RecordsOnly s t) : t.pending = s.pending := (congrArg State.pending h).trans rfl
theorem RecordsOnly.ports {s t : State} (h : RecordsOnly s t) : t.ports = s.ports := (congrArg State.ports h).trans rfl
theorem RecordsOnly.upMs {s t : State} (h : RecordsOnly s t) : t.upMs = s.upMs := (congrArg State.upMs h).trans rfl
theorem RecordsOnly.shedLines {s t : State} (h : RecordsOnly s t) : t.shedLines = s.shedLines := (congrArg State.shedLines h).trans rfl
theorem RecordsOnly.txu {s t : State} (h : RecordsOnly s t) : t.txu = s.txu := (congrArg State.txu h).trans rfl
theorem RecordsOnly.bbm {s t : State} (h : RecordsOnly s t) : t.bbm = s.bbm := (congrArg State.bbm h).trans rfl
theorem RecordsOnly.hau {s t : State} (h : RecordsOnly s t) : t.hau = s.hau := (congrArg State.hau h).trans rfl
theorem RecordsOnly.hta {s t : State} (h : RecordsOnly s t) : t.hta = s.hta := (congrArg State.hta h).trans rfl
theorem RecordsOnly.pni {s t : State} (h : RecordsOnly s t) : t.pni = s.pni := (congrArg State.pni h).trans rfl
theorem RecordsOnly.sst {s t : State} (h : RecordsOnly s t) : t.sst = s.sst := (congrArg State.sst h).trans rfl
theorem RecordsOnly.rx {s t : State} (h : RecordsOnly s t) : t.lki.rx = s.lki.rx :=
  (congrArg (fun x => x.lki.rx) h).trans rfl
theorem RecordsOnly.gapTimer {s t : State} (h : RecordsOnly s t) : t.lki.gapTimer = s.lki.gapTimer :=
  (congrArg (fun x => x.lki.gapTimer) h).trans rfl
theorem RecordsOnly.tx {s t : State} (h : RecordsOnly s t) : t.lki.tx = s.lki.tx :=
  (congrArg (fun x => x.lki.tx) h).trans rfl
theorem RecordsOnly.answerQ {s t : State} (h : RecordsOnly s t) : t.lki.answerQ = s.lki.answerQ :=
  (congrArg (fun x => x.lki.answerQ) h).trans rfl
theorem RecordsOnly.placesHeld {s t : State} (h : RecordsOnly s t) : t.lki.placesHeld = s.lki.placesHeld :=
  (congrArg (fun x => x.lki.placesHeld) h).trans rfl
theorem RecordsOnly.silenceTimer {s t : State} (h : RecordsOnly s t) : t.lki.silenceTimer = s.lki.silenceTimer :=
  (congrArg (fun x => x.lki.silenceTimer) h).trans rfl
theorem RecordsOnly.island {s t : State} (h : RecordsOnly s t) : t.lki.island = s.lki.island :=
  (congrArg (fun x => x.lki.island) h).trans rfl
theorem RecordsOnly.islandStart {s t : State} (h : RecordsOnly s t) : t.lki.islandStart = s.lki.islandStart :=
  (congrArg (fun x => x.lki.islandStart) h).trans rfl
theorem RecordsOnly.errors {s t : State} (h : RecordsOnly s t) : t.lki.errors = s.lki.errors :=
  (congrArg (fun x => x.lki.errors) h).trans rfl
theorem RecordsOnly.islandEntries {s t : State} (h : RecordsOnly s t) : t.lki.islandEntries = s.lki.islandEntries :=
  (congrArg (fun x => x.lki.islandEntries) h).trans rfl
theorem RecordsOnly.discovery {s t : State} (h : RecordsOnly s t) : t.ltu.discovery = s.ltu.discovery :=
  (congrArg (fun x => x.ltu.discovery) h).trans rfl
theorem RecordsOnly.probeCursor {s t : State} (h : RecordsOnly s t) : t.ltu.probeCursor = s.ltu.probeCursor :=
  (congrArg (fun x => x.ltu.probeCursor) h).trans rfl
theorem RecordsOnly.probing {s t : State} (h : RecordsOnly s t) : t.ltu.probing = s.ltu.probing :=
  (congrArg (fun x => x.ltu.probing) h).trans rfl
theorem RecordsOnly.answered {s t : State} (h : RecordsOnly s t) : t.ltu.answered = s.ltu.answered :=
  (congrArg (fun x => x.ltu.answered) h).trans rfl
theorem RecordsOnly.params {s t : State} (h : RecordsOnly s t) : t.params = s.params :=
  (congrArg (fun x => State.params x) h).trans rfl
theorem RecordsOnly.profile {s t : State} (h : RecordsOnly s t) (i : Nat) : t.profile i = s.profile i :=
  (congrArg (fun x => State.profile x i) h).trans rfl
theorem RecordsOnly.feedEntry {s t : State} (h : RecordsOnly s t) (f : Nat) : t.feedEntry f = s.feedEntry f :=
  (congrArg (fun x => State.feedEntry x f) h).trans rfl
theorem RecordsOnly.layoutEntry {s t : State} (h : RecordsOnly s t) (m : Nat) : t.layoutEntry m = s.layoutEntry m :=
  (congrArg (fun x => State.layoutEntry x m) h).trans rfl
theorem RecordsOnly.discovering {s t : State} (h : RecordsOnly s t) : t.discovering = s.discovering :=
  (congrArg (fun x => State.discovering x) h).trans rfl
theorem RecordsOnly.uptime {s t : State} (h : RecordsOnly s t) : t.uptime = s.uptime :=
  (congrArg (fun x => State.uptime x) h).trans rfl
theorem RecordsOnly.isShed {s t : State} (h : RecordsOnly s t) (f : Nat) : t.isShed f = s.isShed f :=
  (congrArg (fun x => State.isShed x f) h).trans rfl
theorem RecordsOnly.budget {s t : State} (h : RecordsOnly s t) (f : Nat) : t.budget f = s.budget f :=
  (congrArg (fun x => State.budget x f) h).trans rfl

/-! ### The smallest operations -/

theorem setLocker_records (n : Nat) (l : Locker) (s : State) : RecordsOnly s (s.setLocker n l) := rfl
theorem modLocker_records (n : Nat) (f : Locker → Locker) (s : State) : RecordsOnly s (s.modLocker n f) := rfl
theorem modOrder_records (id : Nat) (f : Order → Order) (s : State) : RecordsOnly s (s.modOrder id f) := rfl
theorem setFreeList_records (c : SizeClass) (q : List Nat) (s : State) : RecordsOnly s (s.setFreeList c q) := by
  cases c <;> rfl
theorem submit_records (k : ReportKind) (fs : List Field) (s : State) : RecordsOnly s (submit k fs s) := by
  unfold RecordsOnly
  rw [submit_eq]
theorem submitTagged_records (tag : Nat) (k : ReportKind) (fs : List Field) (s : State) :
    RecordsOnly s (submitTagged tag k fs s) := by
  unfold RecordsOnly
  rw [submitTagged_eq]
theorem oru_records (o : Oru) (s : State) : RecordsOnly s { s with oru := o } := rfl
theorem lockers_records (v : Vector Locker 48) (s : State) :
    RecordsOnly s { s with ltu := { s.ltu with lockers := v } } := rfl

/-! ### Orders (chapter 02) -/

theorem leftFree_records (c : SizeClass) (n : Nat) (s : State) : RecordsOnly s (leftFree c n s) :=
  setFreeList_records _ _ _
theorem appendFree_records (c : SizeClass) (n : Nat) (s : State) : RecordsOnly s (appendFree c n s) :=
  setFreeList_records _ _ _
theorem leaveQueue_records (id : Nat) (s : State) : RecordsOnly s (leaveQueue id s) := rfl

theorem join_records (id n : Nat) (s : State) : RecordsOnly s (join id n s) :=
  ((leftFree_records _ _ _).trans (modOrder_records _ _ _)).trans
    ((leaveQueue_records _ _).trans (modLocker_records _ _ _))

theorem placePending_records (o : Order) (n : Nat) (s : State) : RecordsOnly s (placePending o n s) :=
  (join_records _ _ _).trans (submit_records _ _ _)

theorem becameFree_records (n : Nat) (s : State) : RecordsOnly s (becameFree n s) := by
  unfold becameFree
  dsimp only
  split
  · exact .refl s
  · split
    · exact placePending_records _ _ _
    · exact appendFree_records _ _ _

theorem sweepOver_records (ids : List Nat) (s : State) : RecordsOnly s (sweepOver ids s) := by
  induction ids generalizing s with
  | nil => exact .refl s
  | cons id rest ih =>
    unfold sweepOver
    split
    · split
      · exact (placePending_records _ _ _).trans (ih _)
      · exact ih _
    · exact ih _

theorem pendingSweep_records (s : State) : RecordsOnly s (pendingSweep s) := sweepOver_records _ _

theorem fenceChanged_records (a b : List Nat) (s : State) : RecordsOnly s (fenceChanged a b s) := by
  unfold fenceChanged
  dsimp only
  have h := (RecordsOnly.foldl (fun s n => leftFree (s.locker n).cls n s) (fun x n => leftFree_records _ n x) a s).trans
    (RecordsOnly.foldl (fun s n => appendFree (s.locker n).cls n s) (fun x n => appendFree_records _ n x) b _)
  split
  · exact h.trans (pendingSweep_records _)
  · exact h

theorem condemn_records (id : Nat) (c : Cause) (s : State) : RecordsOnly s (condemn id c s) := by
  unfold condemn
  split
  · exact .refl s
  · split
    · exact .refl s
    · dsimp only
      split
      · exact ((modOrder_records _ _ s).trans (submit_records _ _ _)).trans (modLocker_records _ _ _)
      · exact (modOrder_records _ _ s).trans (submit_records _ _ _)

theorem removeOrder_records (id : Nat) (s : State) : RecordsOnly s (removeOrder id s) := by
  unfold removeOrder
  dsimp only
  split
  · exact ((modLocker_records _ _ s).trans (leaveQueue_records _ _)).trans (oru_records _ _)
  · exact (leaveQueue_records _ s).trans (oru_records _ _)

theorem withdrawLost_records (id : Nat) (s : State) : RecordsOnly s (withdrawLost id s) :=
  (condemn_records _ _ _).trans (removeOrder_records _ _)

/-! ### Lockers (chapter 01) -/

theorem moveTo_records (p : Phase) (n : Nat) (s : State) : RecordsOnly s (moveTo p n s) := by
  unfold moveTo
  dsimp only
  split
  · exact (setLocker_records _ _ s).trans (leftFree_records _ _ _)
  · exact setLocker_records _ _ s

theorem moveToUnlessExcluded_records (p : Phase) (n : Nat) (s : State) :
    RecordsOnly s (moveToUnlessExcluded p n s) := moveTo_records _ _ _

theorem announceFree_records (n : Nat) (s : State) : RecordsOnly s (announceFree n s) := by
  unfold announceFree
  split
  · exact becameFree_records _ _
  · exact .refl s

theorem enterClearing_records (n : Nat) (s : State) : RecordsOnly s (enterClearing n s) := modLocker_records _ _ _

theorem doorFault_records (n : Nat) (f : Finding) (s : State) : RecordsOnly s (doorFault n f s) := by
  unfold doorFault
  dsimp only
  split
  · exact .refl s
  · have h := (moveTo_records .service n s).trans
      (submit_records .doorFault [.b1 n, .b1 f.code, .orderId (s.locker n).orderRef] _)
    split
    · exact h.trans (condemn_records _ _ _)
    · exact h

theorem setExcluded_records (n : Nat) (s : State) : RecordsOnly s (setExcluded n s) := by
  unfold setExcluded
  split
  · exact .refl s
  · exact (modLocker_records _ _ s).trans (submit_records _ _ _)

theorem heaterCheck_records (n : Nat) (a b : Bool) (s : State) : RecordsOnly s (heaterCheck n a b s) := by
  unfold heaterCheck
  split
  · dsimp only
    split
    · exact (setExcluded_records n s).trans (moveTo_records _ _ _)
    · exact setExcluded_records n s
  · exact .refl s

theorem goOffline_records (n : Nat) (c : OfflineCause) (s : State) : RecordsOnly s (goOffline n c s) := by
  unfold goOffline
  dsimp only
  split
  · exact .refl s
  · exact ((moveTo_records _ _ s).trans (modLocker_records _ _ _)).trans (submit_records _ _ _)

theorem quarantine_records (n : Nat) (s : State) : RecordsOnly s (quarantine n s) := by
  unfold quarantine
  dsimp only
  split
  · exact ((moveTo_records _ _ s).trans (withdrawLost_records _ _)).trans (submit_records _ _ _)
  · exact (moveTo_records _ _ s).trans (submit_records _ _ _)

theorem doorCommandEnd_records (e : Entry) (o : CmdOutcome) (s : State) : RecordsOnly s (doorCommandEnd e o s) := by
  unfold doorCommandEnd
  dsimp only
  generalize h1 : s.modLocker e.locker (fun l => { l with unlatchPending := none }) = a
  have ha : RecordsOnly s a := h1 ▸ modLocker_records _ _ s
  generalize h2 : (if e.request.phase = some (a.locker e.locker).phase then
    moveTo (revertPhase a (a.locker e.locker)) e.locker a else a) = b
  have hb : RecordsOnly s b := by
    rw [← h2]
    split
    · exact ha.trans (moveTo_records _ _ _)
    · exact ha
  split
  · exact ha
  · split
    · exact hb.trans (doorFault_records _ _ _)
    · split
      · exact hb.trans (goOffline_records _ _ _)
      · exact hb
    · exact hb

theorem startHold_records (id : Nat) (s : State) : RecordsOnly s (startHold id s) := modOrder_records _ _ _

theorem loadEmpty_records (n id : Nat) (b : Bool) (s : State) : RecordsOnly s (loadEmpty n id b s) :=
  (moveTo_records _ _ _).trans (submit_records _ _ _)

theorem completeLoading_records (n : Nat) (s : State) : RecordsOnly s (completeLoading n s) := by
  unfold completeLoading
  dsimp only
  split
  · split
    · exact ((moveTo_records _ _ s).trans (startHold_records _ _)).trans (submit_records _ _ _)
    · exact loadEmpty_records _ _ _ _
  · exact loadEmpty_records _ _ _ _

theorem completePickup_records (n : Nat) (s : State) : RecordsOnly s (completePickup n s) := by
  unfold completePickup
  dsimp only
  split
  · split
    · exact ((submit_records _ _ s).trans (removeOrder_records _ _)).trans (moveToUnlessExcluded_records _ _ _)
    · exact ((modOrder_records _ _ s).trans (submit_records _ _ _)).trans (moveTo_records _ _ _)
  · exact (submit_records _ _ s).trans (moveTo_records _ _ _)

theorem completeClearing_records (n : Nat) (s : State) : RecordsOnly s (completeClearing n s) := by
  unfold completeClearing
  dsimp only
  split
  · split
    · split
      · exact ((submit_records _ _ s).trans (removeOrder_records _ _)).trans (moveToUnlessExcluded_records _ _ _)
      · exact (submit_records _ _ s).trans (moveToUnlessExcluded_records _ _ _)
    · exact (submit_records _ _ s).trans (moveTo_records _ _ _)
  · exact (submit_records _ _ s).trans (moveTo_records _ _ _)

theorem completeTransient_records (n : Nat) (s : State) : RecordsOnly s (completeTransient n s) := by
  unfold completeTransient
  dsimp only
  split
  · exact .refl s
  · split
    · exact .refl s
    · split
      · exact completeLoading_records _ _
      · exact completePickup_records _ _
      · exact completeClearing_records _ _
      · exact .refl s

theorem resolveOffline_records (n : Nat) (s : State) : RecordsOnly s (resolveOffline n s) := by
  unfold resolveOffline
  dsimp only
  split
  · exact .refl s
  · split
    · split
      · exact ((moveToUnlessExcluded_records _ _ s).trans (submit_records _ _ _)).trans (announceFree_records _ _)
      · exact quarantine_records _ _
    · split
      · exact (moveToUnlessExcluded_records _ _ s).trans (submit_records _ _ _)
      · exact quarantine_records _ _

theorem occupancyCheck_records (n : Nat) (s : State) : RecordsOnly s (occupancyCheck n s) := by
  unfold occupancyCheck
  dsimp only
  split
  · split
    · exact quarantine_records _ _
    · exact .refl s
  · exact .refl s

theorem examineDoorHeld_records (n : Nat) (s : State) : RecordsOnly s (examineDoorHeld n s) := by
  unfold examineDoorHeld
  dsimp only
  split
  · exact (modLocker_records _ _ s).trans (submit_records _ _ _)
  · exact .refl s

theorem doorHeldBookkeeping_records (n : Nat) (b : Locker) (s : State) :
    RecordsOnly s (doorHeldBookkeeping n b s) := by
  unfold doorHeldBookkeeping
  dsimp only
  split
  · exact .refl s
  · split
    · exact (modLocker_records _ _ s).trans (examineDoorHeld_records _ _)
    · exact examineDoorHeld_records _ _

theorem ifStill_records (p : Phase) (n : Nat) (f : State → State) (hf : ∀ x, RecordsOnly x (f x)) (s : State) :
    RecordsOnly s (ifStill p n f s) := by
  unfold ifStill
  split
  · exact hf s
  · exact .refl s

theorem faultChecks_records (n : Nat) (a b : Bool) (s : State) : RecordsOnly s (faultChecks n a b s) := by
  unfold faultChecks
  dsimp only
  split
  · exact (doorFault_records _ _ s).trans (heaterCheck_records _ _ _ _)
  · exact heaterCheck_records _ _ _ _

theorem goodPoll_records (n : Nat) (o : Observation) (m : Bool) (s : State) : RecordsOnly s (goodPoll n o m s) :=
  ((((modLocker_records n (Locker.observe o) s).trans (faultChecks_records _ _ _ _)).trans
    (ifStill_records _ _ _ (resolveOffline_records n) _)).trans
    (ifStill_records _ _ _ (completeTransient_records n) _)).trans
    ((ifStill_records _ _ _ (occupancyCheck_records n) _).trans (doorHeldBookkeeping_records _ _ _))

theorem failedPoll_records (n : Nat) (s : State) : RecordsOnly s (failedPoll n s) := by
  unfold failedPoll
  dsimp only
  split
  · exact (modLocker_records _ _ s).trans (goOffline_records _ _ _)
  · exact modLocker_records _ _ s

theorem purgeDone_records (n : Nat) (s : State) : RecordsOnly s (purgeDone n s) := by
  unfold purgeDone
  split
  · exact ((moveToUnlessExcluded_records _ _ s).trans (submit_records _ _ _)).trans (announceFree_records _ _)
  · exact .refl s

theorem setAside_records (n : Nat) (s : State) : RecordsOnly s (setAside n s) := by
  unfold setAside
  dsimp only
  split
  · exact .refl s
  · exact moveTo_records _ _ _

theorem setAsideAll_records (s : State) : RecordsOnly s (setAsideAll s) :=
  RecordsOnly.foldl _ (fun x n => setAside_records n x) _ s

theorem resetNotice_records (s : State) : RecordsOnly s s.resetNotice := rfl

theorem lockerCommandEnd_records (e : Entry) (o : CmdOutcome) (s : State) :
    RecordsOnly s (lockerCommandEnd e o s) := by
  unfold lockerCommandEnd
  split
  · exact doorCommandEnd_records _ _ _
  · split
    · exact goOffline_records _ _ _
    · exact .refl s

theorem settleProbed_records (n : Nat) (a b : Bool) (s : State) : RecordsOnly s (settleProbed n a b s) := by
  unfold settleProbed
  dsimp only
  split
  · exact (moveTo_records _ _ s).trans (submit_records _ _ _)
  · split
    · split
      · exact (setExcluded_records _ s).trans (moveTo_records _ _ _)
      · exact ((setExcluded_records _ s).trans (moveTo_records _ _ _)).trans (submit_records _ _ _)
    · split
      · exact moveToUnlessExcluded_records _ _ s
      · exact (moveTo_records _ _ s).trans (submit_records _ _ _)

theorem probeFailed_records (n : Nat) (s : State) : RecordsOnly s (probeFailed n s) :=
  (moveTo_records _ _ _).trans (modLocker_records _ _ _)

/-! ### Settings' acts on the records (chapter 09) -/

theorem layoutAccepted_records (n : Nat) (e : LayoutEntry) (s : State) : RecordsOnly s (layoutAccepted n e s) := by
  unfold layoutAccepted
  dsimp only
  split
  · split
    · exact (setLocker_records _ _ s).trans (leftFree_records _ _ _)
    · split
      · exact ((setLocker_records _ _ s).trans (leftFree_records _ _ _)).trans (becameFree_records _ _)
      · exact setLocker_records _ _ s
  · exact setLocker_records _ _ s

theorem recomputeFence_records (s : State) : RecordsOnly s (recomputeFence s) :=
  (lockers_records _ s).trans (fenceChanged_records _ _ _)

theorem paramActs_records (p : Nat) (u : Bool) (s : State) : RecordsOnly s (paramActs p u s) := by
  unfold paramActs
  split
  · exact RecordsOnly.foldl _ (fun x n => examineDoorHeld_records n x) _ s
  · split
    · exact pendingSweep_records s
    · exact .refl s
  · exact recomputeFence_records s
  · exact recomputeFence_records s
  · exact recomputeFence_records s
  · exact .refl s

/-! ### The hold tick (chapter 03) -/

theorem chargeOrder_records (n : Nat) (l : Locker) (o : Order) (h : Hold) (s : State) :
    RecordsOnly s (chargeOrder n l o h s) := by
  unfold chargeOrder
  dsimp only
  split
  · exact (modOrder_records _ _ s).trans (condemn_records _ _ _)
  · split
    · exact (modOrder_records _ _ s).trans (submit_records _ _ _)
    · exact modOrder_records _ _ s

theorem chargeLocker_records (n : Nat) (s : State) : RecordsOnly s (chargeLocker n s) := by
  unfold chargeLocker
  dsimp only
  split
  · split
    · split
      · exact chargeOrder_records _ _ _ _ _
      · exact .refl s
    · exact .refl s
  · exact .refl s

theorem expirePending_records (id : Nat) (s : State) : RecordsOnly s (expirePending id s) := by
  unfold expirePending
  split
  · split
    · split
      · exact (submit_records _ _ s).trans (removeOrder_records _ _)
      · exact .refl s
    · exact .refl s
  · exact .refl s

theorem agePendingOrders_records (s : State) : RecordsOnly s (agePendingOrders s) :=
  (oru_records _ s).trans (RecordsOnly.foldl _ (fun x n => expirePending_records n x) _ _)

theorem examineLoadLate_records (o : Order) (s : State) : RecordsOnly s (examineLoadLate o s) := by
  unfold examineLoadLate
  split
  · split
    · exact (modOrder_records _ _ s).trans (submit_records _ _ _)
    · exact .refl s
  · exact .refl s

theorem ageReservedOrders_records (s : State) : RecordsOnly s (ageReservedOrders s) :=
  (oru_records _ s).trans (RecordsOnly.foldl _ (fun x o => examineLoadLate_records o x) _ _)

theorem holdTick_records (s : State) : RecordsOnly s (holdTick s) :=
  ((RecordsOnly.foldl _ (fun x n => chargeLocker_records n x) _ s).trans (agePendingOrders_records _)).trans
    (ageReservedOrders_records _)

/-! ### The frame start's acts on the records (chapter 04) -/

theorem suspendOrResume_records (n : Nat) (s : State) : RecordsOnly s (suspendOrResume n s) := by
  unfold suspendOrResume
  dsimp only
  split
  · exact .refl s
  · split
    · exact (modLocker_records _ _ s).trans (submit_records _ _ _)
    · split
      · exact (modLocker_records _ _ s).trans (submit_records _ _ _)
      · exact .refl s

theorem examineInhibit_records (n : Nat) (s : State) : RecordsOnly s (examineInhibit n s) := by
  unfold examineInhibit
  dsimp only
  split
  · split
    · exact (modLocker_records _ _ s).trans (submit_records _ _ _)
    · split
      · exact (modLocker_records _ _ s).trans (submit_records _ _ _)
      · exact .refl s
  · exact .refl s

theorem creditAndStarve_records (d : List Nat) (m : Vector (List Nat) 48) (ts : List Nat) (n : Nat) (s : State) :
    RecordsOnly s (creditAndStarve d m ts n s) := by
  unfold creditAndStarve
  dsimp only
  split
  · exact (setLocker_records _ _ s).trans (submit_records _ _ _)
  · exact setLocker_records _ _ s

end Sys2Proof.Machine
end

