-- ==== Sys2Proof/Laws/Commands.lean ====
section
/-! SUPPORT. What the end of a command and the giving away of the bus can touch (chapters 05 and 06). -/

namespace Sys2Proof.Machine

/-! ### The end of a command -/

/-- `t` differs from `s` at most in what the end of a command touches: the two collections of commands with the recent
completions and the posted lost count, queued answers and reports, locker records, the Order Unit, the panel's
outstanding releases and the outputs. -/
def CommandsOnly (s t : State) : Prop :=
  t = { s with
    ports := t.ports
    lki := { s.lki with
      answerQ := t.lki.answerQ, reportQ := t.lki.reportQ, lostReports := t.lki.lostReports }
    txu := { s.txu with
      table := t.txu.table, posted := t.txu.posted, recent := t.txu.recent, postedLost := t.txu.postedLost }
    ltu := { s.ltu with lockers := t.ltu.lockers }
    oru := t.oru
    pni := { s.pni with releases := t.pni.releases } }

theorem CommandsOnly.refl (s : State) : CommandsOnly s s := rfl

theorem CommandsOnly.trans {s t u : State} (h : CommandsOnly s t) (k : CommandsOnly t u) : CommandsOnly s u := by
  unfold CommandsOnly at *
  rw [k, h]

theorem CommandsOnly.foldl {α : Type} (f : State → α → State) (hf : ∀ x a, CommandsOnly x (f x a)) (as : List α)
    (s : State) : CommandsOnly s (as.foldl f s) := by
  induction as generalizing s with
  | nil => exact .refl s
  | cons a as ih => exact (hf s a).trans (ih _)

theorem RecordsOnly.commands {s t : State} (h : RecordsOnly s t) : CommandsOnly s t := by
  unfold CommandsOnly RecordsOnly at *
  rw [h]

theorem CommandsOnly.pending {s t : State} (h : CommandsOnly s t) : t.pending = s.pending := (congrArg State.pending h).trans rfl
theorem CommandsOnly.upMs {s t : State} (h : CommandsOnly s t) : t.upMs = s.upMs := (congrArg State.upMs h).trans rfl
theorem CommandsOnly.shedLines {s t : State} (h : CommandsOnly s t) : t.shedLines = s.shedLines := (congrArg State.shedLines h).trans rfl
theorem CommandsOnly.bbm {s t : State} (h : CommandsOnly s t) : t.bbm = s.bbm := (congrArg State.bbm h).trans rfl
theorem CommandsOnly.hau {s t : State} (h : CommandsOnly s t) : t.hau = s.hau := (congrArg State.hau h).trans rfl
theorem CommandsOnly.hta {s t : State} (h : CommandsOnly s t) : t.hta = s.hta := (congrArg State.hta h).trans rfl
theorem CommandsOnly.sst {s t : State} (h : CommandsOnly s t) : t.sst = s.sst := (congrArg State.sst h).trans rfl
theorem CommandsOnly.rx {s t : State} (h : CommandsOnly s t) : t.lki.rx = s.lki.rx :=
  (congrArg (fun x => x.lki.rx) h).trans rfl
theorem CommandsOnly.gapTimer {s t : State} (h : CommandsOnly s t) : t.lki.gapTimer = s.lki.gapTimer :=
  (congrArg (fun x => x.lki.gapTimer) h).trans rfl
theorem CommandsOnly.tx {s t : State} (h : CommandsOnly s t) : t.lki.tx = s.lki.tx :=
  (congrArg (fun x => x.lki.tx) h).trans rfl
theorem CommandsOnly.placesHeld {s t : State} (h : CommandsOnly s t) : t.lki.placesHeld = s.lki.placesHeld :=
  (congrArg (fun x => x.lki.placesHeld) h).trans rfl
theorem CommandsOnly.silenceTimer {s t : State} (h : CommandsOnly s t) : t.lki.silenceTimer = s.lki.silenceTimer :=
  (congrArg (fun x => x.lki.silenceTimer) h).trans rfl
theorem CommandsOnly.island {s t : State} (h : CommandsOnly s t) : t.lki.island = s.lki.island :=
  (congrArg (fun x => x.lki.island) h).trans rfl
theorem CommandsOnly.islandStart {s t : State} (h : CommandsOnly s t) : t.lki.islandStart = s.lki.islandStart :=
  (congrArg (fun x => x.lki.islandStart) h).trans rfl
theorem CommandsOnly.errors {s t : State} (h : CommandsOnly s t) : t.lki.errors = s.lki.errors :=
  (congrArg (fun x => x.lki.errors) h).trans rfl
theorem CommandsOnly.islandEntries {s t : State} (h : CommandsOnly s t) : t.lki.islandEntries = s.lki.islandEntries :=
  (congrArg (fun x => x.lki.islandEntries) h).trans rfl
theorem CommandsOnly.discovery {s t : State} (h : CommandsOnly s t) : t.ltu.discovery = s.ltu.discovery :=
  (congrArg (fun x => x.ltu.discovery) h).trans rfl
theorem CommandsOnly.probeCursor {s t : State} (h : CommandsOnly s t) : t.ltu.probeCursor = s.ltu.probeCursor :=
  (congrArg (fun x => x.ltu.probeCursor) h).trans rfl
theorem CommandsOnly.probing {s t : State} (h : CommandsOnly s t) : t.ltu.probing = s.ltu.probing :=
  (congrArg (fun x => x.ltu.probing) h).trans rfl
theorem CommandsOnly.answered {s t : State} (h : CommandsOnly s t) : t.ltu.answered = s.ltu.answered :=
  (congrArg (fun x => x.ltu.answered) h).trans rfl
theorem CommandsOnly.nextSeq {s t : State} (h : CommandsOnly s t) : t.txu.nextSeq = s.txu.nextSeq :=
  (congrArg (fun x => x.txu.nextSeq) h).trans rfl
theorem CommandsOnly.longOp {s t : State} (h : CommandsOnly s t) : t.txu.longOp = s.txu.longOp :=
  (congrArg (fun x => x.txu.longOp) h).trans rfl
theorem CommandsOnly.unknownCount {s t : State} (h : CommandsOnly s t) : t.pni.unknownCount = s.pni.unknownCount :=
  (congrArg (fun x => x.pni.unknownCount) h).trans rfl
theorem CommandsOnly.windowTimer {s t : State} (h : CommandsOnly s t) : t.pni.windowTimer = s.pni.windowTimer :=
  (congrArg (fun x => x.pni.windowTimer) h).trans rfl
theorem CommandsOnly.lockoutTimer {s t : State} (h : CommandsOnly s t) : t.pni.lockoutTimer = s.pni.lockoutTimer :=
  (congrArg (fun x => x.pni.lockoutTimer) h).trans rfl
theorem CommandsOnly.params {s t : State} (h : CommandsOnly s t) : t.params = s.params :=
  (congrArg (fun x => State.params x) h).trans rfl
theorem CommandsOnly.profile {s t : State} (h : CommandsOnly s t) (i : Nat) : t.profile i = s.profile i :=
  (congrArg (fun x => State.profile x i) h).trans rfl
theorem CommandsOnly.feedEntry {s t : State} (h : CommandsOnly s t) (f : Nat) : t.feedEntry f = s.feedEntry f :=
  (congrArg (fun x => State.feedEntry x f) h).trans rfl
theorem CommandsOnly.layoutEntry {s t : State} (h : CommandsOnly s t) (m : Nat) : t.layoutEntry m = s.layoutEntry m :=
  (congrArg (fun x => State.layoutEntry x m) h).trans rfl
theorem CommandsOnly.discovering {s t : State} (h : CommandsOnly s t) : t.discovering = s.discovering :=
  (congrArg (fun x => State.discovering x) h).trans rfl
theorem CommandsOnly.uptime {s t : State} (h : CommandsOnly s t) : t.uptime = s.uptime :=
  (congrArg (fun x => State.uptime x) h).trans rfl

theorem answer_commands (k : Kind) (tag : Nat) (st : Status) (b : List Field) (s : State) :
    CommandsOnly s (answer k tag st b s) := rfl
theorem display_commands (m : PanelMessage) (s : State) : CommandsOnly s (display m s) := rfl
theorem dropRelease_commands (n : Nat) (s : State) : CommandsOnly s (dropRelease n s) := rfl
theorem removeEntry_commands (q : Nat) (s : State) : CommandsOnly s (removeEntry q s) := rfl
theorem removePosted_commands (q : Nat) (s : State) : CommandsOnly s (removePosted q s) := rfl
theorem countPostedLost_commands (s : State) : CommandsOnly s (countPostedLost s) := rfl
theorem putOnBus_commands (q : Nat) (s : State) : CommandsOnly s (putOnBus q s) := rfl
theorem discardPosted_commands (s : State) : CommandsOnly s (discardPosted s) := rfl

theorem panelReleaseEnd_commands (n : Nat) (o : CmdOutcome) (s : State) :
    CommandsOnly s (panelReleaseEnd n o s) := by
  have d (m : PanelMessage) : CommandsOnly s (display m (dropRelease n s)) :=
    (dropRelease_commands n s).trans (display_commands m _)
  unfold panelReleaseEnd
  dsimp only
  split
  · exact (d _).trans (submit_records _ _ _).commands
  · exact (d _).trans (submit_records _ _ _).commands

theorem completeEntry_commands (e : Entry) (o : CmdOutcome) (s : State) : CommandsOnly s (completeEntry e o s) := by
  unfold completeEntry
  dsimp only
  split
  · exact (removeEntry_commands _ s).trans (panelReleaseEnd_commands _ _ _)
  · split
    · exact removeEntry_commands _ s
    · rfl

theorem endConfirmed_commands (e : Entry) (o : CmdOutcome) (s : State) : CommandsOnly s (endConfirmed e o s) :=
  (lockerCommandEnd_records e o s).commands.trans (completeEntry_commands _ _ _)

theorem endPosted_commands (p : Posted) (o : CmdOutcome) (s : State) : CommandsOnly s (endPosted p o s) := by
  have r := removePosted_commands p.seq s
  have c := r.trans (countPostedLost_commands _)
  unfold endPosted
  dsimp only
  split
  · exact r
  · split
    · exact c.trans (submit_records _ _ _).commands
    · exact c
  · exact c.trans (submit_records _ _ _).commands
  · exact c

theorem endCommand_commands (q : Nat) (o : CmdOutcome) (s : State) : CommandsOnly s (endCommand q o s) := by
  unfold endCommand
  split
  · exact endConfirmed_commands _ _ _
  · split
    · exact endPosted_commands _ _ _
    · exact .refl s

theorem txuBankReset_commands (s : State) : CommandsOnly s (txuBankReset s) :=
  (CommandsOnly.foldl _ (fun x q => endCommand_commands q _ x) _ s).trans (discardPosted_commands _)

/-! ### Giving the bus away -/

/-- `t` differs from `s` at most in what BBM's choice touches: what the end of a command touches, the exchange, the
last winner, the map state and the cursor, discovery's probe and its cursor. -/
def BusOnly (s t : State) : Prop :=
  t = { s with
    ports := t.ports
    lki := { s.lki with
      answerQ := t.lki.answerQ, reportQ := t.lki.reportQ, lostReports := t.lki.lostReports }
    txu := { s.txu with
      table := t.txu.table, posted := t.txu.posted, recent := t.txu.recent, postedLost := t.txu.postedLost }
    bbm := { s.bbm with
      exchange := t.bbm.exchange, lastWinner := t.bbm.lastWinner, mapState := t.bbm.mapState, cursor := t.bbm.cursor }
    ltu := { s.ltu with lockers := t.ltu.lockers, probing := t.ltu.probing, probeCursor := t.ltu.probeCursor }
    oru := t.oru
    pni := { s.pni with releases := t.pni.releases } }

theorem BusOnly.refl (s : State) : BusOnly s s := rfl

theorem BusOnly.trans {s t u : State} (h : BusOnly s t) (k : BusOnly t u) : BusOnly s u := by
  unfold BusOnly at *
  rw [k, h]

theorem CommandsOnly.bus {s t : State} (h : CommandsOnly s t) : BusOnly s t := by
  unfold CommandsOnly BusOnly at *
  rw [h]

theorem BusOnly.onlyBusSide {s t : State} (h : BusOnly s t) : OnlyBusSide s t := by
  unfold OnlyBusSide BusOnly at *
  rw [h]

theorem BusOnly.pending {s t : State} (h : BusOnly s t) : t.pending = s.pending := (congrArg State.pending h).trans rfl
theorem BusOnly.upMs {s t : State} (h : BusOnly s t) : t.upMs = s.upMs := (congrArg State.upMs h).trans rfl
theorem BusOnly.shedLines {s t : State} (h : BusOnly s t) : t.shedLines = s.shedLines := (congrArg State.shedLines h).trans rfl
theorem BusOnly.hau {s t : State} (h : BusOnly s t) : t.hau = s.hau := (congrArg State.hau h).trans rfl
theorem BusOnly.hta {s t : State} (h : BusOnly s t) : t.hta = s.hta := (congrArg State.hta h).trans rfl
theorem BusOnly.sst {s t : State} (h : BusOnly s t) : t.sst = s.sst := (congrArg State.sst h).trans rfl
theorem BusOnly.rx {s t : State} (h : BusOnly s t) : t.lki.rx = s.lki.rx :=
  (congrArg (fun x => x.lki.rx) h).trans rfl
theorem BusOnly.gapTimer {s t : State} (h : BusOnly s t) : t.lki.gapTimer = s.lki.gapTimer :=
  (congrArg (fun x => x.lki.gapTimer) h).trans rfl
theorem BusOnly.tx {s t : State} (h : BusOnly s t) : t.lki.tx = s.lki.tx :=
  (congrArg (fun x => x.lki.tx) h).trans rfl
theorem BusOnly.placesHeld {s t : State} (h : BusOnly s t) : t.lki.placesHeld = s.lki.placesHeld :=
  (congrArg (fun x => x.lki.placesHeld) h).trans rfl
theorem BusOnly.silenceTimer {s t : State} (h : BusOnly s t) : t.lki.silenceTimer = s.lki.silenceTimer :=
  (congrArg (fun x => x.lki.silenceTimer) h).trans rfl
theorem BusOnly.island {s t : State} (h : BusOnly s t) : t.lki.island = s.lki.island :=
  (congrArg (fun x => x.lki.island) h).trans rfl
theorem BusOnly.islandStart {s t : State} (h : BusOnly s t) : t.lki.islandStart = s.lki.islandStart :=
  (congrArg (fun x => x.lki.islandStart) h).trans rfl
theorem BusOnly.errors {s t : State} (h : BusOnly s t) : t.lki.errors = s.lki.errors :=
  (congrArg (fun x => x.lki.errors) h).trans rfl
theorem BusOnly.islandEntries {s t : State} (h : BusOnly s t) : t.lki.islandEntries = s.lki.islandEntries :=
  (congrArg (fun x => x.lki.islandEntries) h).trans rfl
theorem BusOnly.discovery {s t : State} (h : BusOnly s t) : t.ltu.discovery = s.ltu.discovery :=
  (congrArg (fun x => x.ltu.discovery) h).trans rfl
theorem BusOnly.answered {s t : State} (h : BusOnly s t) : t.ltu.answered = s.ltu.answered :=
  (congrArg (fun x => x.ltu.answered) h).trans rfl
theorem BusOnly.nextSeq {s t : State} (h : BusOnly s t) : t.txu.nextSeq = s.txu.nextSeq :=
  (congrArg (fun x => x.txu.nextSeq) h).trans rfl
theorem BusOnly.longOp {s t : State} (h : BusOnly s t) : t.txu.longOp = s.txu.longOp :=
  (congrArg (fun x => x.txu.longOp) h).trans rfl
theorem BusOnly.cycle {s t : State} (h : BusOnly s t) : t.bbm.cycle = s.bbm.cycle :=
  (congrArg (fun x => x.bbm.cycle) h).trans rfl
theorem BusOnly.pollGap {s t : State} (h : BusOnly s t) : t.bbm.pollGap = s.bbm.pollGap :=
  (congrArg (fun x => x.bbm.pollGap) h).trans rfl
theorem BusOnly.line {s t : State} (h : BusOnly s t) : t.bbm.line = s.bbm.line :=
  (congrArg (fun x => x.bbm.line) h).trans rfl
theorem BusOnly.lineMs {s t : State} (h : BusOnly s t) : t.bbm.lineMs = s.bbm.lineMs :=
  (congrArg (fun x => x.bbm.lineMs) h).trans rfl
theorem BusOnly.failedExchanges {s t : State} (h : BusOnly s t) : t.bbm.failedExchanges = s.bbm.failedExchanges :=
  (congrArg (fun x => x.bbm.failedExchanges) h).trans rfl
theorem BusOnly.failedPolls {s t : State} (h : BusOnly s t) : t.bbm.failedPolls = s.bbm.failedPolls :=
  (congrArg (fun x => x.bbm.failedPolls) h).trans rfl
theorem BusOnly.unknownCount {s t : State} (h : BusOnly s t) : t.pni.unknownCount = s.pni.unknownCount :=
  (congrArg (fun x => x.pni.unknownCount) h).trans rfl
theorem BusOnly.windowTimer {s t : State} (h : BusOnly s t) : t.pni.windowTimer = s.pni.windowTimer :=
  (congrArg (fun x => x.pni.windowTimer) h).trans rfl
theorem BusOnly.lockoutTimer {s t : State} (h : BusOnly s t) : t.pni.lockoutTimer = s.pni.lockoutTimer :=
  (congrArg (fun x => x.pni.lockoutTimer) h).trans rfl
theorem BusOnly.params {s t : State} (h : BusOnly s t) : t.params = s.params :=
  (congrArg (fun x => State.params x) h).trans rfl
theorem BusOnly.profile {s t : State} (h : BusOnly s t) (i : Nat) : t.profile i = s.profile i :=
  (congrArg (fun x => State.profile x i) h).trans rfl
theorem BusOnly.feedEntry {s t : State} (h : BusOnly s t) (f : Nat) : t.feedEntry f = s.feedEntry f :=
  (congrArg (fun x => State.feedEntry x f) h).trans rfl
theorem BusOnly.layoutEntry {s t : State} (h : BusOnly s t) (m : Nat) : t.layoutEntry m = s.layoutEntry m :=
  (congrArg (fun x => State.layoutEntry x m) h).trans rfl
theorem BusOnly.discovering {s t : State} (h : BusOnly s t) : t.discovering = s.discovering :=
  (congrArg (fun x => State.discovering x) h).trans rfl
theorem BusOnly.uptime {s t : State} (h : BusOnly s t) : t.uptime = s.uptime :=
  (congrArg (fun x => State.uptime x) h).trans rfl

theorem beginBroadcast_bus (s : State) : BusOnly s (beginBroadcast s) := rfl

theorem beginPoll_bus (r : PollRequest) (s : State) : BusOnly s (beginPoll r s) := by cases r <;> rfl

theorem beginExchange_bus (n q : Nat) (f : BusFrame) (s : State) : BusOnly s (beginExchange n q f s) := rfl

theorem beginCommand_bus (q : Nat) (s : State) : BusOnly s (beginCommand q s) := by
  have h : BusOnly s (putOnBus q (s.withBbm { s.bbm with lastWinner := .command })) := rfl
  unfold beginCommand
  dsimp only
  split
  · split
    · split
      · exact h.trans (endCommand_commands _ _ _).bus
      · exact h.trans (beginExchange_bus _ _ _ _)
    · exact h.trans (beginExchange_bus _ _ _ _)
  · split
    · exact h.trans (beginExchange_bus _ _ _ _)
    · exact h

theorem chooseBusLoop_bus (k : Nat) (s : State) : BusOnly s (chooseBusLoop k s) := by
  induction k generalizing s with
  | zero => exact .refl s
  | succ k ih =>
    unfold chooseBusLoop
    split
    · split
      · exact beginBroadcast_bus s
      · split
        · split
          · exact beginPoll_bus _ s
          · exact (beginCommand_bus _ s).trans (ih _)
        · exact (beginCommand_bus _ s).trans (ih _)
        · exact beginPoll_bus _ s
        · exact .refl s
    · exact .refl s

theorem chooseBus_bus (s : State) : BusOnly s (chooseBus s) := chooseBusLoop_bus _ s

/-- A bus in use or in reset is not given away (R95). -/
theorem chooseBus_busy (s : State) (h : busFree s = false) : chooseBus s = s := by
  unfold chooseBus chooseBusLoop
  simp [h]

end Sys2Proof.Machine
end

