-- ==== Sys2Proof/Laws/Orders.lean ====
section
/-! SUPPORT. What the operations over orders, free lists and phases set, field by field (chapters 01 and 02). -/

namespace Sys2Proof.Machine

/-! ### Free lists (R35) -/

theorem leftFree_freeList (c k : SizeClass) (n : Nat) (s : State) :
    (leftFree c n s).freeList k = if k = c then (s.freeList c).filter (fun m => m != n) else s.freeList k :=
  State.setFreeList_freeList _ _ _ _

theorem appendFree_freeList (c k : SizeClass) (n : Nat) (s : State) :
    (appendFree c n s).freeList k = if k = c then s.freeList c ++ [n] else s.freeList k :=
  State.setFreeList_freeList _ _ _ _

@[simp] theorem leftFree_lki (c : SizeClass) (n : Nat) (s : State) : (leftFree c n s).lki = s.lki :=
  State.setFreeList_lki _ _ _
@[simp] theorem leftFree_ltu (c : SizeClass) (n : Nat) (s : State) : (leftFree c n s).ltu = s.ltu :=
  State.setFreeList_ltu _ _ _
@[simp] theorem leftFree_locker (c : SizeClass) (n m : Nat) (s : State) : (leftFree c n s).locker m = s.locker m :=
  State.setFreeList_locker _ _ _ _
@[simp] theorem leftFree_orders (c : SizeClass) (n : Nat) (s : State) :
    (leftFree c n s).oru.orders = s.oru.orders := State.setFreeList_orders _ _ _
@[simp] theorem leftFree_codeMap (c : SizeClass) (n : Nat) (s : State) :
    (leftFree c n s).oru.codeMap = s.oru.codeMap := State.setFreeList_codeMap _ _ _
@[simp] theorem leftFree_queue (c : SizeClass) (n : Nat) (s : State) : (leftFree c n s).oru.queue = s.oru.queue :=
  State.setFreeList_queue _ _ _
@[simp] theorem leftFree_order (c : SizeClass) (n i : Nat) (s : State) : (leftFree c n s).order? i = s.order? i :=
  State.setFreeList_order _ _ _ _

@[simp] theorem appendFree_lki (c : SizeClass) (n : Nat) (s : State) : (appendFree c n s).lki = s.lki :=
  State.setFreeList_lki _ _ _
@[simp] theorem appendFree_ltu (c : SizeClass) (n : Nat) (s : State) : (appendFree c n s).ltu = s.ltu :=
  State.setFreeList_ltu _ _ _
@[simp] theorem appendFree_locker (c : SizeClass) (n m : Nat) (s : State) :
    (appendFree c n s).locker m = s.locker m := State.setFreeList_locker _ _ _ _
@[simp] theorem appendFree_orders (c : SizeClass) (n : Nat) (s : State) :
    (appendFree c n s).oru.orders = s.oru.orders := State.setFreeList_orders _ _ _
@[simp] theorem appendFree_codeMap (c : SizeClass) (n : Nat) (s : State) :
    (appendFree c n s).oru.codeMap = s.oru.codeMap := State.setFreeList_codeMap _ _ _
@[simp] theorem appendFree_queue (c : SizeClass) (n : Nat) (s : State) :
    (appendFree c n s).oru.queue = s.oru.queue := State.setFreeList_queue _ _ _
@[simp] theorem appendFree_order (c : SizeClass) (n i : Nat) (s : State) :
    (appendFree c n s).order? i = s.order? i := State.setFreeList_order _ _ _ _

/-! ### Changes of phase (R7) -/

/-- The record of a locker that changes phase. -/
@[simp] theorem moveTo_locker_same (p : Phase) (n : Nat) (s : State) (h : n < 48) :
    (moveTo p n s).locker n = (s.locker n).enter p := by
  unfold moveTo
  dsimp only
  split <;> simp [h]

@[simp] theorem moveTo_locker_ne (p : Phase) (n m : Nat) (s : State) (h : m ≠ n) :
    (moveTo p n s).locker m = s.locker m := by
  unfold moveTo
  dsimp only
  split <;> simp [h]

/-- The free lists at a change of phase: a locker that leaves FREE leaves its class's list (R35). -/
theorem moveTo_freeList (p : Phase) (n : Nat) (s : State) (k : SizeClass) :
    (moveTo p n s).freeList k =
      if (s.locker n).phase = .free ∧ k = (s.locker n).cls then (s.freeList k).filter (fun m => m != n)
      else s.freeList k := by
  unfold moveTo
  dsimp only
  split
  · rename_i h
    rw [leftFree_freeList]
    by_cases hk : k = (s.locker n).cls <;> simp [h, hk]
  · rename_i h
    simp [h]

/-- A locker that was not FREE changes phase without the Order Unit. -/
theorem moveTo_of_not_free (p : Phase) (n : Nat) (s : State) (h : (s.locker n).phase ≠ .free) :
    moveTo p n s = s.setLocker n ((s.locker n).enter p) := by
  simp [moveTo, h]

@[simp] theorem moveTo_lki (p : Phase) (n : Nat) (s : State) : (moveTo p n s).lki = s.lki := by
  unfold moveTo
  dsimp only
  split <;> simp
@[simp] theorem moveTo_orders (p : Phase) (n : Nat) (s : State) : (moveTo p n s).oru.orders = s.oru.orders := by
  unfold moveTo
  dsimp only
  split <;> simp
@[simp] theorem moveTo_codeMap (p : Phase) (n : Nat) (s : State) :
    (moveTo p n s).oru.codeMap = s.oru.codeMap := by
  unfold moveTo
  dsimp only
  split <;> simp
@[simp] theorem moveTo_queue (p : Phase) (n : Nat) (s : State) : (moveTo p n s).oru.queue = s.oru.queue := by
  unfold moveTo
  dsimp only
  split <;> simp
@[simp] theorem moveTo_order (p : Phase) (n i : Nat) (s : State) : (moveTo p n s).order? i = s.order? i := by
  unfold moveTo
  dsimp only
  split <;> simp

@[simp] theorem arrive_phase (p : Phase) (l : Locker) : (l.arrive p).phase = p := by cases p <;> rfl
@[simp] theorem enter_phase (p : Phase) (l : Locker) : (l.enter p).phase = p := arrive_phase _ _

/-- What a change of phase keeps of a record whatever the phases. -/
theorem enter_keeps (p : Phase) (l : Locker) :
    (l.enter p).cls = l.cls ∧ (l.enter p).fenced = l.fenced ∧ (l.enter p).feed = l.feed ∧
      (l.enter p).power = l.power ∧ (l.enter p).kDoor = l.kDoor ∧ (l.enter p).cDoor = l.cDoor ∧
      (l.enter p).kSeen = l.kSeen ∧ (l.enter p).cSeen = l.cSeen ∧ (l.enter p).sample = l.sample ∧
      (l.enter p).sampleAge = l.sampleAge ∧ (l.enter p).occupancy = l.occupancy ∧ (l.enter p).fault = l.fault ∧
      (l.enter p).pollFails = l.pollFails ∧ (l.enter p).heaterExcluded = l.heaterExcluded ∧
      (l.enter p).overheatInhibit = l.overheatInhibit ∧ (l.enter p).demand = l.demand ∧
      (l.enter p).granted = l.granted ∧ (l.enter p).starved = l.starved ∧ (l.enter p).populated = l.populated := by
  unfold Locker.enter Locker.leave
  split <;> cases p <;> simp [Locker.arrive]

/-! ### Placement (R41) -/

@[simp] theorem leaveQueue_locker (id m : Nat) (s : State) : (leaveQueue id s).locker m = s.locker m := rfl
@[simp] theorem leaveQueue_order (id i : Nat) (s : State) : (leaveQueue id s).order? i = s.order? i := rfl
@[simp] theorem leaveQueue_freeList (id : Nat) (s : State) (k : SizeClass) :
    (leaveQueue id s).freeList k = s.freeList k := by cases k <;> rfl

/-- A placement: the order PLACED, out of the queue, the locker off its list and RESERVED (R41). -/
theorem join_orders (id n : Nat) (s : State) :
    (join id n s).oru.orders =
      s.oru.orders.map fun o => if o.id == id then { o with status := .placed n 0 false } else o := by
  simp [join, leaveQueue]

@[simp] theorem join_codeMap (id n : Nat) (s : State) : (join id n s).oru.codeMap = s.oru.codeMap := by
  simp [join, leaveQueue]

@[simp] theorem join_queue (id n : Nat) (s : State) :
    (join id n s).oru.queue = s.oru.queue.filter fun i => i != id := by
  simp [join, leaveQueue]

@[simp] theorem join_lki (id n : Nat) (s : State) : (join id n s).lki = s.lki := by
  simp [join, leaveQueue]

theorem join_freeList (id n : Nat) (s : State) (k : SizeClass) :
    (join id n s).freeList k =
      if k = (s.locker n).cls then (s.freeList k).filter (fun m => m != n) else s.freeList k := by
  have h : (join id n s).freeList k = (leftFree (s.locker n).cls n s).freeList k := by
    simp [join]
  rw [h, leftFree_freeList]
  split
  · rename_i hk
    rw [hk]
  · rfl

theorem join_order (id n : Nat) (s : State) (i : Nat) :
    (join id n s).order? i =
      (s.order? i).map fun o => if o.id = id then { o with status := .placed n 0 false } else o := by
  have h : (join id n s).order? i =
      ((leftFree (s.locker n).cls n s).modOrder id fun o => { o with status := .placed n 0 false }).order? i := rfl
  rw [h, State.modOrder_order _ _ _ (fun o => { o with status := .placed n 0 false }) fun _ => rfl]
  simp

theorem join_locker_same (id n : Nat) (s : State) (h : n < 48) :
    (join id n s).locker n = (s.locker n).reserve id := by
  simp [join, h]

theorem join_locker_ne (id n m : Nat) (s : State) (h : m ≠ n) : (join id n s).locker m = s.locker m := by
  simp [join, h]

/-! ### Condemnation and removal (2.10) -/

theorem condemn_unknown (id : Nat) (c : Cause) (s : State) (h : s.order? id = none) : condemn id c s = s := by
  simp [condemn, h]

/-- A condemned order keeps its first cause (R48). -/
theorem condemn_again (id : Nat) (c k : Cause) (o : Order) (s : State) (h : s.order? id = some o)
    (hk : o.condemned = some k) : condemn id c s = s := by
  simp [condemn, h, hk]

/-- The first condemnation of a placed order: its cause, CONDEMNED, and the notice at its locker (R48). -/
theorem condemn_placed (id n : Nat) (c : Cause) (o : Order) (s : State) (h : s.order? id = some o)
    (hk : o.condemned = none) (hl : o.locker = some n) :
    condemn id c s =
      (submit .condemned [.b4 id, .b1 c.code, .b1 n]
        (s.modOrder id fun o => { o with condemned := some c })).modLocker n Locker.condemnNotice := by
  simp [condemn, h, hk, hl, Field.opt1]

theorem condemn_codeMap (id : Nat) (c : Cause) (s : State) : (condemn id c s).oru.codeMap = s.oru.codeMap := by
  unfold condemn
  split
  · rfl
  · split
    · rfl
    · dsimp only
      split <;> simp

theorem condemn_queue (id : Nat) (c : Cause) (s : State) : (condemn id c s).oru.queue = s.oru.queue := by
  unfold condemn
  split
  · rfl
  · split
    · rfl
    · dsimp only
      split <;> simp

theorem condemn_freeList (id : Nat) (c : Cause) (s : State) (k : SizeClass) :
    (condemn id c s).freeList k = s.freeList k := by
  unfold condemn
  split
  · rfl
  · split
    · rfl
    · dsimp only
      split <;> simp

/-- Removal takes the order out of the table, the code map and the queue (R49). -/
@[simp] theorem removeOrder_orders (id : Nat) (s : State) :
    (removeOrder id s).oru.orders = s.oru.orders.filter fun o => o.id != id := by
  unfold removeOrder leaveQueue
  dsimp only
  split <;> simp

@[simp] theorem removeOrder_codeMap (id : Nat) (s : State) :
    (removeOrder id s).oru.codeMap = s.oru.codeMap.filter fun e => e.2 != id := by
  unfold removeOrder leaveQueue
  dsimp only
  split <;> simp

@[simp] theorem removeOrder_queue (id : Nat) (s : State) :
    (removeOrder id s).oru.queue = s.oru.queue.filter fun i => i != id := by
  unfold removeOrder leaveQueue
  dsimp only
  split <;> simp

@[simp] theorem removeOrder_lki (id : Nat) (s : State) : (removeOrder id s).lki = s.lki := by
  unfold removeOrder leaveQueue
  dsimp only
  split <;> simp

@[simp] theorem removeOrder_freeList (id : Nat) (s : State) (k : SizeClass) :
    (removeOrder id s).freeList k = s.freeList k := by
  have h (x : State) (m : Nat) : (leaveQueue id (x.modLocker m fun l => { l with orderRef := none })).freeList k =
      x.freeList k := by simp
  unfold removeOrder
  dsimp only
  split
  · exact (by cases k <;> rfl : _ = _).trans (h s _)
  · cases k <;> rfl

/-- Removal takes the order reference from the locker of a placed order (R49). -/
theorem removeOrder_locker_same (id n : Nat) (o : Order) (s : State) (h : s.order? id = some o)
    (hl : o.locker = some n) (hn : n < 48) :
    (removeOrder id s).locker n = { s.locker n with orderRef := none } := by
  have e : (removeOrder id s).locker n = (s.modLocker n fun l => { l with orderRef := none }).locker n := by
    unfold removeOrder
    simp [h, hl]
    rfl
  rw [e]
  simp [hn]

theorem removeOrder_locker_ne (id n : Nat) (s : State)
    (h : ∀ o, s.order? id = some o → o.locker ≠ some n) : (removeOrder id s).locker n = s.locker n := by
  unfold removeOrder
  dsimp only
  split
  · rename_i m hm
    have hne : n ≠ m := by
      rintro rfl
      simp only [Option.bind_eq_some_iff] at hm
      obtain ⟨o, ho, hl⟩ := hm
      exact h o ho hl
    show (s.modLocker m fun l => { l with orderRef := none }).locker n = _
    simp [hne]
  · rfl

/-- Removal leaves every record's phase, class and fence as they were. -/
theorem removeOrder_locker_keeps (id n : Nat) (s : State) :
    (removeOrder id s).locker n = s.locker n ∨
      (removeOrder id s).locker n = { s.locker n with orderRef := none } := by
  unfold removeOrder
  dsimp only
  split
  · rename_i m hm
    show (s.modLocker m fun l => { l with orderRef := none }).locker n = _ ∨
      (s.modLocker m fun l => { l with orderRef := none }).locker n = _
    by_cases h : n = m
    · subst h
      by_cases hn : n < 48
      · right; simp [hn]
      · left; rw [State.modLocker_eq, State.setLocker_out _ _ _ (by omega)]
    · left; simp [h]
  · exact .inl rfl

/-! ### The free lists of a given state -/

/-- R35's law of the free lists, from its cases below 48: a number that names no locker is in no list. -/
theorem freeListsExact_of_below (s : State) (low : ∀ c, ∀ n ∈ s.freeList c, n < 48)
    (iff : ∀ c, ∀ n < 48, n ∈ s.freeList c ↔
      (s.locker n).phase = .free ∧ (s.locker n).fenced = false ∧ (s.locker n).cls = c)
    (once : ∀ c, (s.freeList c).Nodup) (origin : ∀ n < 48, (s.locker n).clearOrigin ≠ some .free) :
    s.FreeListsExact := by
  refine ⟨fun c n => ?_, once, fun n => ?_⟩
  · by_cases h : n < 48
    · exact iff c n h
    · rw [State.locker_out s n (by omega)]
      exact ⟨fun hn => absurd (low c n hn) h, fun hp => by simp [Locker.blank] at hp⟩
  · by_cases h : n < 48
    · exact origin n h
    · rw [State.locker_out s n (by omega)]
      simp [Locker.blank]

end Sys2Proof.Machine
end

