-- ==== Sys2Proof/Laws/PerInstr.lean ====
section
/-! SUPPORT. A law of every command as syntax: the frame header of a request that a far end can send (R137, R138). -/

namespace Sys2Proof.Laws.TagEcho

/-- A request is of one of the three downward classes, its kind number is one R138 lists in that class, and its tag is
one byte. A command that is no request has no frame. -/
def Statement (i : Instr) : Prop :=
  ∀ cls kind tag p, WellFormed i = true → encodeRequest i = some (cls, kind, tag, p) →
    tag < 256 ∧ 1 ≤ kind ∧ ((cls = 0x10 ∧ kind ≤ 7) ∨ (cls = 0x11 ∧ kind ≤ 5) ∨ (cls = 0x12 ∧ kind ≤ 13))

theorem book (tag order code cls profile budget deadline : Nat) : Statement (.book tag order code cls profile budget deadline) := by
  rintro _ _ _ _ w ⟨⟩
  simp_all [WellFormed, fits1]

theorem cancel (tag order : Nat) : Statement (.cancel tag order) := by
  rintro _ _ _ _ w ⟨⟩
  simp_all [WellFormed, fits1]

theorem extend (tag order seconds : Nat) : Statement (.extend tag order seconds) := by
  rintro _ _ _ _ w ⟨⟩
  simp_all [WellFormed, fits1]

theorem loadOpen (tag order : Nat) : Statement (.loadOpen tag order) := by
  rintro _ _ _ _ w ⟨⟩
  simp_all [WellFormed, fits1]

theorem release (tag order : Nat) : Statement (.release tag order) := by
  rintro _ _ _ _ w ⟨⟩
  simp_all [WellFormed, fits1]

theorem clear (tag order : Nat) : Statement (.clear tag order) := by
  rintro _ _ _ _ w ⟨⟩
  simp_all [WellFormed, fits1]

theorem queryOrder (tag order : Nat) : Statement (.queryOrder tag order) := by
  rintro _ _ _ _ w ⟨⟩
  simp_all [WellFormed, fits1]

theorem lamp (tag locker pattern : Nat) : Statement (.lamp tag locker pattern) := by
  rintro _ _ _ _ w ⟨⟩
  simp_all [WellFormed, fits1]

theorem label (tag locker : Nat) (text : List Byte) : Statement (.label tag locker text) := by
  rintro _ _ _ _ w ⟨⟩
  simp_all [WellFormed, fits1]

theorem moduleWrite (tag locker item value : Nat) : Statement (.moduleWrite tag locker item value) := by
  rintro _ _ _ _ w ⟨⟩
  simp_all [WellFormed, fits1]

theorem moduleRead (tag locker item : Nat) : Statement (.moduleRead tag locker item) := by
  rintro _ _ _ _ w ⟨⟩
  simp_all [WellFormed, fits1]

theorem abort (tag target : Nat) : Statement (.abort tag target) := by
  rintro _ _ _ _ w ⟨⟩
  simp_all [WellFormed, fits1]

theorem tableRead (tag table index : Nat) : Statement (.tableRead tag table index) := by
  rintro _ _ _ _ w ⟨⟩
  simp_all [WellFormed, fits1]

theorem tableWrite (tag index : Nat) (record : TableRecord) : Statement (.tableWrite tag index record) := by
  rintro _ _ _ _ w ⟨⟩
  simp_all [WellFormed, fits1]

theorem paramGet (tag param : Nat) : Statement (.paramGet tag param) := by
  rintro _ _ _ _ w ⟨⟩
  simp_all [WellFormed, fits1]

theorem paramSet (tag param value : Nat) : Statement (.paramSet tag param value) := by
  rintro _ _ _ _ w ⟨⟩
  simp_all [WellFormed, fits1]

theorem store (tag : Nat) : Statement (.store tag) := by
  rintro _ _ _ _ w ⟨⟩
  simp_all [WellFormed, fits1]

theorem rescan (tag : Nat) : Statement (.rescan tag) := by
  rintro _ _ _ _ w ⟨⟩
  simp_all [WellFormed, fits1]

theorem bankReset (tag : Nat) : Statement (.bankReset tag) := by
  rintro _ _ _ _ w ⟨⟩
  simp_all [WellFormed, fits1]

theorem serviceOn (tag locker : Nat) : Statement (.serviceOn tag locker) := by
  rintro _ _ _ _ w ⟨⟩
  simp_all [WellFormed, fits1]

theorem serviceOff (tag locker : Nat) : Statement (.serviceOff tag locker) := by
  rintro _ _ _ _ w ⟨⟩
  simp_all [WellFormed, fits1]

theorem serviceUnlatch (tag locker door : Nat) : Statement (.serviceUnlatch tag locker door) := by
  rintro _ _ _ _ w ⟨⟩
  simp_all [WellFormed, fits1]

theorem clearLocker (tag locker : Nat) : Statement (.clearLocker tag locker) := by
  rintro _ _ _ _ w ⟨⟩
  simp_all [WellFormed, fits1]

theorem status (tag : Nat) : Statement (.status tag) := by
  rintro _ _ _ _ w ⟨⟩
  simp_all [WellFormed, fits1]

theorem restart (tag : Nat) : Statement (.restart tag) := by
  rintro _ _ _ _ w ⟨⟩
  simp_all [WellFormed, fits1]

theorem receiveByte (byte : Byte) : Statement (.receiveByte byte) := by
  rintro _ _ _ _ _ ⟨⟩

theorem gapTimerExpiry : Statement .gapTimerExpiry := by
  rintro _ _ _ _ _ ⟨⟩

theorem silenceTimerExpiry : Statement .silenceTimerExpiry := by
  rintro _ _ _ _ _ ⟨⟩

theorem transmitEnd : Statement .transmitEnd := by
  rintro _ _ _ _ _ ⟨⟩

theorem scan (chars : List Nat) : Statement (.scan chars) := by
  rintro _ _ _ _ _ ⟨⟩

theorem windowTimerExpiry : Statement .windowTimerExpiry := by
  rintro _ _ _ _ _ ⟨⟩

theorem lockoutTimerExpiry : Statement .lockoutTimerExpiry := by
  rintro _ _ _ _ _ ⟨⟩

theorem powerOn (shed0 shed1 shed2 shed3 : Bool) : Statement (.powerOn shed0 shed1 shed2 shed3) := by
  rintro _ _ _ _ _ ⟨⟩

theorem holdTick : Statement .holdTick := by
  rintro _ _ _ _ _ ⟨⟩

theorem frameStart (shed0 shed1 shed2 shed3 : Bool) : Statement (.frameStart shed0 shed1 shed2 shed3) := by
  rintro _ _ _ _ _ ⟨⟩

theorem pollGapTimerExpiry : Statement .pollGapTimerExpiry := by
  rintro _ _ _ _ _ ⟨⟩

theorem doorHeld (locker : Nat) : Statement (.doorHeld locker) := by
  rintro _ _ _ _ _ ⟨⟩

theorem pulseEnd : Statement .pulseEnd := by
  rintro _ _ _ _ _ ⟨⟩

theorem quietEnd : Statement .quietEnd := by
  rintro _ _ _ _ _ ⟨⟩

theorem storeEnd (readBackGood : Bool) : Statement (.storeEnd readBackGood) := by
  rintro _ _ _ _ _ ⟨⟩

theorem replyReceived (frame : List Byte) : Statement (.replyReceived frame) := by
  rintro _ _ _ _ _ ⟨⟩

theorem replyTimeout : Statement .replyTimeout := by
  rintro _ _ _ _ _ ⟨⟩

theorem broadcastEnd : Statement .broadcastEnd := by
  rintro _ _ _ _ _ ⟨⟩

end Sys2Proof.Laws.TagEcho
end

