-- ==== Sys2Proof/Tests/Slice0.lean ====
section
/-! SUPPORT. Tests: ill-formed terms refused, worked examples of the manual, and for every statement with hypotheses a
state and operands that meet them, clause by clause. Expected values are the manual's. -/

namespace Sys2Proof.Tests

open Sys2Proof.Machine

/-! ### Small states -/

/-- A bank out of discovery with an idle bus, whose locker 0 is `l`, all other positions ABSENT, with orders `os`. -/
def bench (l : Locker) (os : List Order) : State :=
  { State.reset with
    txu := { State.reset.txu with longOp := none }
    bbm := { State.reset.bbm with line := .idle }
    ltu := { State.reset.ltu with
      lockers := vinit 48 fun n => if n = 0 then l else { Locker.blank with phase := .absent }
      discovery := none }
    oru := { State.reset.oru with
      orders := os
      codeMap := os.map fun o => (o.code, o.id)
      queue := (os.filter Order.isPending).map Order.id }
    hau := ⟨some 0⟩
    hta := { State.reset.hta with frameTimer := some 0 } }

/-- A populated locker in a phase, referring to order 7. -/
def lockerIn (p : Phase) : Locker := { Locker.blank with populated := true, phase := p, orderRef := some 7 }

/-- Order 7, placed on locker 0, not loaded. -/
def meal : Order := ⟨7, 1234, .medium, 0, 3600, 0, .placed 0 0 false, 0, none, none⟩

/-- Order 7, loaded. -/
def held : Order := { meal with hold := some ⟨3600, 0, false⟩ }

/-- Order 7, waiting for a locker. -/
def waiting : Order := { meal with status := .pending 5 }

/-- A FREE locker, in its class's list. -/
def oneFree : State :=
  let s := bench { lockerIn .free with orderRef := none } []
  { s with oru := { s.oru with freeMedium := [0] } }

/-- A bench whose report queue holds 32 reports of a kind. -/
def fullOf (k : ReportKind) : State :=
  { bench (lockerIn .free) [] with
    lki := { State.reset.lki with reportQ := List.replicate 32 ⟨k, 0, 0, []⟩, tx := some (.report ⟨k, 0, 0, []⟩) } }

/-- A bench with no answer place free. -/
def fullPlaces : State := { bench (lockerIn .free) [] with lki := { State.reset.lki with placesHeld := 32 } }

/-- An entry of the transaction table for locker 0 with tag 9. -/
def entry (r : CmdRequest) (st : Stage) : Entry := ⟨.server, some 9, r, 0, some .k, none, 0, st⟩

def withEntry (e : Entry) (s : State) : State := { s with txu := { s.txu with table := [e] } }

def withExchange (x : Exchange) (s : State) : State := { s with bbm := { s.bbm with exchange := some x } }

def inDiscovery (s : State) : State := { s with ltu := { s.ltu with discovery := some ⟨.rescan, .probing⟩ } }

def strict (s : State) : State := { s with sst := { s.sst with strictHold := true } }

/-- The state after a command, or the state itself where it stops. -/
def after (c : Instr) (s : State) : State := match exec c s with | .next t => t | _ => s

/-! ### Well-formedness: one ill-formed term for each check -/

theorem test_wf_tag : WellFormed (.status 256) = false := by decide
theorem test_wf_order_id : WellFormed (.cancel 1 4294967296) = false := by decide
theorem test_wf_seconds : WellFormed (.extend 1 7 65536) = false := by decide
theorem test_wf_book_code : WellFormed (.book 1 7 4294967296 1 0 60 0) = false := by decide
theorem test_wf_book_budget : WellFormed (.book 1 7 1 1 0 65536 0) = false := by decide
theorem test_wf_lamp : WellFormed (.lamp 1 0 256) = false := by decide
theorem test_wf_label_length : WellFormed (.label 1 0 (List.replicate 246 32)) = false := by decide +kernel
theorem test_wf_label_byte : WellFormed (.label 1 0 [256]) = false := by decide
theorem test_wf_write_value : WellFormed (.moduleWrite 1 0 0 65536) = false := by decide
theorem test_wf_read_item : WellFormed (.moduleRead 1 0 256) = false := by decide
theorem test_wf_abort : WellFormed (.abort 1 256) = false := by decide
theorem test_wf_table : WellFormed (.tableRead 1 3 0) = false := by decide
theorem test_wf_layout : WellFormed (.tableWrite 1 0 (.layout 1 1 1 65536)) = false := by decide
theorem test_wf_profile : WellFormed (.tableWrite 1 0 (.profile 32768 0 0 0 0 0 0)) = false := by decide
theorem test_wf_feed : WellFormed (.tableWrite 1 0 (.feed 0 0 256)) = false := by decide
theorem test_wf_param_get : WellFormed (.paramGet 1 17) = false := by decide
theorem test_wf_param_bytes : WellFormed (.paramSet 1 1 256) = false := by decide
theorem test_wf_locker : WellFormed (.serviceOn 1 256) = false := by decide
theorem test_wf_door : WellFormed (.serviceUnlatch 1 0 256) = false := by decide
theorem test_wf_byte : WellFormed (.receiveByte 256) = false := by decide
theorem test_wf_char : WellFormed (.scan [1114112]) = false := by decide
theorem test_wf_door_held : WellFormed (.doorHeld 48) = false := by decide
theorem test_wf_reply : WellFormed (.replyReceived (List.replicate 207 0)) = false := by decide +kernel
theorem test_wf_reply_byte : WellFormed (.replyReceived [256]) = false := by decide

/-! ### The manual's numbers and worked examples -/

/-- R134: the nine characters 1 to 9 give 0x29B1. -/
theorem test_crc_check_value : crc16 [0x31, 0x32, 0x33, 0x34, 0x35, 0x36, 0x37, 0x38, 0x39] = 0x29B1 := by decide +kernel

/-- The profile of the worked examples of chapter 04. -/
def exampleProfile : Profile := ⟨700, 660, 900, 600, 300, 8, 6⟩

/-- Worked examples of 4.5: the demands of the table with an order not condemned. -/
theorem test_demand_table :
    [some 655, some 712, some 200, some 800, none, some 870].map (profileDemand exampleProfile) =
      [11, 4, 20, 0, 6, 0] := by decide

/-- Worked example of 4.7: locker 14 with 400 W and demand 11, then locker 12 with 600 W and demand 20, under 900 W. -/
theorem test_slot_fill_first_two :
    let a := fillSlots 400 900 20 11 0 (List.replicate 20 0) []
    let b := fillSlots 600 900 20 20 a.1 a.2.1 []
    a.1 = 11 ∧ a.2.2 = List.range 11 ∧ b.1 = 11 ∧ b.2.2 = [11, 12, 13, 14, 15, 16, 17, 18, 19] := by decide

/-- Worked example of 4.7: then locker 19 with 300 W and demand 4, then locker 21 with 300 W and demand 20. -/
theorem test_slot_fill_last_two :
    let loads := List.replicate 11 400 ++ List.replicate 9 600
    let c := fillSlots 300 900 20 4 11 loads []
    let d := fillSlots 300 900 20 20 c.1 c.2.1 []
    c.1 = 15 ∧ c.2.2 = [11, 12, 13, 14] ∧ d.1 = 15 ∧ d.2.2 = [15, 16, 17, 18, 19, 0, 1, 2, 3, 4, 5, 6, 7, 8, 9, 10] ∧
      d.2.1 = List.replicate 11 700 ++ List.replicate 9 900 := by decide

/-- Worked example of 4.7: the grant order of each tier from its pointer. -/
theorem test_rotation_order : rotated 20 [14] = [14] ∧ rotated 12 [12, 19] = [12, 19] ∧ rotated 13 [12, 19] = [19, 12] := by
  decide

/-- Worked example of 3.3: five ticks under floor 630. -/
theorem test_five_ticks :
    let h1 := Hold.charge 630 (some 641) ⟨12, 595, true⟩
    let h2 := h1.charge 630 (some 612)
    let h3 := h2.charge 630 (some 575)
    let h4 := h3.charge 630 (some 480)
    let h5 := h4.charge 630 none
    [h1, h2, h3, h4, h5].map (fun h => (h.life, h.cold)) = [(11, 595), (10, 596), (8, 597), (4, 598), (0, 599)] ∧
      h4.verdict 600 = none ∧ h5.verdict 600 = some .expired := by decide

/-- Worked example of 3.5: EXTEND with 60, with 400, and of 7000 with 600. -/
theorem test_extensions :
    extendHold 300 60 ⟨4, 598, true⟩ = ⟨64, 598, true⟩ ∧ extendHold 300 400 ⟨4, 598, true⟩ = ⟨404, 598, false⟩ ∧
      (extendHold 300 600 ⟨7000, 0, false⟩).life = 7200 := by decide

/-- Worked example of 1.5: the C count goes from 255 to 0 between two polls, and the pickup is collected. -/
theorem test_pickup_between_polls :
    let l := { lockerIn .pickup with cSeen := 255, kSeen := 9, occupancy := .occupied }
    let s := goodPoll 0 ⟨some 700, .latched, .latched, 9, 0, .empty, .none, false⟩ false (bench l [held])
    (s.locker 0).phase = .purging ∧ (s.locker 0).orderRef = none ∧ (s.locker 0).cSeen = 0 ∧ s.oru.orders = [] ∧
      s.lki.reportQ.map Report.kind = [.collected] := by decide

/-- Worked example of 2.13, event 6: a hold budget of 9000 is clamped to 7200 and the order waits. -/
theorem test_book_waits :
    (after (.book 1 7106 55 1 0 9000 0) (bench (lockerIn .holding) [held])).lki.tx =
      some (.answer ⟨kBook, 1, .pending, [.b1 1, .b2 7200, .b2 0]⟩) := by decide

/-- Worked example of 6.5, event 5: an ABORT of a WAITING LOAD_OPEN takes the locker back to RESERVED. -/
theorem test_abort_waiting :
    let s := withEntry (entry .loadOpen .waiting) (bench { lockerIn .loading with unlatchPending := some .k } [meal])
    let t := after (.abort 60 9) { s with lki := { s.lki with placesHeld := 1 } }
    (t.locker 0).phase = .reserved ∧ (t.locker 0).unlatchPending = none ∧ t.txu.table = [] ∧ t.txu.recent = [9] ∧
      t.lki.tx = some (.answer ⟨kLoadOpen, 9, .aborted, []⟩) ∧ t.lki.answerQ = [⟨kAbort, 60, .ok, []⟩] := by decide

/-- Worked example of 8.4: seven digits are malformed, eight digits are a code. -/
theorem test_scan_code :
    scanCode [48, 52, 49, 50, 50, 51, 51] = none ∧ scanCode [53, 53, 49, 50, 48, 56, 55, 52] = some 55120874 := by
  decide

/-- Worked example of 9.5: B is the older of generations 6 and 5 and is written as 7; then A as 8; a generation wraps. -/
theorem test_store_copies :
    storeTarget (some ⟨6, Settings.factory⟩) (some ⟨5, Settings.factory⟩) = (.b, 7) ∧
      storeTarget (some ⟨6, Settings.factory⟩) (some ⟨7, Settings.factory⟩) = (.a, 8) ∧
      storeTarget none (some ⟨7, Settings.factory⟩) = (.a, 8) ∧ newerGeneration 65535 0 = true := by decide

/-- Worked example of 10.5, events 1 and 7: opened-noted stands through a bank reset and the pickup ends as COLLECTED. -/
theorem test_reset_in_pickup :
    let l := { lockerIn .pickup with openedNoted := some true, cSeen := 14, occupancy := .occupied }
    let s := (bench l [held]).resetNotice
    let t := goodPoll 0 ⟨some 700, .latched, .latched, 0, 0, .empty, .none, false⟩ false s
    (s.locker 0).openedNoted = some true ∧ (s.locker 0).cSeen = 0 ∧ (t.locker 0).phase = .purging := by decide

/-- R153: slot 0 is the least significant bit of the first byte, slot 19 bit 3 of the third. -/
theorem test_slot_bytes : slotBytes [0, 8, 19] = [1, 1, 8] := by decide

/-- R150, R134: the frame of a STATUS with tag 5 in its bytes before the check. -/
theorem test_status_frame : (requestFrame (.status 5)).map (List.take 5) = some [0xC3, 4, 0x12, 12, 5] := by decide

/-- R91, R152: a frame whose check is wrong is no reply. -/
theorem test_bad_check : readReply 3 0x02 [0x96, 3, 0x80, 0, 0, 0] = none := by decide

/-! ### Witnesses: states that meet each statement's hypotheses -/

abbrev Ready (s : State) : Prop := s.lki.placesHeld < 32 ∧ s.ltu.discovery = none

/-- A bench that is about to book an order. -/
def booking : State := { oneFree with pending := [.book 1 8 99 1 0 600 0] }

theorem oneFree_exact : oneFree.FreeListsExact := by
  apply freeListsExact_of_below
  · intro c
    cases c <;> decide
  · intro c
    cases c <;> decide
  · intro c
    cases c <;> decide
  · decide

theorem witness_StepRunsFrontCommand :
    (∃ c rest s, State.pending s = c :: rest) ∧ ∃ s, State.pending s = [] :=
  ⟨⟨_, _, booking, rfl⟩, State.reset, rfl⟩

theorem witness_PowerOnStartsDiscovery :
    let c : StoreCopy := ⟨3, Settings.factory⟩
    (∃ s : State, s.sst.copyA = none ∧ s.sst.copyB = none) ∧
      (∃ s : State, s.sst.copyA = some c ∧ s.sst.copyB = none) ∧
      (∃ s : State, s.sst.copyB = some c ∧ s.sst.copyA = none) ∧
      ∃ s : State, s.sst.copyA = some c ∧ s.sst.copyB = some c :=
  ⟨⟨State.reset, rfl, rfl⟩,
    ⟨{ State.reset with sst := { State.reset.sst with copyA := some ⟨3, Settings.factory⟩ } }, rfl, rfl⟩,
    ⟨{ State.reset with sst := { State.reset.sst with copyB := some ⟨3, Settings.factory⟩ } }, rfl, rfl⟩,
    { State.reset with sst :=
      { State.reset.sst with copyA := some ⟨3, Settings.factory⟩, copyB := some ⟨3, Settings.factory⟩ } }, rfl, rfl⟩

/-- CapacitiesAreKept, AnswerPlacesCoverAnswers, TransmitFramerNeverRests, OrderTablesStayConsistent,
HoldFieldsStayInRange and FreeListsStayExact: a step from a state that meets every law. -/
theorem witness_laws : ∃ s t : State, step s = .next t ∧ s.WithinCapacity ∧ s.AttemptsInRange ∧ s.PlacesCover ∧
    s.TransmitSettled ∧ s.OrdersConsistent ∧ s.HoldInRange ∧ s.FreeListsExact := by
  refine ⟨booking, _, rfl, ?_, ?_, ?_, ?_, ?_, ?_, oneFree_exact⟩
  · unfold State.WithinCapacity
    decide
  · intro x h
    cases h
  · unfold State.PlacesCover
    decide
  · exact fun _ _ => ⟨rfl, rfl⟩
  · exact ⟨rfl, List.nodup_nil, List.nodup_nil, rfl⟩
  · intro o h
    cases h

/-- The law on attempts with an exchange at its last attempt. -/
theorem witness_CapacitiesAreKept : (withExchange (.poll 0 3 false) oneFree).AttemptsInRange := by
  intro x h
  cases h
  exact ⟨by decide, by decide⟩

/-- A bench whose one order is held, about to cancel it. -/
def cancelling : State := { bench (lockerIn .holding) [held] with pending := [.cancel 1 7] }

theorem witness_OrdersStayPairedWithLockers :
    cancelling.OrdersConsistent ∧ cancelling.FreeListsExact ∧ cancelling.OrdersPaired ∧ cancelling.SurveyConsistent ∧
      ∃ t, step cancelling = .next t := by
  have others : ∀ n < 48, n ≠ 0 → (cancelling.locker n).orderRef = none := by decide
  refine ⟨⟨rfl, by decide, by decide, rfl⟩, ?_, ⟨?_, ?_⟩, ?_, _, rfl⟩
  · apply freeListsExact_of_below
    · intro c
      cases c <;> decide
    · intro c
      cases c <;> decide
    · intro c
      cases c <;> decide
    · decide
  · intro o h
    obtain rfl : o = held := by simpa [cancelling, bench] using h
    exact ⟨by decide, fun n hn => by cases hn; decide⟩
  · intro n id hn h
    by_cases h0 : n = 0
    · subst h0
      cases h
      exact ⟨.inl (by decide), held, by decide, rfl⟩
    · rw [others n hn h0] at h
      cases h
  · refine ⟨?_, ?_, ?_, ?_⟩
    · intro d h
      cases h
    · intro n a m h
      cases h
    · intro h
      exact absurd rfl h
    · intro h
      cases h

/-- Whether a command answers a next state. -/
def completes (c : Instr) (s : State) : Bool := match exec c s with | .next _ => true | _ => false

theorem next_after (c : Instr) (s : State) (h : completes c s = true) : exec c s = .next (after c s) := by
  unfold completes at h
  unfold after
  split at h
  · rename_i t e
    rw [e]
  · cases h

theorem witness_StrictHoldSticks : ∃ (c : Instr) (s t : State),
    s.sst.strictHold = true ∧ (∀ l0 l1 l2 l3, c ≠ .powerOn l0 l1 l2 l3) ∧ exec c s = .next t :=
  ⟨.paramSet 1 16 0, strict oneFree, after (.paramSet 1 16 0) (strict oneFree), by decide, (by intros; simp),
    next_after _ _ (by decide +kernel)⟩

/-- An order condemned as cold. -/
def chilled : State := bench (lockerIn .condemned) [{ held with condemned := some .cold }]

theorem witness_FirstCauseIsKept : ∃ (c : Instr) (s t : State) (id : Nat) (o o' : Order) (k : Cause),
    s.order? id = some o ∧ o.condemned = some k ∧ exec c s = .next t ∧ t.order? id = some o' :=
  let ⟨o', h'⟩ := Option.isSome_iff_exists.mp (by decide +kernel : ((after .holdTick chilled).order? 7).isSome = true)
  ⟨.holdTick, chilled, after .holdTick chilled, 7, _, o', .cold, rfl, rfl, next_after _ _ (by decide +kernel), h'⟩

theorem hold_of (s : State) (id : Nat) (h : ((s.order? id).bind (·.hold)).isSome = true) :
    ∃ o x, s.order? id = some o ∧ o.hold = some x := by
  cases e : s.order? id with
  | none => simp [e] at h
  | some o =>
    simp only [e, Option.bind_some, Option.isSome_iff_exists] at h
    exact ⟨o, h.choose, rfl, h.choose_spec⟩

/-- A bench whose one order is held. -/
def keeping : State := bench (lockerIn .holding) [held]

theorem keeping_notLoading (n : Nat) : (keeping.locker n).phase = .loading → (keeping.locker n).orderRef ≠ some 7 := by
  intro h
  by_cases hn : n < 48
  · exact absurd h ((by decide +kernel : ∀ m < 48, (keeping.locker m).phase ≠ .loading) n hn)
  · rw [State.locker_out _ _ (by omega)]
    decide

theorem witness_HoldLifeRisesOnlyByExtend :
    (∃ (t : State) (o' : Order) (h' : Hold), (strict keeping).sst.strictHold = true ∧
      (∀ n, ((strict keeping).locker n).phase = .loading → ((strict keeping).locker n).orderRef ≠ some 7) ∧
      (strict keeping).order? 7 = some held ∧ held.hold ≠ none ∧ exec (.extend 1 7 60) (strict keeping) = .next t ∧
      t.order? 7 = some o' ∧ o'.hold = some h') ∧
    ∃ (t : State) (o' : Order) (h' : Hold),
      (∀ n, (keeping.locker n).phase = .loading → (keeping.locker n).orderRef ≠ some 7) ∧
      keeping.order? 7 = some held ∧ exec .holdTick keeping = .next t ∧ t.order? 7 = some o' ∧ o'.hold = some h' := by
  have ⟨o₁, h₁, e₁, f₁⟩ := hold_of (after (.extend 1 7 60) (strict keeping)) 7 (by decide +kernel)
  have ⟨o₂, h₂, e₂, f₂⟩ := hold_of (after .holdTick keeping) 7 (by decide +kernel)
  exact ⟨⟨_, o₁, h₁, rfl, keeping_notLoading, by decide, by decide, next_after _ _ (by decide +kernel), e₁, f₁⟩,
    ⟨_, o₂, h₂, keeping_notLoading, by decide, next_after _ _ (by decide +kernel), e₂, f₂⟩⟩

/-- A LOAD_OPEN and a RELEASE that win a free bus at once begin an UNLATCH. -/
theorem witness_UnlatchOnlyBehindLatchedDoor :
    (∃ (s t : State), s.AttemptsInRange ∧ exec (.loadOpen 1 7) s = .next t ∧
      t.bbm.exchange = some (.command 0 0 1 ⟨0, 2, [0, 20]⟩) ∧ .bus ⟨0, 2, [0, 20]⟩ ∈ t.ports) ∧
    ∃ (s t : State), s.AttemptsInRange ∧ exec (.release 1 7) s = .next t ∧
      t.bbm.exchange = some (.command 0 0 1 ⟨0, 2, [1, 20]⟩) ∧ .bus ⟨0, 2, [1, 20]⟩ ∈ t.ports :=
  ⟨⟨bench (lockerIn .reserved) [meal], after (.loadOpen 1 7) (bench (lockerIn .reserved) [meal]),
      (fun x h => by cases h), rfl, by decide, by decide⟩,
    ⟨bench (lockerIn .holding) [held], after (.release 1 7) (bench (lockerIn .holding) [held]),
      (fun x h => by cases h), rfl, by decide, by decide⟩⟩

theorem witness_RequestsAreHeardThenServed :
    (oneFree.lki.island = false ∧
      ∃ (s : State) (start : Nat), s.lki.island = true ∧ s.lki.islandStart = some start) ∧
      IsRequest (.status 1) ∧ oneFree.lki.placesHeld < 32 ∧ 32 ≤ fullPlaces.lki.placesHeld :=
  ⟨⟨rfl, { State.reset with lki := { State.reset.lki with island := true, islandStart := some 3 } }, 3, rfl, rfl⟩,
    rfl, by decide, by decide⟩

/-- The receive framer in each of its states. -/
def framer (r : RxFramer) : State := { State.reset with lki := { State.reset.lki with rx := r, gapTimer := some 1 } }

theorem witness_ReceiveFramerByState :
    (framer .hunt).lki.rx = .hunt ∧ (framer .length).lki.rx = .length ∧
      (framer (.body 5 [5])).lki.rx = .body 5 [5] ∧ [5].length + 1 ≠ 5 ∧ [5, 16, 1, 2].length + 1 = 5 ∧
      (framer (.crc [4, 18, 12, 5] none)).lki.rx = .crc [4, 18, 12, 5] none ∧
      (framer (.crc [4, 18, 12, 5] (some 0))).lki.rx = .crc [4, 18, 12, 5] (some 0) ∧
      crc16 [4, 18, 12, 5] ≠ 0 * 256 + 0 ∧
      crc16 [4, 32, 12, 5] = crc16 [4, 32, 12, 5] / 256 * 256 + crc16 [4, 32, 12, 5] % 256 ∧
      [4, 32, 12, 5].getD 1 0 ∉ [0x10, 0x11, 0x12] := by decide +kernel

theorem witness_RequestPayloadsReadBack :
    WellFormed (.label 1 47 [72, 73]) = true ∧
      encodeRequest (.label 1 47 [72, 73]) = some (0x11, 2, 1, [47, 72, 73]) := by decide

theorem witness_FrameBytesRunTheRequest :
    WellFormed (.status 5) = true ∧ (requestFrame (.status 5)).isSome = true ∧ State.reset.lki.rx = .hunt ∧
      State.reset.lki.gapTimer = none := by decide +kernel

theorem witness_LinkTimersExpire :
    (framer .length).lki.gapTimer = some 1 ∧ ∃ s : State,
      s.lki.silenceTimer = some 30000 ∧ s.params.linkSilenceS ≠ 0 ∧ s.lki.island = false :=
  ⟨rfl, { State.reset with lki := { State.reset.lki with silenceTimer := some 30000 } }, rfl, by decide, rfl⟩

theorem witness_TransmitChoice :
    let q (a : List Answer) (r : List Report) (lost : Nat) : State :=
      { State.reset with lki := { State.reset.lki with answerQ := a, reportQ := r, lostReports := lost } }
    let x : Answer := ⟨kStatus, 1, .ok, []⟩
    let y : Report := ⟨.loaded, 0, 0, []⟩
    ((fullOf .loaded).lki.tx ≠ none) ∧ (State.reset.lki.tx = none ∧ State.reset.lki.island = false) ∧
      (q [x] [] 0).lki.answerQ = [x] ∧ (q [] [y] 0).lki.reportQ = [y] ∧ (q [] [y] 3).lki.lostReports ≠ 0 ∧
      (q [] [y] 3).lki.reportQ.length ≤ 32 ∧ ∃ f, (fullOf .loaded).lki.tx = some f := by
  refine ⟨by decide, by decide, rfl, rfl, by decide, by decide, _, rfl⟩

theorem witness_ReportQueueRule :
    groupEnabled State.reset.params .order = true ∧ State.reset.lki.reportQ.length < 32 ∧
      groupEnabled { Params.factory with reportMask := 0 } .locker = false ∧
      32 ≤ (fullOf .loaded).lki.reportQ.length ∧ ReportKind.doorHeld.group.maskable = true ∧
      ReportKind.done.group.maskable = false ∧
      (∀ x ∈ (fullOf .loaded).lki.reportQ, x.kind.group.maskable = false) ∧
      ∃ before x behind, (fullOf .overheat).lki.reportQ = before ++ x :: behind ∧ x.kind.group.maskable = true ∧
        ∀ y ∈ before, y.kind.group.maskable = false :=
  ⟨by decide, by decide, by decide, by decide, by decide, by decide, by decide, [], _, List.replicate 31 _, rfl, rfl,
    by simp⟩

/-- A WAITING RELEASE and no POWER_ON discovery. -/
theorem witness_RestartClearsTheLink :
    let s := withEntry (entry .release .waiting) (bench (lockerIn .pickup) [held])
    s.lki.placesHeld < 32 ∧ s.txu.table.length ≤ 8 ∧ (∀ x, s.ltu.discovery ≠ some ⟨.powerOn, x⟩) ∧
      s.txu.waitingInOrder = [entry .release .waiting] :=
  ⟨by decide, by decide, (fun x h => by cases h), by decide⟩

/-- RestartClearsTheLink and ResetRequestsByRule: entries numbered on both sides of 65,535. -/
theorem witness_waitingInOrder :
    let early : Entry := { entry .moduleRead .waiting with seq := 65535, locker := 1 }
    let t : Txu := { oneFree.txu with table := [entry .release .waiting, early] }
    (t.table.map Entry.seq).Nodup ∧ (∀ e ∈ t.table, ∃ d, d < 32768 ∧ e.seq = (65535 + d) % 65536) ∧
      t.waitingInOrder = [early, entry .release .waiting] := by
  refine ⟨by decide, ?_, by decide⟩
  intro e h
  rcases List.mem_pair.mp h with rfl | rfl
  · exact ⟨1, by decide, by decide⟩
  · exact ⟨0, by decide, by decide⟩

/-- On the head of its own class's list, and under UPSIZE on a larger one. -/
theorem witness_BookPlacesOnTheHeadOfAList :
    Ready oneFree ∧ oneFree.FreeListsExact ∧ oneFree.order? 8 = none ∧ (∀ e ∈ oneFree.oru.codeMap, e.1 ≠ 99) ∧
      oneFree.oru.orders.length < 64 ∧ oneFree.freeList .medium = [0] ∧ SizeClass.ofCode 1 = some .medium ∧
      SizeClass.ofCode 0 = some .small ∧ oneFree.params.upsize = true ∧ oneFree.freeList .small = [] ∧
      (.medium ∈ SizeClass.small.larger) ∧
      ∀ c ∈ SizeClass.small.larger, c.code < SizeClass.medium.code → oneFree.freeList c = [] :=
  ⟨by decide, oneFree_exact, by decide, by decide, by decide, by decide, by decide, by decide, by decide, by decide,
    by decide, by decide⟩

/-- A bench with 64 orders in its table. -/
def fullTable : State :=
  bench (lockerIn .holding) ((List.range 64).map fun i => { held with id := i + 100, code := i })

/-- A bench with 16 orders waiting. -/
def fullQueue : State :=
  bench (lockerIn .holding) ((List.range 16).map fun i => { waiting with id := i + 100, code := i })

theorem witness_BookWaitsOrRefuses :
    let s := bench (lockerIn .holding) [held]
    (Ready s ∧ s.order? 8 = none ∧ (∀ e ∈ s.oru.codeMap, e.1 ≠ 99) ∧ s.oru.orders.length < 64 ∧
      s.freeList .small = [] ∧ (∀ c ∈ SizeClass.small.larger, s.freeList c = []) ∧ s.oru.queue.length < 16) ∧
    ((inDiscovery s).ltu.discovery ≠ none) ∧ (s.order? 7 ≠ none) ∧ (∃ e ∈ s.oru.codeMap, e.1 = 1234) ∧
    (Ready fullTable ∧ fullTable.order? 8 = none ∧ (∀ e ∈ fullTable.oru.codeMap, e.1 ≠ 99) ∧
      64 ≤ fullTable.oru.orders.length) ∧
    (Ready fullQueue ∧ fullQueue.order? 8 = none ∧ (∀ e ∈ fullQueue.oru.codeMap, e.1 ≠ 99) ∧
      fullQueue.oru.orders.length < 64 ∧ (∀ c ∈ [SizeClass.small, .medium, .large], fullQueue.freeList c = []) ∧
      16 ≤ fullQueue.oru.queue.length) ∧
    (∀ up, let t := (fullQueue.setParams { fullQueue.params with upsize := up })
      let small : State := { t with oru := { t.oru with freeSmall := [0] } }
      Ready small ∧ small.freeList .small = [0] ∧ small.freeList .large = [] ∧ SizeClass.large.larger = [] ∧
        16 ≤ small.oru.queue.length) := by decide +kernel

/-- The order table knows the order 7 as `o`, its locker in the state `l`. -/
abbrev Ordered (l : Locker) (o : Order) : Prop := Ready (bench l [o]) ∧ (bench l [o]).order? 7 = some o

theorem witness_CancelByStatus :
    Ordered (lockerIn .free) waiting ∧ waiting.locker = none ∧ meal.locker = some 0 ∧ Ordered (lockerIn .reserved) meal ∧
      Ordered { lockerIn .reserved with heaterExcluded := true } meal ∧ Ordered (lockerIn .loading) meal ∧
      Ordered (lockerIn .service) meal ∧ Ordered (lockerIn .holding) held ∧ held.condemned = none ∧
      Ordered { lockerIn .offline with resume := some .reserved } meal ∧
      Ordered { lockerIn .offline with resume := some .holding } held ∧
      Ordered { lockerIn .offline with resume := some .service } meal := by decide +kernel

/-- A fenced locker, a locker that no order wants, a locker that the only waiting order takes. -/
theorem witness_FreedLockerIsOfferedToTheQueue :
    let free : Locker := { lockerIn .free with orderRef := none }
    let small : Order := { waiting with cls := .small }
    (bench { free with fenced := true } []).OrdersConsistent ∧ (bench free [{ waiting with cls := .large }]).OrdersConsistent ∧
      (bench free [small]).OrdersConsistent ∧ ((bench free [small]).locker 0).phase = .free ∧
      (bench free [small]).oru.queue = [] ++ 7 :: [] ∧ (bench free [small]).order? 7 = some small ∧
      (bench free [small]).params.upsize = true ∧ small.cls.code < ((bench free [small]).locker 0).cls.code := by
  refine ⟨⟨rfl, by decide, by decide, rfl⟩, ⟨rfl, by decide, by decide, rfl⟩, ⟨rfl, by decide, by decide, rfl⟩, ?_⟩
  decide

theorem witness_ExtendByRule :
    let s := bench (lockerIn .holding) [held]
    (Ready s ∧ s.order? 7 = some held ∧ s.sst.strictHold = false ∧ held.condemned = none ∧ held.hold = some ⟨3600, 0, false⟩) ∧
      (bench (lockerIn .reserved) [meal]).order? 7 = some meal ∧ meal.hold = none ∧
      (inDiscovery s).ltu.discovery ≠ none ∧ s.order? 8 = none ∧ (strict s).sst.strictHold = true ∧
      (bench (lockerIn .condemned) [{ held with condemned := some .cold }]).order? 7 =
        some { held with condemned := some .cold } := by decide

theorem witness_RequestsRefusedByRule :
    (inDiscovery oneFree).lki.placesHeld < 32 ∧ (inDiscovery oneFree).ltu.discovery ≠ none ∧
      (State.reset.lki.placesHeld < 32 ∧ State.reset.ltu.discovery = some ⟨.powerOn, .reset⟩) ∧
      (Ready oneFree ∧ oneFree.order? 8 = none) ∧
      (Ready (bench (lockerIn .free) [waiting]) ∧ (bench (lockerIn .free) [waiting]).order? 7 = some waiting ∧
        waiting.status = .pending 5) ∧
      (oneFree.locker 1).phase = .absent ∧ ((bench (lockerIn .offline) []).locker 0).phase = .offline ∧
      checkServer (withEntry (entry .loadOpen .waiting) oneFree) 9 0 = some .tagInUse ∧
      State.reset.txu.longOp ≠ none ∧
      ((withEntry (entry .loadOpen .waiting) oneFree).txu.longOp = none ∧
        ∃ e ∈ (withEntry (entry .loadOpen .waiting) oneFree).txu.table, e.tag = some 9) := by decide

/-- Frames that are whole and valid, of an unknown kind and of wrong lengths. -/
theorem witness_RequestsRefusedByRule_link :
    let whole (bytes : List Byte) : Prop :=
      (framer (.crc bytes (some (crc16 bytes / 256)))).lki.rx = .crc bytes (some (crc16 bytes / 256)) ∧
        crc16 bytes = crc16 bytes / 256 * 256 + crc16 bytes % 256
    whole [4, 0x11, 6, 1] ∧ whole [4, 0x10, 2, 1] ∧ whole [4, 0x11, 2, 1] ∧ whole [6, 0x12, 1, 1, 3, 0] ∧
      whole [6, 0x12, 2, 1, 0, 0] ∧ whole [5, 0x12, 3, 1, 17] ∧ whole [6, 0x12, 4, 1, 2, 0] := by decide +kernel

/-- The order 7 is in locker 0 and a request with tag 1 may begin there. -/
abbrev Doorable (l : Locker) (o : Order) : Prop :=
  Ready (bench l [o]) ∧ (bench l [o]).order? 7 = some o ∧ o.locker = some 0 ∧
    ((bench l [o]).locker 0).orderRef = some 7 ∧ checkServer (bench l [o]) 1 0 = none

/-- LoadOpenByRule, ReleaseByRule and ClearRequestsByRule: the order and its locker in each phase the clauses name. -/
theorem witness_doorRequests :
    Doorable (lockerIn .offline) meal ∧ Doorable (lockerIn .holding) held ∧ Doorable (lockerIn .reserved) meal ∧
      Doorable { lockerIn .reserved with fenced := true } meal ∧ Doorable { lockerIn .reserved with cDoor := .opened } meal ∧
      Doorable { lockerIn .holding with kDoor := .closed } held ∧
      Doorable (lockerIn .condemned) { held with condemned := some .cold } ∧
      Doorable { lockerIn .condemned with unlatchPending := some .k } { held with condemned := some .cold } ∧
      Doorable (lockerIn .quarantine) meal ∧ Doorable (lockerIn .service) meal ∧
      Doorable { lockerIn .quarantine with cDoor := .opened } meal ∧
      checkServer (withEntry (entry .loadOpen .waiting) (bench (lockerIn .reserved) [meal])) 9 0 = some .tagInUse := by
  refine ⟨?_, ?_, ?_, ?_, ?_, ?_, ?_, ?_, ?_, ?_, ?_, ?_⟩ <;> decide

/-- ClearRequestsByRule and ServiceRequestsByRule: the interlock holds and TXU refuses. -/
theorem witness_doorRequests_refused :
    let busy (l : Locker) : State := withEntry (entry .moduleRead .waiting) (bench l [held])
    ∀ p ∈ [Phase.condemned, .quarantine, .service],
      ((busy (lockerIn p)).locker 0).cDoor = .latched ∧ ((busy (lockerIn p)).locker 0).unlatchPending = none ∧
        checkServer (busy (lockerIn p)) 1 0 = some .retry ∧ checkServer (busy (lockerIn p)) 9 0 = some .tagInUse := by
  decide

theorem witness_ServiceOnByPhase :
    ∀ p ∈ Phase.all, Ready (bench (lockerIn p) []) ∧ ((bench (lockerIn p) []).locker 0).phase = p ∧
      ((bench { lockerIn p with orderRef := none } []).locker 0).orderRef = none := by decide

theorem witness_ServiceRequestsByRule :
    let free : Locker := { lockerIn .service with orderRef := none }
    Ready (bench (lockerIn .holding) []) ∧ ((bench (lockerIn .service) []).locker 0).orderRef ≠ none ∧
      ((bench { free with unlatchPending := some .k } []).locker 0).unlatchPending ≠ none ∧
      (Ready (bench free []) ∧ ((bench free []).locker 0).phase = .service ∧ ((bench free []).locker 0).orderRef = none ∧
        ((bench free []).locker 0).unlatchPending = none ∧ ((bench free []).locker 0).kDoor = .latched ∧
        checkServer (bench free []) 1 0 = none) := by decide

theorem witness_ModuleReadByRule :
    let s := withEntry (entry .loadOpen .waiting) (bench (lockerIn .loading) [meal])
    (∃ e ∈ s.txu.table, e.tag = some 9) ∧ (∃ e ∈ s.txu.table, e.locker = 0) ∧ (∀ e ∈ s.txu.table, e.tag ≠ some 1) ∧
      (∀ e ∈ s.txu.table, e.locker ≠ 1) ∧ s.txu.table.length < 8 ∧ s.txu.longOp = none ∧
      (Ready oneFree ∧ (oneFree.locker 0).phase ≠ .absent ∧ (oneFree.locker 0).phase ≠ .offline ∧
        checkServer oneFree 1 0 = none) := by decide

theorem witness_PostedCommandsByRule :
    (inDiscovery oneFree).ltu.discovery ≠ none ∧ (Ready oneFree ∧ (oneFree.locker 1).phase = .absent) ∧
      ((bench (lockerIn .offline) []).locker 0).phase = .offline ∧
      ((oneFree.locker 0).phase ≠ .absent ∧ (oneFree.locker 0).phase ≠ .offline ∧ oneFree.txu.posted.length < 8) ∧
      8 ≤ ({ oneFree with txu := { oneFree.txu with
        posted := List.replicate 8 ⟨0, 1, .lamp 0, 0, .waiting⟩ } } : State).txu.posted.length := by decide

/-- The tag 9 is in the tag table, with the entry `e`. -/
abbrev Tagged (s : State) (e : Entry) : Prop := s.lki.placesHeld < 32 ∧
  (s.txu.table.find? fun e => decide (e.tag = some 9)) = some e

theorem witness_AbortByWhereTheTagIs :
    let s (e : Entry) (l : Locker) : State := withEntry e (bench l [meal])
    Tagged (s (entry .loadOpen .onBus) (lockerIn .loading)) (entry .loadOpen .onBus) ∧
      Tagged (s (entry .loadOpen .waiting) (lockerIn .loading)) (entry .loadOpen .waiting) ∧
      Tagged (s (entry .release .waiting) (lockerIn .pickup)) (entry .release .waiting) ∧
      Tagged (s (entry .moduleRead .waiting) (lockerIn .free)) (entry .moduleRead .waiting) ∧
      Tagged (s (entry .serviceUnlatch .waiting) (lockerIn .service)) (entry .serviceUnlatch .waiting) ∧
      Tagged (s (entry .clear .waiting) { lockerIn .clearing with clearOrigin := some .condemned })
        (entry .clear .waiting) ∧
      (∀ p, some Phase.condemned = some p → p.transient = false) ∧
      (oneFree.txu.table.find? fun e => decide (e.tag = some 9)) = none ∧ 9 ∉ oneFree.txu.recent ∧
      9 ∈ ({ oneFree with txu := { oneFree.txu with recent := [9] } } : State).txu.recent := by
  refine ⟨by decide, by decide, by decide, by decide, by decide, by decide, ?_, by decide, by decide, by decide⟩
  intro p h
  cases h
  rfl

theorem witness_ReadsChangeNothing :
    Ready (bench (lockerIn .holding) [held]) ∧ (bench (lockerIn .holding) [held]).order? 7 = some held ∧
      (bench (lockerIn .free) [waiting]).order? 7 = some waiting := by decide

/-- Locker 0 is in the state `l`. -/
abbrev Standing (l : Locker) : Prop := (bench l []).lki.placesHeld < 32 ∧ (bench l []).locker 0 = l

theorem witness_LayoutWriteByRule :
    Standing (lockerIn .holding) ∧ Standing (lockerIn .service) ∧
      Standing { lockerIn .service with orderRef := none, unlatchPending := some .k } ∧
      Standing { lockerIn .free with unlatchPending := some .k } ∧
      Standing (lockerIn .absent) ∧ Standing { lockerIn .service with orderRef := none } ∧ Standing (lockerIn .free) ∧
      (lockerIn .free).cls = .medium ∧ SizeClass.ofCode 2 = some .large := by decide

/-- A running cycle past the last locker that is not ABSENT. -/
theorem witness_LayoutWriteByRule_cycle :
    let s : State := { oneFree with bbm := { oneFree.bbm with cycle := .running, cursor := 1 } }
    s.bbm.cycle = .running ∧ 0 < s.bbm.cursor ∧ s.bbm.exchange = none ∧
      (∀ n, n < 48 → s.bbm.cursor ≤ n → (s.locker n).phase = .absent) ∧ s.params.pollGapMs ≠ 0 ∧
      (s.setParams { s.params with pollGapMs := 0 }).params.pollGapMs = 0 := by decide

theorem witness_ProfileAndFeedWritesByRule :
    (strict (bench (lockerIn .holding) [held])).sst.strictHold = true ∧
      (∃ o ∈ (strict (bench (lockerIn .holding) [held])).oru.orders, o.profile = 0) ∧
      oneFree.lki.placesHeld < 32 ∧ oneFree.sst.strictHold = false ∧
      ((-400 : Int) < 630 ∧ (630 : Int) < 720 ∧ (720 : Int) < 900 ∧ (900 : Int) ≤ 1200) ∧
      ¬ ((-400 : Int) < -400) := by decide

theorem witness_ParamSetByType :
    oneFree.lki.placesHeld < 32 ∧ oneFree.params.upsize = true ∧
      (oneFree.setParams { oneFree.params with upsize := false }).params.upsize = false ∧
      (strict oneFree).sst.strictHold = true ∧ oneFree.sst.strictHold = false := by decide

/-- A bench with one order waiting and no locker for it. -/
theorem short_exact : (bench (lockerIn .holding) [waiting]).FreeListsExact := by
  apply freeListsExact_of_below
  · intro c
    cases c <;> decide
  · intro c
    cases c <;> decide
  · intro c
    cases c <;> decide
  · decide

theorem witness_FenceWriteRecomputes :
    (oneFree.lki.placesHeld < 32 ∧ oneFree.FreeListsExact) ∧ (min 49 48 ≠ 49 ∧ min 48 48 = 48) ∧ waiting.status = .pending 5 ∧
      (oneFree.freeList .medium = [0] ∧ oneFree.freeList .small = [] ∧ oneFree.params.upsize = true ∧
        SizeClass.medium ∈ SizeClass.small.larger) ∧
      (bench (lockerIn .holding) [waiting]).OrdersConsistent ∧ (bench (lockerIn .holding) [waiting]).FreeListsExact ∧
      waiting ∈ (pendingSweep (bench (lockerIn .holding) [waiting])).oru.orders ∧ waiting.isPending = true :=
  ⟨⟨by decide, oneFree_exact⟩, by decide, rfl, by decide, ⟨rfl, by decide, by decide, rfl⟩, short_exact, by decide, rfl⟩

theorem witness_StoreWritesTheOlderCopy :
    let c (g : Nat) : Option StoreCopy := some ⟨g, Settings.factory⟩
    let s (a b : Option StoreCopy) : State := { oneFree with sst := { oneFree.sst with copyA := a, copyB := b } }
    State.reset.txu.longOp ≠ none ∧ (oneFree.txu.longOp = none ∧ ∀ e ∈ oneFree.txu.table, e.tag ≠ some 9) ∧
      (∃ e ∈ (withEntry (entry .loadOpen .waiting) oneFree).txu.table, e.tag = some 9) ∧
      ((s none none).sst.copyA = none ∧ (s none none).sst.copyB = none) ∧
      ((s none (c 5)).sst.copyB = c 5) ∧ ((s (c 6) none).sst.copyA = c 6) ∧
      ((s (c 65535) (c 0)).sst.copyA = c 65535 ∧ (65535 + 1) % 65536 = 0) ∧ ((s (c 6) (c 5)).sst.copyB = c 5) := by
  decide

theorem witness_StoreWritesTheOlderCopy_end : ∃ s : State,
    s.sst.busy = true ∧ s.sst.target = some (.b, 7) ∧ s.sst.snapshot = some Settings.factory ∧
      s.txu.longOp = some ⟨.store, some 70⟩ ∧ s.lki.reportQ.length < 32 :=
  ⟨{ oneFree with
      txu := { oneFree.txu with longOp := some ⟨.store, some 70⟩ }
      sst := { oneFree.sst with busy := true, snapshot := some Settings.factory, target := some (.b, 7) } },
    rfl, rfl, rfl, rfl, by decide⟩

/-- An idle bus, a command on it that the pulse cuts off, a bank with a placed order, a poll in flight. -/
theorem witness_ResetRequestsByRule :
    (Ready oneFree ∧ oneFree.txu.longOp = none ∧ (∀ e ∈ oneFree.txu.table, e.tag ≠ some 8) ∧ oneFree.bbm.line = .idle ∧
      anyPlaced oneFree = false ∧ oneFree.bbm.exchange = none) ∧ oneFree.FreeListsExact ∧
      (inDiscovery oneFree).FreeListsExact ∧
      (let s := withEntry (entry .loadOpen .onBus)
         (withExchange (.command 0 0 1 ⟨0, 2, [0, 20]⟩) (bench (lockerIn .loading) [meal]))
       Ready s ∧ s.txu.longOp = none ∧ (∀ e ∈ s.txu.table, e.tag ≠ some 8) ∧ s.bbm.line = .idle ∧
         entryBySeq s.txu 0 = some (entry .loadOpen .onBus)) ∧
      anyPlaced (bench (lockerIn .holding) [held]) = true ∧
      (withExchange (.poll 0 1 false) oneFree).bbm.exchange = some (.poll 0 1 false) :=
  ⟨by decide, oneFree_exact, oneFree_exact, by decide, by decide, rfl⟩

theorem witness_ResetLineByItsTimes :
    let line (x : ResetLine) (s : State) : State := { s with bbm := { s.bbm with line := x, lineMs := 3 } }
    let empty := bench (lockerIn .absent) []
    (line .pulse oneFree).bbm.line = .pulse ∧ (line .quiet oneFree).bbm.line = .quiet ∧
      oneFree.ltu.discovery = none ∧
      ({ oneFree with txu := { oneFree.txu with longOp := some ⟨.bankReset, some 9⟩ } } : State).txu.longOp =
        some ⟨.bankReset, some 9⟩ ∧ oneFree.lki.reportQ.length < 32 ∧ oneFree.txu.longOp = none ∧
      (State.reset.ltu.discovery = some ⟨.powerOn, .reset⟩ ∧ State.reset.ltu.probeCursor ≤ 0 ∧
        (State.reset.locker 0).populated = true ∧ (State.reset.locker 0).phase ≠ .service) ∧
      (State.reset.ltu.probing = none ∧
        ∀ n, n < 48 → ((bench (lockerIn .service) []).locker n).populated = true →
          ((bench (lockerIn .service) []).locker n).phase = .service) ∧
      (∃ n, n < 48 ∧ (oneFree.locker n).phase ≠ .absent) ∧ oneFree.bbm.cycle ≠ .running ∧
      (empty.bbm.cursor = 0 ∧ (∀ n, n < 48 → (empty.locker n).phase = .absent) ∧ empty.params.pollGapMs ≠ 0) := by
  decide

/-- The order 7 is held in locker 0 alone, and a tick is due. -/
abbrev Charged (l : Locker) : Prop :=
  (bench l [held]).OrdersConsistent ∧ (bench l [held]).hau.tickTimer = some 0 ∧
    ((bench l [held]).locker 0).orderRef = some 7 ∧
    (∀ m, m ≠ 0 → ((bench l [held]).locker m).orderRef ≠ some 7) ∧
    (∀ x ∈ (bench l [held]).oru.orders, x.locker = some 0 → x.id = 7) ∧
    (bench l [held]).order? 7 = some held ∧ held.status = .placed 0 0 false ∧ held.condemned = none

/-- A held meal with a fresh sample below its floor, and one OFFLINE that resumes HOLDING. -/
theorem witness_HoldTickByRule :
    Charged { lockerIn .holding with sample := some 600, sampleAge := 100 } ∧ Charged (lockerIn .pickup) ∧
      Charged { lockerIn .offline with resume := some .holding } := by
  have others (l : Locker) : ∀ m, m ≠ 0 → ((bench l [held]).locker m).orderRef ≠ some 7 := by
    intro m hm
    by_cases h : m < 48
    · show ((vget (vinit 48 fun n => if n = 0 then l else { Locker.blank with phase := .absent }) m
        Locker.blank)).orderRef ≠ some 7
      rw [vget_vinit _ _ _ _ h, if_neg hm]
      simp [Locker.blank]
    · rw [State.locker_out _ _ (by omega)]
      simp [Locker.blank]
  refine ⟨⟨⟨rfl, by decide, by decide, rfl⟩, rfl, rfl, others _, by decide, rfl, rfl, rfl⟩,
    ⟨⟨rfl, by decide, by decide, rfl⟩, rfl, rfl, others _, by decide, rfl, rfl, rfl⟩,
    ⟨⟨rfl, by decide, by decide, rfl⟩, rfl, rfl, others _, by decide, rfl, rfl, rfl⟩⟩

/-- Charges that condemn, warn and do neither, at their limits, and a locker that is not charged. -/
theorem witness_HoldTickByRule_charge :
    let at0 (h : Hold) : State := bench (lockerIn .holding) [{ held with hold := some h }]
    let p := Settings.factory.profiles.toList.getD 0 ((at0 ⟨9, 0, false⟩).profile 0)
    ((at0 ⟨8, 0, false⟩).profile 0 = p ∧ ((at0 ⟨8, 0, false⟩).locker 0).sample = none ∧ 8 - 8 = 0) ∧
      (9 - 8 ≠ 0 ∧ p.coldLimit ≤ p.coldLimit - 1 + 1) ∧ (p.warn + 8 - 8 ≤ p.warn ∧ p.warn + 8 - 8 ≠ 0) ∧
      p.warn < p.warn + 9 - 8 ∧ 1 < p.coldLimit ∧
      ((at0 ⟨8, 0, false⟩).locker 0).orderRef = some 7 ∧ held.locker = some 0 ∧ held.condemned = none := by
  decide +kernel

/-- An order that has waited PENDING_WAIT_S, one that waits on, a meal not yet loaded past its deadline, a due LOAD_LATE. -/
theorem witness_HoldTickByRule_ages :
    let old : Order := { waiting with status := .pending 600 }
    let late : Order := { meal with status := .placed 0 60 false, deadline := 60 }
    let s (o : Order) : State := bench { lockerIn .free with orderRef := none } [o]
    ((s old).OrdersConsistent ∧ (s old).order? 7 = some old ∧ (s old).params.pendingWaitS = 600) ∧
      ((s waiting).OrdersConsistent ∧ (s waiting).order? 7 = some waiting) ∧
      (∀ n, ((s old).locker n).orderRef ≠ some 7) ∧
      ((bench (lockerIn .reserved) [late]).OrdersConsistent ∧ late.hold = none ∧ late.deadline ≤ 60 ∧
        (bench (lockerIn .reserved) [late]).hau.tickTimer = some 0) := by
  have free (o : Order) : ∀ n, ((bench { lockerIn .free with orderRef := none } [o]).locker n).orderRef ≠ some 7 := by
    intro n
    by_cases h : n < 48
    · show ((vget (vinit 48 fun n => if n = 0 then { lockerIn .free with orderRef := none }
        else { Locker.blank with phase := .absent }) n Locker.blank)).orderRef ≠ some 7
      rw [vget_vinit _ _ _ _ h]
      split <;> simp [Locker.blank]
    · rw [State.locker_out _ _ (by omega)]
      simp [Locker.blank]
  exact ⟨⟨⟨rfl, by decide, by decide, rfl⟩, by decide, by decide⟩, ⟨⟨rfl, by decide, by decide, rfl⟩, by decide⟩,
    free _, ⟨⟨rfl, by decide, by decide, rfl⟩, by decide⟩⟩

theorem witness_FrameKeepsWithinTheBudget : oneFree.hta.frameTimer = some 0 := rfl

/-- A stopped and a running frame timer, a purge that may go on or be excluded, a locker with an applicable limit and a
fresh sample, orders in each tier. -/
theorem witness_FrameStartBySteps :
    let warm : Locker := { lockerIn .holding with sample := some 900, sampleAge := 0 }
    let s := bench warm [held]
    State.reset.hta.frameTimer = none ∧ oneFree.hta.frameTimer = some 0 ∧
      ((bench (lockerIn .purging) []).locker 0).phase = .purging ∧
      ((bench { lockerIn .purging with heaterExcluded := true } []).locker 0).heaterExcluded = true ∧
      ((s.locker 0).orderRef.bind s.order? = some held ∧ (s.locker 0).sample = some 900 ∧
        ¬ s.params.sampleStaleS * 1000 < (s.locker 0).sampleAge) ∧
      (s.locker 0).overheatInhibit = false ∧ (s.locker 0).heaterExcluded = false ∧
      (s.params.reportMask.testBit 1 = true ∧ s.lki.reportQ = []) := by decide

/-- A posting queue of one LAMP. -/
def posting (s : State) : State := { s with txu := { s.txu with posted := [⟨0, 1, .lamp 3, 0, .waiting⟩] } }

/-- A running poll cycle. -/
def polling (w : Winner) (s : State) : State := { s with bbm := { s.bbm with cycle := .running, lastWinner := w } }

theorem witness_BusChoice :
    (withExchange (.poll 0 1 false) oneFree).bbm.exchange ≠ none ∧
      (oneFree.bbm.exchange = none ∧ oneFree.bbm.line = .idle ∧ dispatchHead oneFree.txu = none ∧
        pollRequest oneFree = none) ∧
      ({ oneFree with bbm := { oneFree.bbm with mapState := .waiting } } : State).bbm.mapState = .waiting ∧
      (pollRequest (polling .command (posting oneFree)) = some (.poll 0) ∧
        (polling .command (posting oneFree)).bbm.lastWinner = .command) ∧
      (dispatchHead (posting oneFree).txu = some 0 ∧ entryBySeq (posting oneFree).txu 0 = none ∧
        postedBySeq (posting oneFree).txu 0 = some ⟨0, 1, .lamp 3, 0, .waiting⟩ ∧
        (polling .poll (posting oneFree)).bbm.lastWinner = .poll) := by decide

/-- Two WAITING commands whose sequence numbers lie on both sides of 65,535: the older has the higher number. -/
theorem witness_BusChoice_oldest :
    let t : Txu := { oneFree.txu with
      table := [{ entry .moduleRead .waiting with seq := 0 }], posted := [⟨0, 1, .lamp 3, 65535, .waiting⟩] }
    let waiting : List Nat := [0, 65535]
    waiting = (t.table.filter fun e => decide (e.stage = .waiting)).map Entry.seq ++
        (t.posted.filter fun p => decide (p.stage = .waiting)).map Posted.seq ∧
      (∀ r ∈ waiting, r < 65536 ∧ (r + 65536 - 65535) % 65536 < 32768) ∧ dispatchHead t = some 65535 ∧
      dispatchHead oneFree.txu = none := by decide

/-- A probe's turn, and a door command whose recheck passes or fails. -/
theorem witness_BusChoice_recheck :
    let s (l : Locker) : State := withEntry (entry .loadOpen .waiting) (bench l [meal])
    pollRequest (inDiscovery oneFree) = some (.probe 0) ∧
      ((inDiscovery oneFree).ltu.probing = none ∧ (oneFree.locker 0).populated = true) ∧
      (dispatchHead (s (lockerIn .loading)).txu = some 0 ∧
        entryBySeq (s (lockerIn .loading)).txu 0 = some (entry .loadOpen .waiting) ∧
        pollRequest (s (lockerIn .loading)) = none ∧ ((s (lockerIn .loading)).locker 0).phase = .loading ∧
        ((s (lockerIn .loading)).locker 0).cDoor = .latched) ∧
      ((s (lockerIn .service)).locker 0).phase ≠ .loading ∧
      ((s { lockerIn .loading with cDoor := .opened }).locker 0).cDoor ≠ .latched := by decide

/-- FailedAttemptsByCount, GoodPollTakesTheSteps, CommandExchangeEnds and BroadcastAndPollGapEnd: each sort of exchange ends
while a RESCAN waits for its pulse. -/
theorem witness_pulseWaits :
    ∀ x ∈ [Exchange.poll 0 3 false, .command 0 0 3 ⟨0, 2, [1, 20]⟩, .broadcast 9],
      let s := withExchange x { oneFree with ltu := { oneFree.ltu with discovery := some ⟨.rescan, .reset⟩ } }
      s.bbm.exchange = some x ∧ s.ltu.discovery = some ⟨.rescan, .reset⟩ ∧ s.bbm.line = .idle := by decide

theorem witness_FailedAttemptsByCount :
    oneFree.ltu.discovery = none ∧ (withExchange (.poll 0 2 false) oneFree).bbm.exchange = some (.poll 0 2 false) ∧
      (withExchange (.command 0 4 1 ⟨0, 4, [3]⟩) oneFree).bbm.exchange = some (.command 0 4 1 ⟨0, 4, [3]⟩) ∧
      (withExchange (.poll 0 3 true) oneFree).bbm.exchange = some (.poll 0 3 true) ∧
      ((bench { lockerIn .holding with pollFails := 2 } [held]).locker 0).pollFails = 2 ∧
      ((bench { lockerIn .holding with pollFails := 2 } [held]).locker 0).phase ∉ [.offline, .absent] := by decide

/-- Frames that fail an attempt: one byte short of a check, a wrong check, another address, a kind that answers another
request, payloads that are not of their kind. -/
theorem witness_FailedAttemptsByCount_frames :
    (withExchange (.broadcast 9) oneFree).bbm.exchange = some (.broadcast 9) ∧ oneFree.bbm.exchange = none ∧
      (withExchange (.probe 0 1 true) oneFree).bbm.exchange = some (.probe 0 1 true) ∧
      parseBusFrame [0x96, 0, 0x80, 0, 0] = none ∧ crc16 ([0, 0x80, ([] : List Byte).length] ++ []) ≠ 0 * 256 + 0 ∧
      (⟨1, 0x80, []⟩ : BusFrame).addr ≠ 0 ∧ (∀ r, r ≤ 2 → [3] ≠ [r]) ∧ [0].length ≠ 2 ∧
      ([] : List Byte).length ≠ 9 ∧ (2 < 3 ∨ 2 < 0 ∨ 1 < 0 ∨ 3 < 0 ∨ 1 < 0) := by
  refine ⟨by decide, by decide, by decide, by decide, by decide, by decide, ?_, by decide, by decide, by decide⟩
  intro r h e
  cases e
  omega

theorem witness_GoodPollTakesTheSteps : ∃ (o : Observation) (s : State),
    s.ltu.discovery = none ∧ s.bbm.exchange = some (.poll 0 1 false) ∧
      (∀ T, o.sample = some T → -32767 ≤ T ∧ T ≤ 32767) ∧ o.kCount < 256 ∧ o.cCount < 256 :=
  ⟨⟨some (-32767), .latched, .opened, 255, 0, .occupied, .none, true⟩, withExchange (.poll 0 1 false) oneFree, rfl,
    rfl, (fun T h => by cases h; decide), by decide, by decide⟩

/-- A record for each step of a good poll: a door fault with and without an order, a heater fault, an OFFLINE locker whose
occupancy agrees and one where it does not, a HOLDING locker found EMPTY. -/
theorem witness_GoodPollTakesTheSteps_records :
    let at0 (l : Locker) : Locker := (bench l [held]).locker 0
    (at0 (lockerIn .holding)).orderRef = some 7 ∧
      (at0 { lockerIn .free with orderRef := none }).orderRef = none ∧
      (at0 { lockerIn .holding with fault := .heaterFault }).fault = .heaterFault ∧
      (at0 { lockerIn .offline with resume := some .free, occupancy := .empty }).resume = some .free ∧
      (at0 { lockerIn .offline with resume := some .free, occupancy := .occupied }).occupancy = .occupied ∧
      (at0 { lockerIn .offline with resume := none, occupancy := .empty }).resume = none ∧
      (bothLatched (at0 { lockerIn .holding with occupancy := .empty }) = true ∧
        Phase.agrees .holding (at0 { lockerIn .holding with occupancy := .empty }).occupancy = false) := by decide

/-- The transient phases with the watched door LATCHED and no unlatch pending, a condemned and an unknown order. -/
theorem witness_PhasesBySteps :
    let at0 (l : Locker) (o : Order) : State := bench { l with openedNoted := some true } [o]
    let clearing : Locker := { lockerIn .clearing with clearOrigin := some .condemned }
    (((at0 (lockerIn .loading) meal).locker 0).phase = .loading ∧
        ((at0 (lockerIn .loading) meal).locker 0).unlatchPending = none ∧
        ((at0 (lockerIn .loading) meal).locker 0).kDoor = .latched) ∧
      (((at0 (lockerIn .pickup) held).locker 0).cDoor = .latched ∧
        (at0 (lockerIn .pickup) held).order? 7 = some held) ∧
      ((at0 clearing held).locker 0).clearOrigin = some .condemned ∧
      ((at0 { clearing with orderRef := none } held).locker 0).orderRef = none ∧
      ((at0 { lockerIn .pickup with transientTimer := some 5 } held).locker 0).transientTimer = some 5 ∧
      (oneFree.order? 7 = none ∧ held.condemned = none ∧ held.locker = some 0 ∧ waiting.locker = none) := by decide

/-- A command of each sort on the bus, at its first and at its last attempt. -/
theorem witness_CommandExchangeEnds :
    let s (a : Nat) (kind : Nat) : State :=
      withEntry (entry .release .onBus) (withExchange (.command 0 0 a ⟨0, kind, [1, 20]⟩) (bench (lockerIn .pickup) [held]))
    ((s 1 2).ltu.discovery = none ∧ (s 1 2).bbm.exchange = some (.command 0 0 1 ⟨0, 2, [1, 20]⟩)) ∧
      (s 1 3).bbm.exchange = some (.command 0 0 1 ⟨0, 3, [1, 20]⟩) ∧
      (s 3 2).bbm.exchange = some (.command 0 0 3 ⟨0, 2, [1, 20]⟩) ∧
      entryBySeq (s 1 2).txu 0 = some (entry .release .onBus) ∧ ((s 1 2).locker 0).phase = .pickup ∧
      (entryBySeq (posting oneFree).txu 0 = none ∧
        postedBySeq (posting oneFree).txu 0 = some ⟨0, 1, .lamp 3, 0, .waiting⟩) := by decide

/-- A probe in flight, a bank with and without a locker left to probe, the long operations a discovery holds. -/
theorem witness_ProbesSettleTheBank :
    let s (a : Nat) : State := withExchange (.probe 0 a true) (inDiscovery oneFree)
    ((s 1).ltu.discovery = some ⟨.rescan, .probing⟩ ∧ (s 1).bbm.exchange = some (.probe 0 1 true)) ∧
      (s 3).bbm.exchange = some (.probe 0 3 true) ∧
      ((s 1).ltu.probeCursor ≤ 0 ∧ ((s 1).locker 0).populated = true ∧ ((s 1).locker 0).phase ≠ .service) ∧
      (∀ n, n < 48 → ((bench (lockerIn .service) []).locker n).populated = true →
        ((bench (lockerIn .service) []).locker n).phase = .service) ∧
      State.reset.txu.longOp = some ⟨.powerOnDiscovery, none⟩ ∧
      ({ oneFree with txu := { oneFree.txu with longOp := some ⟨.rescan, some 9⟩ } } : State).txu.longOp =
        some ⟨.rescan, some 9⟩ := by decide

theorem witness_BroadcastAndPollGapEnd :
    let s (m : MapState) : State :=
      let b := withExchange (.broadcast 9) oneFree
      { b with bbm := { b.bbm with mapState := m } }
    (s .sending).bbm.exchange = some (.broadcast 9) ∧ (s .sending).ltu.discovery = none ∧
      (s .sending).bbm.mapState = .sending ∧ (s .waiting).bbm.mapState ≠ .sending := by decide

theorem witness_BroadcastAndPollGapEnd_gap :
    let resting (l : Locker) : State :=
      let b := bench l []
      { b with bbm := { b.bbm with cycle := .gap, pollGap := some (200, 200) } }
    (resting (lockerIn .free)).bbm.pollGap = some (200, 200) ∧ ((resting (lockerIn .free)).locker 0).phase ≠ .absent ∧
      (∀ n < 48, ((resting (lockerIn .absent)).locker n).phase = .absent) ∧
      (resting (lockerIn .absent)).params.pollGapMs ≠ 0 := by decide

theorem witness_DoorHeldIsReportedOnce :
    let l (h : Bool) : Locker :=
      { lockerIn .pickup with cDoor := .opened, transientTimer := some 90000, doorHeld := some h }
    let s (h : Bool) : State := bench (l h) [held]
    ((s false).locker 0).phase.watched = some .c ∧ ((s false).locker 0).transientTimer = some 90000 ∧
      ((s false).locker 0).door .c = .opened ∧ (s false).params.doorOpenLimitS ≤ 600 ∧
      ((s true).locker 0).doorHeld = some true ∧ ((s false).locker 0).doorHeld ≠ some true := by decide

/-- The scan of code 00001234. -/
def scan1234 : List Nat := [48, 48, 48, 48, 49, 50, 51, 52]

/-- The panel would serve code 00001234, which the code map gives to the order `o`. -/
abbrev Scanned (l : Locker) (o : Order) : Prop :=
  (bench l [o]).pni.lockoutTimer = none ∧ (bench l [o]).params.panelEnable = true ∧
    (bench l [o]).ltu.discovery = none ∧
    ((bench l [o]).oru.codeMap.find? fun e => e.1 == 1234) = some (1234, 7) ∧ (bench l [o]).order? 7 = some o

theorem witness_ScanByRule :
    let s := bench (lockerIn .holding) [held]
    (scan1234.length = 8 ∧ (∀ c ∈ scan1234, 48 ≤ c ∧ c ≤ 57) ∧
        scan1234.foldl (fun v c => v * 10 + (c - 48)) 0 = 1234) ∧
      ({ s with pni := { s.pni with lockoutTimer := some 5 } } : State).pni.lockoutTimer ≠ none ∧
      (s.setParams { s.params with panelEnable := false }).params.panelEnable = false ∧
      (inDiscovery s).ltu.discovery ≠ none ∧ Scanned (lockerIn .condemned) { held with condemned := some .cold } ∧
      Scanned (lockerIn .free) waiting ∧ Scanned (lockerIn .reserved) meal ∧ Scanned (lockerIn .pickup) held ∧
      Scanned (lockerIn .offline) held ∧ Scanned { lockerIn .holding with kDoor := .opened } held ∧
      (∃ e ∈ (withEntry (entry .moduleRead .waiting) s).txu.table, e.locker = 0) ∧
      Scanned (lockerIn .holding) held ∧ s.txu.table.length < 8 ∧ ∀ e ∈ s.txu.table, e.locker ≠ 0 := by decide

theorem witness_UnknownCodesLockThePanel :
    let s (k : Nat) : State := { oneFree with pni := ⟨k, some 60000, none, []⟩ }
    (∀ k, k < 5 → (s k).pni.lockoutTimer = none ∧ (s k).params.panelEnable = true ∧ (s k).ltu.discovery = none ∧
      (s k).pni.unknownCount = k) ∧ (scan1234.length = 8 ∧ ∀ e ∈ oneFree.oru.codeMap, e.1 ≠ 1234) ∧ scan1234.tail.length ≠ 8 ∧ (s 4).pni.windowTimer = some 60000 ∧
      ({ oneFree with pni := ⟨0, none, some 0, []⟩ } : State).pni.lockoutTimer = some 0 := by decide

/-- A module whose doors are shut and latched. -/
def latchedDoor : ModuleDoor := ⟨true, false, none, false, 255, true⟩

theorem witness_ModuleKeepsItsSide :
    let m (k c : ModuleDoor) : LockerModule :=
      ⟨k, c, .empty, some 200, false, false, false, true, true, none, 500, 0, 0, [], 4, [], []⟩
    ((m latchedDoor latchedDoor).door .k).latchWorks = true ∧ ((m latchedDoor latchedDoor).door .c).state = .latched ∧
      ((m latchedDoor latchedDoor).door .k).shut = true ∧
      ((m { latchedDoor with latchWorks := false } latchedDoor).door .k).latchWorks = false ∧
      ((m latchedDoor { latchedDoor with shut := false }).door .c).state ≠ .latched ∧
      ((m latchedDoor { latchedDoor with shut := false }).reset.door .c).shut = false ∧
      (m latchedDoor latchedDoor).started = true ∧ (m latchedDoor latchedDoor).reset.started = false ∧
      0 < (m latchedDoor latchedDoor).startTakes ∧ parseBusFrame [0x96] = none := by decide

end Sys2Proof.Tests
end

/-! ## The rules of requests: one lemma that serves every request, and the door requests -/

namespace Sys2Proof.Proofs

open Sys2Proof.Machine

/-! ### A request that finds a free place is served in the accepted state (R136) -/

theorem exec_served (i : Instr) (s : State) (hi : IsRequest i) (h : s.lki.placesHeld < 32) :
    exec i s = .next (chooseTransmit (serveRequest i s.accepted)) := by
  cases i <;> simp [IsRequest, encodeRequest] at hi
  all_goals exact congrArg Host.Outcome.next (takeRequest_free _ s h)

/-! ### Time (R3, R19) -/

/-- A record `d` ms later, with the transient phases named. -/
theorem Locker.after_eq (d : Nat) (l : Locker) :
    l.after d = { l with
      sampleAge := min (l.sampleAge + d) 65535
      transientTimer :=
        if l.phase = .loading ∨ l.phase = .pickup ∨ l.phase = .clearing then
          l.transientTimer.map fun x => min (x + d) 4294967295
        else l.transientTimer } := by
  unfold Locker.after
  cases h : l.phase <;> simp [satAdd, timerAfter]

/-- Settles O1. -/
theorem stepRunsFrontCommand : Obligations.StepRunsFrontCommand := by
  refine ⟨fun c rest s h => ?_, fun s h => ?_, fun d s => ⟨rfl, fun n hn => ?_⟩⟩
  · simp [step, h]
  · simp [step, h]
  · rw [State.elapse_locker s d n hn, Locker.after_eq]

/-! ### Door requests at acceptance (R10) -/

/-- ORU's checks pass for a placed order outside discovery (R44). -/
theorem withPlacedOrder_placed (k : Kind) (tag id n : Nat) (rest : Nat → State → State) (o : Order) (s : State)
    (hd : s.ltu.discovery = none) (ho : s.order? id = some o) (hl : o.locker = some n) :
    withPlacedOrder k tag id rest s = rest n s := by
  simp [withPlacedOrder, State.discovering, hd, ho, hl]

theorem checkServer_accepted (s : State) (tag n : Nat) : checkServer s.accepted tag n = checkServer s tag n := by
  simp [checkServer, tagInTable, tagOfLongOp, tableTakes]

theorem orderCondemned_accepted (s : State) (l : Locker) : orderCondemned s.accepted l = orderCondemned s l := by
  simp only [orderCondemned, heldOrder]
  cases l.orderRef <;> simp

/-- The interlock of R9, in its parts. -/
theorem interlockHolds_iff (l : Locker) (d : Door) :
    interlockHolds l d = true ↔ l.door d.other = .latched ∧ l.unlatchPending = none ∧ l.phase ≠ .offline := by
  simp [interlockHolds, and_assoc]

theorem interlockHolds_of (l : Locker) (d : Door) (hp : l.phase ≠ .offline)
    (h : l.door d.other = .latched ∧ l.unlatchPending = none) : interlockHolds l d = true :=
  (interlockHolds_iff l d).mpr ⟨h.1, h.2, hp⟩

theorem interlockHolds_not (l : Locker) (d : Door) (h : ¬ (l.door d.other = .latched ∧ l.unlatchPending = none)) :
    interlockHolds l d = false := by
  rw [Bool.eq_false_iff, ne_eq, interlockHolds_iff]
  exact fun ⟨hd, hu, _⟩ => h ⟨hd, hu⟩

/-- What an accepted door command of the server leaves: a WAITING entry with the next sequence number, and the change
of its own locker's record (R10, R114). -/
def DoorCommandTaken (r : CmdRequest) (tag n : Nat) (d : Door) (l : Locker) (s u : State) : Prop :=
  u = { s.accepted with ltu := u.ltu, txu := { s.accepted.txu with
    table := s.txu.table ++ [⟨.server, some tag, r, n, some d, none, s.txu.nextSeq, .waiting⟩]
    nextSeq := (s.txu.nextSeq + 1) % 65536 } } ∧
  u.ltu = { s.ltu with lockers := u.ltu.lockers } ∧ OtherLockersSame n s u ∧ u.locker n = l

theorem addEntry_modLocker_taken (r : CmdRequest) (tag n : Nat) (d : Door) (f : Locker → Locker) (s : State)
    (hn : n < 48) :
    DoorCommandTaken r tag n d (f (s.locker n)) s
      ((addEntry .server (some tag) r n (some d) none s.accepted).modLocker n f) := by
  refine ⟨?_, ?_, fun m hm => ?_, ?_⟩
  · simp [addEntry, State.withTxu, State.modLocker, State.setLocker, bumpSeq]
  · simp [addEntry, State.modLocker, State.setLocker]
  · simp [addEntry, hm]
  · simp [addEntry, hn]

/-- TXU refuses a door command that LTU has passed, or takes it (R118). -/
theorem takeDoorCommand_accepted (r : CmdRequest) (tag n : Nat) (d : Door) (f : Locker → Locker) (s : State)
    (hn : n < 48) :
    (∀ st, checkServer s tag n = some st →
      takeDoorCommand r tag n d (fun x => x.modLocker n f) s.accepted = answer r.kind tag st [] s.accepted) ∧
    (checkServer s tag n = none →
      ∃ u, takeDoorCommand r tag n d (fun x => x.modLocker n f) s.accepted = chooseBus u ∧
        DoorCommandTaken r tag n d (f (s.locker n)) s u) := by
  refine ⟨fun st h => ?_, fun h => ⟨_, ?_, addEntry_modLocker_taken r tag n d f s hn⟩⟩
  · rw [← checkServer_accepted] at h
    simp only [takeDoorCommand, h]
  · rw [← checkServer_accepted] at h
    simp only [takeDoorCommand, h]

/-- The three transient phases entered from a phase that keeps no field of its own (R7). -/
theorem enter_transient (p : Phase) (l : Locker) (hp : p ∈ [.loading, .pickup, .clearing])
    (h : l.phase ∈ [.reserved, .holding, .condemned, .quarantine, .service]) :
    l.enter p = { l with
      phase := p, openedNoted := some false, transientTimer := some 0, doorHeld := some false
      unlatchPending := p.watched } := by
  have hleave : l.leave = l := by
    simp only [List.mem_cons, List.not_mem_nil, or_false] at h
    unfold Locker.leave
    rcases h with h | h | h | h | h <;> simp [h]
  simp only [List.mem_cons, List.not_mem_nil, or_false] at hp
  rw [Locker.enter, hleave]
  rcases hp with rfl | rfl | rfl <;> rfl

/-- A request that its unit's check refuses with a status, or that goes on (R139). -/
def refusedOr (k : Kind) (tag : Nat) (check : Option Status) (s goesOn : State) : State :=
  match check with
  | some st => answer k tag st [] s
  | none => goesOn

@[simp] theorem refusedOr_some (k : Kind) (tag : Nat) (st : Status) (s t : State) :
    refusedOr k tag (some st) s t = answer k tag st [] s := rfl

@[simp] theorem refusedOr_none (k : Kind) (tag : Nat) (s t : State) : refusedOr k tag none s t = t := rfl

/-! ### LOAD_OPEN (R13) -/

/-- LTU's answer to LOAD_OPEN decides between a refusal and TXU's checks. -/
theorem exec_loadOpen (tag id n : Nat) (o : Order) (s : State) (hp : s.lki.placesHeld < 32)
    (hd : s.ltu.discovery = none) (ho : s.order? id = some o) (hl : o.locker = some n) :
    exec (.loadOpen tag id) s = .next (chooseTransmit
      (refusedOr kLoadOpen tag (checkLoadOpen (s.locker n)) s.accepted
        (takeDoorCommand .loadOpen tag n .k (fun x => x.modLocker n (Locker.enter .loading)) s.accepted))) := by
  rw [exec_served (.loadOpen tag id) s rfl hp, serveRequest, serveLoadOpen,
    withPlacedOrder_placed _ _ _ n _ o _ (by simpa using hd) (by simpa using ho) hl, accepted_locker]
  rfl

/-- Settles O31. -/
theorem loadOpenByRule : Obligations.LoadOpenByRule := by
  intro tag id n o s hp hd ho hl hn
  dsimp only
  rw [exec_loadOpen tag id n o s hp hd ho hl]
  refine ⟨fun h => ?_, fun h h' => ?_, fun h hf => ?_, fun h hf hi => ?_, fun h hf hi => ?_⟩
  · simp [checkLoadOpen, h]
  · simp [checkLoadOpen, h, h']
  · simp [checkLoadOpen, h, hf]
  · simp [checkLoadOpen, h, hf, interlockHolds_not _ .k hi]
  · have hc : checkLoadOpen (s.locker n) = none := by
      simp [checkLoadOpen, h, hf, interlockHolds_of _ .k (by simp [h]) hi]
    simp only [hc, refusedOr_none]
    obtain ⟨refused, taken⟩ := takeDoorCommand_accepted .loadOpen tag n .k (Locker.enter .loading) s hn
    refine ⟨fun st hs => by rw [refused st hs]; rfl, fun hs => ?_⟩
    obtain ⟨u, hu, heq, hltu, hsame, hlock⟩ := taken hs
    exact ⟨u, by rw [hu], heq, hltu, hsame, hlock.trans (enter_transient .loading _ (by simp) (by simp [h]))⟩

/-! ### RELEASE (R15) -/

theorem exec_release (tag id n : Nat) (o : Order) (s : State) (hp : s.lki.placesHeld < 32)
    (hd : s.ltu.discovery = none) (ho : s.order? id = some o) (hl : o.locker = some n) :
    exec (.release tag id) s = .next (chooseTransmit
      (refusedOr kRelease tag (checkRelease s.accepted (s.locker n)) s.accepted
        (takeDoorCommand .release tag n .c (fun x => x.modLocker n (Locker.enter .pickup)) s.accepted))) := by
  rw [exec_served (.release tag id) s rfl hp, serveRequest, serveRelease,
    withPlacedOrder_placed _ _ _ n _ o _ (by simpa using hd) (by simpa using ho) hl, accepted_locker]
  rfl

/-- Whether the order of a locker is condemned, by the record the reference finds. -/
theorem orderCondemned_of (s : State) (l : Locker) (id : Nat) (o : Order) (hr : l.orderRef = some id)
    (ho : s.order? id = some o) : orderCondemned s l = o.condemned.isSome := by
  simp [orderCondemned, heldOrder, hr, ho]

/-- Settles O32. -/
theorem releaseByRule : Obligations.ReleaseByRule := by
  intro tag id n o s hp hd ho hl hn hr
  have hcond : orderCondemned s.accepted (s.locker n) = o.condemned.isSome := by
    rw [orderCondemned_accepted, orderCondemned_of s _ id o hr ho]
  dsimp only
  rw [exec_release tag id n o s hp hd ho hl]
  refine ⟨fun hk => ?_, fun hk h => ?_, fun hk h h' => ?_, fun hk h hi => ?_, fun hk h hi => ?_⟩
  · simp [checkRelease, hcond, Option.isSome_iff_ne_none, hk]
  · simp [checkRelease, hcond, hk, h]
  · simp [checkRelease, hcond, hk, h, h']
  · simp [checkRelease, hcond, hk, h, interlockHolds_not _ .c hi]
  · have hc : checkRelease s.accepted (s.locker n) = none := by
      simp [checkRelease, hcond, hk, h, interlockHolds_of _ .c (by simp [h]) hi]
    simp only [hc, refusedOr_none]
    obtain ⟨refused, taken⟩ := takeDoorCommand_accepted .release tag n .c (Locker.enter .pickup) s hn
    refine ⟨fun st hs => by rw [refused st hs]; rfl, fun hs => ?_⟩
    obtain ⟨u, hu, heq, hltu, hsame, hlock⟩ := taken hs
    exact ⟨u, by rw [hu], heq, hltu, hsame, hlock.trans (enter_transient .pickup _ (by simp) (by simp [h]))⟩

/-! ### CLEAR and CLEAR_LOCKER (R17) -/

theorem exec_clear (tag id n : Nat) (o : Order) (s : State) (hp : s.lki.placesHeld < 32)
    (hd : s.ltu.discovery = none) (ho : s.order? id = some o) (hl : o.locker = some n) :
    exec (.clear tag id) s = .next (chooseTransmit
      (refusedOr kClear tag (checkClear (s.locker n)) s.accepted
        (takeDoorCommand .clear tag n .k (enterClearing n) s.accepted))) := by
  rw [exec_served (.clear tag id) s rfl hp, serveRequest, serveClear,
    withPlacedOrder_placed _ _ _ n _ o _ (by simpa using hd) (by simpa using ho) hl, accepted_locker]
  rfl

/-- LKI and the discovery pass a request that names a locker (R137, R192). -/
theorem checkNamedLocker_passes (s : State) (n : Nat) (hd : s.ltu.discovery = none) (hn : n < 48) :
    checkNamedLocker s.accepted n = none := by
  simp [checkNamedLocker, State.discovering, hd]
  omega

theorem exec_clearLocker (tag n : Nat) (s : State) (hp : s.lki.placesHeld < 32)
    (hd : s.ltu.discovery = none) (hn : n < 48) :
    exec (.clearLocker tag n) s = .next (chooseTransmit
      (refusedOr kClearLocker tag (checkClearLocker (s.locker n)) s.accepted
        (takeDoorCommand .clearLocker tag n .k (enterClearing n) s.accepted))) := by
  rw [exec_served (.clearLocker tag n) s rfl hp, serveRequest, serveClearLocker]
  simp only [checkNamedLocker_passes s n hd hn, accepted_locker]
  rfl

/-- CLEARING with its origin, entered from a phase that keeps no field of its own (R7, R17). -/
theorem enterClearing_record (l : Locker) (h : l.phase ∈ [.reserved, .holding, .condemned, .quarantine, .service]) :
    { l.enter .clearing with clearOrigin := some l.phase } = { l with
      phase := .clearing, clearOrigin := some l.phase, openedNoted := some false, transientTimer := some 0
      doorHeld := some false, unlatchPending := some .k } := by
  rw [enter_transient .clearing l (by simp) h]
  rfl

theorem checkClear_passes (l : Locker) (h : l.phase = .condemned)
    (hi : l.cDoor = .latched ∧ l.unlatchPending = none) : checkClear l = none := by
  simp [checkClear, h, interlockHolds_of l .k (by simp [h]) hi]

/-- The phases CLEAR_LOCKER takes (R17). -/
def Withdrawable (l : Locker) : Prop := l.phase = .quarantine ∨ (l.phase = .service ∧ l.orderRef ≠ none)

theorem checkClearLocker_of (l : Locker) (h : Withdrawable l) :
    checkClearLocker l = if interlockHolds l .k then none else some .interlock := by
  unfold checkClearLocker
  rw [if_neg, if_pos]
  · simpa [Withdrawable, Option.isSome_iff_ne_none] using h
  · rcases h with h | h <;> simp [h]

theorem checkClearLocker_passes (l : Locker) (h : Withdrawable l)
    (hi : l.cDoor = .latched ∧ l.unlatchPending = none) : checkClearLocker l = none := by
  rw [checkClearLocker_of l h, if_pos]
  exact interlockHolds_of l .k (by rcases h with h | h <;> simp [h]) hi

/-- Settles O33. -/
theorem clearRequestsByRule : Obligations.ClearRequestsByRule := by
  refine ⟨fun tag n s hp hd hn hs hc hu => ⟨fun id o ho hl h => ?_, fun h => ?_⟩, fun tag n s hp hd hn =>
    ⟨fun id o ho hl => ?_, fun h => ?_, fun h h' => ?_, fun h hi => ?_, fun st h hi hs => ?_⟩⟩
  · obtain ⟨u, hu', heq, hltu, hsame, hlock⟩ := (takeDoorCommand_accepted .clear tag n .k
      (fun l => { l.enter .clearing with clearOrigin := some l.phase }) s hn).2 hs
    refine ⟨u, ?_, heq, hltu, hsame, hlock.trans (enterClearing_record _ (by simp [h]))⟩
    rw [exec_clear tag id n o s hp hd ho hl, checkClear_passes _ h ⟨hc, hu⟩, ← hu']
    rfl
  · obtain ⟨u, hu', heq, hltu, hsame, hlock⟩ := (takeDoorCommand_accepted .clearLocker tag n .k
      (fun l => { l.enter .clearing with clearOrigin := some l.phase }) s hn).2 hs
    refine ⟨u, ?_, heq, hltu, hsame, hlock.trans (enterClearing_record _ (by rcases h with h | h <;> simp [h]))⟩
    rw [exec_clearLocker tag n s hp hd hn, checkClearLocker_passes _ h ⟨hc, hu⟩, ← hu']
    rfl
  · dsimp only
    rw [exec_clear tag id n o s hp hd ho hl]
    refine ⟨fun h => ?_, fun h h' => ?_, fun h hi => ?_, fun st h hi hs => ?_⟩
    · simp [checkClear, h]
    · simp [checkClear, h, h']
    · simp [checkClear, h, interlockHolds_not _ .k hi]
    · rw [checkClear_passes _ h hi]
      exact congrArg (fun x => Host.Outcome.next (chooseTransmit x))
        ((takeDoorCommand_accepted .clear tag n .k _ s hn).1 st hs)
  all_goals
    dsimp only
    rw [exec_clearLocker tag n s hp hd hn]
  · simp [checkClearLocker, h]
  · have h' : ¬ ((s.locker n).phase = .quarantine ∨ (s.locker n).phase = .service ∧ (s.locker n).orderRef.isSome = true) := by
      simpa [Option.isSome_iff_ne_none] using h'
    simp [checkClearLocker, h, h']
  · rw [checkClearLocker_of _ h]
    simp [interlockHolds_not _ .k hi]
  · rw [checkClearLocker_passes _ h hi]
    exact congrArg (fun x => Host.Outcome.next (chooseTransmit x))
      ((takeDoorCommand_accepted .clearLocker tag n .k _ s hn).1 st hs)

/-! ### SERVICE_ON (R25) -/

theorem exec_serviceOn (tag n : Nat) (s : State) (hp : s.lki.placesHeld < 32) (hd : s.ltu.discovery = none)
    (hn : n < 48) :
    exec (.serviceOn tag n) s = .next (chooseTransmit
      (if serviceOnTaken (s.locker n) then
        answer kServiceOn tag .ok []
          (if (s.locker n).phase = .service then s.accepted else moveTo .service n s.accepted)
      else answer kServiceOn tag .wrongPhase [] s.accepted)) := by
  rw [exec_served (.serviceOn tag n) s rfl hp, serveRequest, serveServiceOn]
  simp only [checkNamedLocker_passes s n hd hn, accepted_locker]

/-- SERVICE entered from a phase that SERVICE_ON takes (R7, R25). -/
theorem enter_service (l : Locker) (h : l.phase ∈ [.free, .purging, .quarantine, .offline]) :
    l.enter .service = { l with
      phase := .service
      purgeProgress := if l.phase = .purging then none else l.purgeProgress
      purgeSuspended := if l.phase = .purging then none else l.purgeSuspended
      resume := if l.phase = .offline then none else l.resume } := by
  simp only [List.mem_cons, List.not_mem_nil, or_false] at h
  unfold Locker.enter Locker.leave
  rcases h with h | h | h | h <;> simp [h, Locker.arrive]

/-- Settles O34. -/
theorem serviceOnByPhase : Obligations.ServiceOnByPhase := by
  intro tag n s hp hd hn
  dsimp only
  rw [exec_serviceOn tag n s hp hd hn]
  refine ⟨fun h => ?_, fun h => ?_, fun h => ?_⟩
  · simp [serviceOnTaken, h]
  · have hno : serviceOnTaken (s.locker n) = false := by
      rcases h with h | ⟨h, hr⟩
      · simp only [List.mem_cons, List.not_mem_nil, or_false] at h
        rcases h with h | h | h | h | h | h | h <;> simp [serviceOnTaken, h]
      · simpa [serviceOnTaken, h, Option.isSome_iff_ne_none] using hr
    simp [hno]
  · have hyes : serviceOnTaken (s.locker n) = true := by
      rcases h with h | ⟨h, hr⟩
      · simp only [List.mem_cons, List.not_mem_nil, or_false] at h
        rcases h with h | h | h <;> simp [serviceOnTaken, h]
      · simp [serviceOnTaken, h, hr]
    have hmem : (s.locker n).phase ∈ [.free, .purging, .quarantine, .offline] := by
      rcases h with h | ⟨h, -⟩
      · simp only [List.mem_cons, List.not_mem_nil, or_false] at h ⊢
        rcases h with h | h | h <;> simp [h]
      · simp [h]
    have hne : (s.locker n).phase ≠ .service := by
      intro hs
      simp [hs] at hmem
    refine ⟨moveTo .service n s.accepted, by simp [hyes, hne], (moveTo_records _ _ _).onlyRecords, by simp,
      fun m hm => by simp [hm], ?_, by simp, by simp, by simp, fun c m => ?_⟩
    · rw [moveTo_locker_same _ _ _ hn, accepted_locker, enter_service _ hmem]
    · rw [moveTo_freeList]
      by_cases hfree : (s.locker n).phase = .free ∧ c = (s.locker n).cls
      · simp [hfree]
      · simp only [accepted_locker, hfree, if_false, accepted_freeList]
        exact ⟨fun hm => ⟨hm, fun ⟨hf, hc, _⟩ => hfree ⟨hf, hc⟩⟩, fun hm => hm.1⟩

/-! ### SERVICE_OFF and SERVICE_UNLATCH (R26) -/

theorem exec_serviceOff (tag n : Nat) (s : State) (hp : s.lki.placesHeld < 32) (hd : s.ltu.discovery = none)
    (hn : n < 48) :
    exec (.serviceOff tag n) s = .next (chooseTransmit
      (if (s.locker n).phase ≠ .service ∨ (s.locker n).orderRef.isSome then
        answer kServiceOff tag .wrongPhase [] s.accepted
      else if (s.locker n).unlatchPending.isSome then answer kServiceOff tag .interlock [] s.accepted
      else answer kServiceOff tag .ok []
        (moveTo .purging n (s.accepted.modLocker n fun l => { l with heaterExcluded := false })))) := by
  rw [exec_served (.serviceOff tag n) s rfl hp, serveRequest, serveServiceOff]
  simp only [checkNamedLocker_passes s n hd hn, accepted_locker]

theorem exec_serviceUnlatch (tag n : Nat) (d : Door) (s : State) (hp : s.lki.placesHeld < 32)
    (hd : s.ltu.discovery = none) (hn : n < 48) :
    exec (.serviceUnlatch tag n d.code) s = .next (chooseTransmit
      (refusedOr kServiceUnlatch tag (checkServiceUnlatch (s.locker n) d) s.accepted
        (takeDoorCommand .serviceUnlatch tag n d
          (fun x => x.modLocker n fun l => { l with unlatchPending := some d }) s.accepted))) := by
  have hcode : Door.ofCode d.code = some d := by cases d <;> rfl
  rw [exec_served (.serviceUnlatch tag n d.code) s rfl hp, serveRequest, serveServiceUnlatch]
  simp only [hcode, checkNamedLocker_passes s n hd hn, accepted_locker]
  rfl

/-- A SERVICE locker that purges from 0 with its heater no longer excluded. -/
theorem serviceOff_taken (n : Nat) (s : State) (hn : n < 48) (h : (s.locker n).phase = .service)
    (hr : (s.locker n).orderRef = none) :
    let u := moveTo .purging n (s.accepted.modLocker n fun l => { l with heaterExcluded := false })
    u = { s.accepted with ltu := { s.ltu with lockers := u.ltu.lockers } } ∧ OtherLockersSame n s u ∧
      u.locker n = { s.locker n with
        phase := .purging, heaterExcluded := false, purgeProgress := some 0, purgeSuspended := some false } := by
  dsimp only
  rw [moveTo_of_not_free _ _ _ (by simp [hn, h])]
  refine ⟨?_, fun m hm => ?_, ?_⟩
  · simp [State.setLocker, State.modLocker]
  · simp [hm]
  · simp [hn, Locker.enter, Locker.leave, Locker.arrive, h, hr]

/-- Settles O35. -/
theorem serviceRequestsByRule : Obligations.ServiceRequestsByRule := by
  refine ⟨fun tag n s hp hd hn => ?_, fun tag n d s hp hd hn => ?_⟩
  · dsimp only
    rw [exec_serviceOff tag n s hp hd hn]
    refine ⟨fun h => ?_, fun h hr hu => ?_, fun h hr hu => ⟨_, ?_, serviceOff_taken n s hn h hr⟩⟩
    · rw [if_pos (by simpa [Option.isSome_iff_ne_none] using h)]
    · simp [h, hr, Option.isSome_iff_ne_none, hu]
    · simp [h, hr, hu]
  · dsimp only
    rw [exec_serviceUnlatch tag n d s hp hd hn]
    have late (hor : d = .k ∨ (s.locker n).orderRef = none) : ¬ (d = .c ∧ (s.locker n).orderRef.isSome = true) := by
      rintro ⟨rfl, hr⟩
      simp_all
    have passes (h : (s.locker n).phase = .service) (hor : d = .k ∨ (s.locker n).orderRef = none)
        (hi : (s.locker n).door d.other = .latched ∧ (s.locker n).unlatchPending = none) :
        checkServiceUnlatch (s.locker n) d = none := by
      simp [checkServiceUnlatch, h, late hor, interlockHolds_of _ d (by simp [h]) hi]
    obtain ⟨refused, taken⟩ := takeDoorCommand_accepted .serviceUnlatch tag n d
      (fun l => { l with unlatchPending := some d }) s hn
    refine ⟨fun h => ?_, fun h hc hr => ?_, fun h hor hi => ?_, fun st h hor hi hs => ?_, fun h hor hi hs => ?_⟩
    · simp [checkServiceUnlatch, h]
    · simp [checkServiceUnlatch, h, hc, Option.isSome_iff_ne_none, hr]
    · simp [checkServiceUnlatch, h, late hor, interlockHolds_not _ d hi]
    · rw [passes h hor hi, refusedOr_none, refused st hs]
      rfl
    · obtain ⟨u, hu, heq, hltu, hsame, hlock⟩ := taken hs
      exact ⟨u, by rw [passes h hor hi, refusedOr_none, hu], heq, hltu, hsame, hlock⟩

/-! ### DOOR_HELD as an event (R19) -/

/-- What time leaves of a record that DOOR_HELD looks at. -/
theorem after_doorHeld_fields (d : Nat) (l : Locker) :
    (l.after d).phase = l.phase ∧ (l.after d).doorHeld = l.doorHeld ∧ (l.after d).orderRef = l.orderRef ∧
      ∀ x, (l.after d).door x = l.door x := by
  refine ⟨rfl, rfl, rfl, fun x => by cases x <;> rfl⟩

/-- The transient timer of a locker whose phase has a watched door runs (R19). -/
theorem after_transientTimer (d x : Nat) (l : Locker) (h : l.phase.watched.isSome = true)
    (ht : l.transientTimer = some x) : (l.after d).transientTimer = some (min (x + d) 4294967295) := by
  rw [Locker.after_eq]
  cases hp : l.phase <;> simp [hp, Phase.watched] at h <;> simp [ht]

/-- Settles O57. -/
theorem doorHeldIsReportedOnce : Obligations.DoorHeldIsReportedOnce := by
  intro n x d s hn hw ht ho hlim
  have hwait : doorHeldWait s.clearPorts (s.locker n) =
      if (s.locker n).doorHeld ≠ some true then some (s.params.doorOpenLimitS * 1000 + 1 - x) else none := by
    unfold doorHeldWait
    simp only [hw, ht, ho, true_and]
    rfl
  refine ⟨fun hh => ?_, fun hh => ?_⟩
  · show execDoorHeld n s = _
    simp [execDoorHeld, hwait, hh]
  · obtain ⟨hphase, hheld, href, hdoor⟩ :=
      after_doorHeld_fields (s.params.doorOpenLimitS * 1000 + 1 - x) (s.locker n)
    have htimer := after_transientTimer (s.params.doorOpenLimitS * 1000 + 1 - x) x (s.locker n) (by simp [hw]) ht
    have hlate : s.params.doorOpenLimitS * 1000 <
        min (x + (s.params.doorOpenLimitS * 1000 + 1 - x)) 4294967295 := by omega
    dsimp only
    generalize hd : s.params.doorOpenLimitS * 1000 + 1 - x = w at *
    have hrec : (s.clearPorts.elapse w).locker n = (s.locker n).after w := State.elapse_locker _ _ _ hn
    have hdue : doorHeldDue (s.clearPorts.elapse w) ((s.locker n).after w) = true := by
      simp [doorHeldDue, hphase, hw, htimer, hdoor, ho, hheld, hh, hlate]
    refine ⟨(s.clearPorts.elapse w).modLocker n fun l => { l with doorHeld := some true }, ?_, rfl,
      fun m hm => State.modLocker_ne _ _ _ _ hm, State.modLocker_same _ _ _ hn⟩
    show execDoorHeld n s = _
    simp [execDoorHeld, hwait, hh, examineDoorHeld, hdue, hrec, hphase, hw, href]

end Sys2Proof.Proofs

/-! ## Orders, lockers and free lists as one invariant (section 1.2, R31, R34, R35) -/

namespace Sys2Proof.Proofs

open Sys2Proof.Machine

/-! ### What the invariant reads -/

/-- What the orders say about lockers: each id with the locker of a PLACED order. -/
def orderLinks (s : State) : List (Nat × Option Nat) := s.oru.orders.map fun o => (o.id, o.locker)

/-- What a record says about orders and free lists. -/
def linkage (l : Locker) : Phase × Option Nat × Option Phase × Option Phase × SizeClass :=
  (l.phase, l.orderRef, l.resume, l.clearOrigin, l.cls)

/-- A record as a discovery sets it aside: no order, and ABSENT, SERVICE or OFFLINE with no resume phase (R188). -/
def Aside (l : Locker) : Prop :=
  l.orderRef = none ∧ (l.phase ∈ [.absent, .service] ∨ (l.phase = .offline ∧ l.resume = none))

/-- A record as polls and commands may leave it in a bank that has been set aside: it refers to no order and no rule
but an end of discovery makes it FREE. -/
def Apart (l : Locker) : Prop :=
  l.orderRef = none ∧ (l.phase ∈ [.absent, .service, .purging, .quarantine] ∨
    (l.phase = .offline ∧ l.resume ∈ [none, some .service, some .purging, some .quarantine]))

/-- Orders and lockers name each other, the pending queue holds PENDING orders only, the free lists FREE lockers only.
Where `b` holds the whole bank is apart; the lockers of `A` are aside. -/
structure Linked (b : Prop) (A : Nat → Prop) (s : State) : Prop where
  ids : ((orderLinks s).map Prod.fst).Nodup
  named : ∀ x ∈ orderLinks s, x.1 ≠ 0
  forth : ∀ x ∈ orderLinks s, ∀ n, x.2 = some n → n < 48 ∧ (s.locker n).orderRef = some x.1
  back : ∀ n id, (s.locker n).orderRef = some id → (s.locker n).mayHold ∧ (id, some n) ∈ orderLinks s
  queued : ∀ id ∈ s.oru.queue, (id, none) ∈ orderLinks s
  once : s.oru.queue.Nodup
  free : ∀ c n, n ∈ s.freeList c → (s.locker n).phase = .free ∧ (s.locker n).cls = c
  apart : b → ∀ n, Apart (s.locker n)
  aside : ∀ n, A n → Aside (s.locker n)

variable {b : Prop} {A : Nat → Prop} {s t : State}

theorem mayHold_congr {l l' : Locker} (h : linkage l' = linkage l) : l'.mayHold ↔ l.mayHold := by
  simp only [linkage, Prod.mk.injEq] at h
  obtain ⟨hp, -, hr, hc, -⟩ := h
  simp only [Locker.mayHold, hp, hr, hc]

theorem Apart.congr {l l' : Locker} (h : linkage l' = linkage l) (k : Apart l) : Apart l' := by
  simp only [linkage, Prod.mk.injEq] at h
  obtain ⟨hp, ho, hr, -, -⟩ := h
  simpa only [Apart, hp, ho, hr] using k

theorem Aside.congr {l l' : Locker} (h : linkage l' = linkage l) (k : Aside l) : Aside l' := by
  simp only [linkage, Prod.mk.injEq] at h
  obtain ⟨hp, ho, hr, -, -⟩ := h
  simpa only [Aside, hp, ho, hr] using k

theorem Aside.isApart {l : Locker} (h : Aside l) : Apart l := by
  obtain ⟨hr, h | ⟨hp, hn⟩⟩ := h
  · refine ⟨hr, .inl ?_⟩
    simp only [List.mem_cons, List.not_mem_nil, or_false] at h ⊢
    exact h.imp_right .inl
  · exact ⟨hr, .inr ⟨hp, by simp [hn]⟩⟩

/-- The phases in which an order may stand whatever the other fields say. -/
theorem mayHold_of_phase {l : Locker}
    (h : l.phase ∈ [.reserved, .loading, .holding, .pickup, .condemned, .service]) : l.mayHold := .inl h

/-- The invariant reads the links, the queue, the free lists and the linkage of the records. -/
theorem Linked.congr (h : Linked b A s) (hl : orderLinks t = orderLinks s) (hq : t.oru.queue = s.oru.queue)
    (hf : ∀ c, t.freeList c = s.freeList c) (hr : ∀ n, linkage (t.locker n) = linkage (s.locker n)) :
    Linked b A t := by
  have ref n : (t.locker n).orderRef = (s.locker n).orderRef := congrArg (fun x => x.2.1) (hr n)
  refine ⟨by rw [hl]; exact h.ids, by rw [hl]; exact h.named, fun x hx n hn => ?_, fun n id hn => ?_,
    by rw [hl, hq]; exact h.queued, by rw [hq]; exact h.once, fun c n hn => ?_, fun hb n => (h.apart hb n).congr (hr n),
    fun n hn => (h.aside n hn).congr (hr n)⟩
  · rw [ref]
    exact h.forth x (hl ▸ hx) n hn
  · rw [ref] at hn
    exact ⟨(mayHold_congr (hr n)).mpr (h.back n id hn).1, hl ▸ (h.back n id hn).2⟩
  · have hp : (t.locker n).phase = (s.locker n).phase := congrArg (fun x => x.1) (hr n)
    have hc : (t.locker n).cls = (s.locker n).cls := congrArg (fun x => x.2.2.2.2) (hr n)
    rw [hp, hc]
    exact h.free c n (hf c ▸ hn)

theorem Linked.weaken {b' : Prop} {A' : Nat → Prop} (h : Linked b A s) (hb : b' → ∀ n, Apart (s.locker n))
    (hA : ∀ n, A' n → Aside (s.locker n)) : Linked b' A' s :=
  ⟨h.ids, h.named, h.forth, h.back, h.queued, h.once, h.free, hb, hA⟩

theorem Linked.onlyLink (h : Linked b A s) (k : OnlyLink s t) : Linked b A t :=
  h.congr (by unfold orderLinks; rw [k.oru]) (by rw [k.oru]) (fun c => k.freeList c) (fun n => by rw [k.locker])

theorem submit_linked (k : ReportKind) (fs : List Field) (h : Linked b A s) : Linked b A (submit k fs s) :=
  h.onlyLink (submit_onlyLink k fs s)

/-! ### Records -/

/-- A locker that refers to no order in a phase of no order. -/
theorem Linked.ref_none (h : Linked b A s) (n : Nat) (hn : ¬ (s.locker n).mayHold) : (s.locker n).orderRef = none := by
  cases hr : (s.locker n).orderRef with
  | none => rfl
  | some id => exact absurd (h.back n id hr).1 hn

theorem Linked.ref_of_free (h : Linked b A s) (n : Nat) (hn : (s.locker n).phase = .free) :
    (s.locker n).orderRef = none :=
  h.ref_none n (by simp [Locker.mayHold, hn])

/-- A record is written: its order reference stays, it may hold what it refers to, a listed one stays FREE. -/
theorem setLocker_linked (h : Linked b A s) (n : Nat) (l : Locker) (href : l.orderRef = (s.locker n).orderRef)
    (hhold : l.orderRef ≠ none → l.mayHold)
    (hfree : ∀ c, n ∈ s.freeList c → l.phase = .free ∧ l.cls = (s.locker n).cls)
    (hb : b → Apart l) (hA : A n → Aside l) : Linked b A (s.setLocker n l) := by
  by_cases hn : n < 48
  case neg => rwa [State.setLocker_out _ _ _ (by omega)]
  have at_n m (hm : m = n) : (s.setLocker n l).locker m = l := by rw [hm, State.setLocker_same _ _ _ hn]
  have at_m m (hm : m ≠ n) : (s.setLocker n l).locker m = s.locker m := State.setLocker_ne _ _ _ _ hm
  have ref m : ((s.setLocker n l).locker m).orderRef = (s.locker m).orderRef := by
    by_cases hm : m = n
    · rw [at_n m hm, href, hm]
    · rw [at_m m hm]
  refine ⟨h.ids, h.named, fun x hx m hm => by rw [ref]; exact h.forth x hx m hm, fun m id hm => ?_, h.queued,
    h.once, fun c m hm => ?_, fun hb' m => ?_, fun m hm => ?_⟩
  · rw [ref] at hm
    refine ⟨?_, (h.back m id hm).2⟩
    by_cases hmn : m = n
    · rw [at_n m hmn]
      exact hhold (by rw [href, ← hmn, hm]; simp)
    · rw [at_m m hmn]
      exact (h.back m id hm).1
  · by_cases hmn : m = n
    · subst hmn
      rw [at_n m rfl]
      obtain ⟨hp, hc⟩ := hfree c hm
      exact ⟨hp, hc.trans (h.free c m hm).2⟩
    · rw [at_m m hmn]
      exact h.free c m hm
  · by_cases hmn : m = n
    · rw [at_n m hmn]
      exact hb hb'
    · rw [at_m m hmn]
      exact h.apart hb' m
  · by_cases hmn : m = n
    · rw [at_n m hmn]
      exact hA (hmn ▸ hm)
    · rw [at_m m hmn]
      exact h.aside m hm

/-- A record is written that says the same of orders and free lists. -/
theorem modLocker_linked (h : Linked b A s) (n : Nat) (f : Locker → Locker)
    (hf : linkage (f (s.locker n)) = linkage (s.locker n)) : Linked b A (s.modLocker n f) := by
  refine h.congr rfl rfl (fun c => by simp) fun m => ?_
  by_cases hm : m = n
  · subst hm
    by_cases hn : m < 48
    · rw [State.modLocker_same _ _ _ hn, hf]
    · rw [State.modLocker_eq, State.setLocker_out _ _ _ (by omega)]
  · rw [State.modLocker_ne _ _ _ _ hm]

/-! ### Changes of phase (R7) -/

theorem enter_orderRef (p : Phase) (l : Locker) :
    (l.enter p).orderRef = if p = .purging then none else l.orderRef := by
  unfold Locker.enter Locker.leave
  cases p <;> cases l.phase <;> rfl

theorem enter_resume (p : Phase) (l : Locker) :
    (l.enter p).resume = if p = .offline ∨ l.phase = .offline then none else l.resume := by
  unfold Locker.enter Locker.leave
  cases p <;> cases l.phase <;> rfl

theorem enter_clearOrigin (p : Phase) (l : Locker) :
    (l.enter p).clearOrigin = if l.phase = .clearing then none else l.clearOrigin := by
  unfold Locker.enter Locker.leave
  cases p <;> cases l.phase <;> rfl

theorem enter_cls (p : Phase) (l : Locker) : (l.enter p).cls = l.cls := (enter_keeps p l).1

theorem setFreeList_linked (h : Linked b A s) (c : SizeClass) (q : List Nat)
    (hq : ∀ n ∈ q, (s.locker n).phase = .free ∧ (s.locker n).cls = c) : Linked b A (s.setFreeList c q) := by
  have links : orderLinks (s.setFreeList c q) = orderLinks s := by
    unfold orderLinks
    rw [State.setFreeList_orders]
  refine ⟨by rw [links]; exact h.ids, by rw [links]; exact h.named, ?_, ?_, ?_, by simpa using h.once, fun k n hn => ?_,
    fun hb n => by simpa using h.apart hb n, fun n hn => by simpa using h.aside n hn⟩
  · intro x hx n hn
    simpa using h.forth x (links ▸ hx) n hn
  · intro n id hn
    rw [links]
    simpa using h.back n id (by simpa using hn)
  · intro id hid
    rw [links]
    exact h.queued id (by simpa using hid)
  · rw [State.setFreeList_freeList] at hn
    rw [State.setFreeList_locker]
    split at hn
    case isTrue hk => exact hk ▸ hq n hn
    case isFalse hk => exact h.free k n hn

theorem leftFree_linked (h : Linked b A s) (c : SizeClass) (n : Nat) : Linked b A (leftFree c n s) :=
  setFreeList_linked h c _ fun m hm => h.free c m (List.mem_of_mem_filter hm)

theorem appendFree_linked (h : Linked b A s) (n : Nat) (hn : (s.locker n).phase = .free) :
    Linked b A (appendFree (s.locker n).cls n s) := by
  refine setFreeList_linked h _ _ fun m hm => ?_
  rcases List.mem_append.mp hm with hm | hm
  · exact h.free _ m hm
  · rw [List.mem_singleton.mp hm]
    exact ⟨hn, rfl⟩

/-- The state in which a locker about to change phase has left its free list (R35). -/
def unlisted (n : Nat) (s : State) : State :=
  if (s.locker n).phase = .free then leftFree (s.locker n).cls n s else s

theorem unlisted_locker (n m : Nat) (s : State) : (unlisted n s).locker m = s.locker m := by
  unfold unlisted
  split <;> simp

theorem unlisted_linked (h : Linked b A s) (n : Nat) : Linked b A (unlisted n s) := by
  unfold unlisted
  split
  · exact leftFree_linked h _ n
  · exact h

theorem not_mem_unlisted (h : Linked b A s) (n : Nat) (c : SizeClass) : n ∉ (unlisted n s).freeList c := by
  unfold unlisted
  intro hn
  split at hn
  case isTrue hp =>
    rw [leftFree_freeList] at hn
    split at hn
    case isTrue => simp at hn
    case isFalse hc => exact hc (h.free c n hn).2.symm
  case isFalse hp => exact hp (h.free c n hn).1

/-- A change of phase is a write of the record after the locker has left its free list. -/
theorem moveTo_eq (p : Phase) (n : Nat) (s : State) :
    moveTo p n s = (unlisted n s).setLocker n ((s.locker n).enter p) := by
  unfold moveTo unlisted
  dsimp only
  split
  · unfold leftFree State.setFreeList State.freeList
    cases (s.locker n).cls <;> rfl
  · rfl

/-- A locker with an order goes to a phase that may hold it; one without goes anywhere (section 1.2). -/
theorem moveTo_linked (h : Linked b A s) (p : Phase) (n : Nat)
    (hhold : (s.locker n).orderRef ≠ none → ((s.locker n).enter p).mayHold ∧ p ≠ .purging)
    (hb : b → Apart ((s.locker n).enter p)) (hA : A n → Aside ((s.locker n).enter p)) :
    Linked b A (moveTo p n s) := by
  have href : ((s.locker n).enter p).orderRef = (s.locker n).orderRef := by
    rw [enter_orderRef]
    split
    case isTrue hp =>
      by_contra hne
      exact (hhold (Ne.symm hne)).2 hp
    case isFalse => rfl
  rw [moveTo_eq]
  refine setLocker_linked (unlisted_linked h n) n _ (by rw [href, unlisted_locker]) (fun hr => ?_)
    (fun c hc => absurd hc (not_mem_unlisted h n c)) hb hA
  exact (hhold (href ▸ hr)).1

/-- A phase of an order keeps whatever the locker refers to. -/
theorem moveTo_order_linked (h : Linked b A s) (p : Phase) (n : Nat)
    (hp : p ∈ [.reserved, .loading, .holding, .pickup, .condemned, .service])
    (hb : b → Apart ((s.locker n).enter p)) (hA : A n → Aside ((s.locker n).enter p)) :
    Linked b A (moveTo p n s) :=
  moveTo_linked h p n (fun _ => ⟨mayHold_of_phase (by simpa using hp), by rintro rfl; simp at hp⟩) hb hA

/-- A locker without an order goes anywhere. -/
theorem moveTo_empty_linked (h : Linked b A s) (p : Phase) (n : Nat) (hr : (s.locker n).orderRef = none)
    (hb : b → Apart ((s.locker n).enter p)) (hA : A n → Aside ((s.locker n).enter p)) :
    Linked b A (moveTo p n s) :=
  moveTo_linked h p n (fun hne => absurd hr hne) hb hA

/-- SERVICE, PURGING and QUARANTINE belong to a bank that is apart. -/
theorem enter_apart (p : Phase) (l : Locker) (h : Apart l) (hp : p ∈ [.absent, .service, .purging, .quarantine]) :
    Apart (l.enter p) := by
  refine ⟨?_, .inl (by simpa using hp)⟩
  rw [enter_orderRef, h.1]
  split <;> rfl

theorem enter_service_aside (l : Locker) (h : Aside l) : Aside (l.enter .service) :=
  ⟨by rw [enter_orderRef, h.1]; rfl, .inl (by simp)⟩

theorem enter_offline_aside (l : Locker) (h : l.orderRef = none) : Aside (l.enter .offline) :=
  ⟨by rw [enter_orderRef, h]; rfl, .inr ⟨by simp, by simp [enter_resume]⟩⟩

/-! ### Removal and placement (R41, R49) -/

theorem mem_orderLinks (o : Order) (h : o ∈ s.oru.orders) : (o.id, o.locker) ∈ orderLinks s :=
  List.mem_map_of_mem h

theorem orderLinks_of_order (id : Nat) (o : Order) (h : s.order? id = some o) : (id, o.locker) ∈ orderLinks s := by
  have := mem_orderLinks o (s.order_mem id o h)
  rwa [s.order_id id o h] at this

/-- With ids that stand once, the table finds the order that a link names. -/
theorem Linked.order_of_link (h : Linked b A s) (id : Nat) (r : Option Nat) (hx : (id, r) ∈ orderLinks s) :
    ∃ o, s.order? id = some o ∧ o.locker = r := by
  obtain ⟨o, ho, he⟩ := List.mem_map.mp hx
  cases hf : s.order? id with
  | none =>
    have := List.find?_eq_none.mp hf o ho
    simp only [Prod.mk.injEq] at he
    simp [he.1] at this
  | some o' =>
    refine ⟨o', rfl, ?_⟩
    have hx' := orderLinks_of_order id o' hf
    exact congrArg Prod.snd (List.inj_on_of_nodup_map h.ids hx' hx rfl)

/-- The locker of the order that the table finds is read off the links. -/
theorem order_locker_of_links (id : Nat) (h : orderLinks t = orderLinks s) :
    (t.order? id).map Order.locker = (s.order? id).map Order.locker := by
  have key (u : State) : (u.order? id).map Order.locker = ((orderLinks u).find? fun x => x.1 == id).map Prod.snd := by
    unfold State.order? orderLinks
    rw [List.find?_map, Option.map_map]
    rfl
  rw [key, key, h]

theorem Linked.link_unique (h : Linked b A s) {id : Nat} {r r' : Option Nat} (hx : (id, r) ∈ orderLinks s)
    (hx' : (id, r') ∈ orderLinks s) : r = r' :=
  congrArg Prod.snd (List.inj_on_of_nodup_map h.ids hx hx' rfl)

theorem removeOrder_links (id : Nat) (s : State) :
    orderLinks (removeOrder id s) = (orderLinks s).filter fun x => x.1 != id := by
  unfold orderLinks
  rw [removeOrder_orders, List.filter_map]
  rfl

/-- Removal takes exactly the reference to the order removed. -/
theorem removeOrder_linked (h : Linked b A s) (id : Nat) : Linked b A (removeOrder id s) := by
  have keeps n := removeOrder_locker_keeps id n s
  have sub : ∀ x ∈ orderLinks (removeOrder id s), x ∈ orderLinks s ∧ x.1 ≠ id := by
    intro x hx
    rw [removeOrder_links] at hx
    simpa using hx
  refine ⟨?_, fun x hx => h.named x (sub x hx).1, fun x hx n hn => ?_, fun n i hn => ?_, fun i hi => ?_,
    by rw [removeOrder_queue]; exact h.once.filter _, fun c n hn => ?_, fun hb n => ?_, fun n hn => ?_⟩
  · rw [removeOrder_links]
    exact h.ids.sublist (List.filter_sublist.map _)
  · obtain ⟨hx, hne⟩ := sub x hx
    obtain ⟨hlt, href⟩ := h.forth x hx n hn
    refine ⟨hlt, ?_⟩
    rw [removeOrder_locker_ne id n s, href]
    intro o ho hl
    have := (h.forth _ (orderLinks_of_order id o ho) n hl).2
    rw [href] at this
    exact hne (Option.some.inj this)
  · rcases keeps n with hk | hk
    · rw [hk] at hn ⊢
      obtain ⟨hhold, hx⟩ := h.back n i hn
      refine ⟨hhold, ?_⟩
      rw [removeOrder_links, List.mem_filter]
      refine ⟨hx, ?_⟩
      simp only [bne_iff_ne]
      rintro rfl
      obtain ⟨o, ho, hl⟩ := h.order_of_link _ _ hx
      have hlt := (h.forth _ hx n rfl).1
      rw [removeOrder_locker_same i n o s ho hl hlt] at hk
      rw [← hk] at hn
      simp at hn
    · rw [hk] at hn
      simp at hn
  · rw [removeOrder_queue, List.mem_filter] at hi
    rw [removeOrder_links]
    exact List.mem_filter.mpr ⟨h.queued i hi.1, hi.2⟩
  · rw [removeOrder_freeList] at hn
    rcases keeps n with hk | hk <;> rw [hk] <;> exact h.free c n hn
  · rcases keeps n with hk | hk <;> rw [hk]
    · exact h.apart hb n
    · exact ⟨rfl, (h.apart hb n).2⟩
  · rcases keeps n with hk | hk <;> rw [hk]
    · exact h.aside n hn
    · exact ⟨rfl, (h.aside n hn).2⟩

/-- After the removal of its order a locker refers to none. -/
theorem removeOrder_ref (h : Linked b A s) (id n : Nat) (hn : (s.locker n).orderRef = some id) :
    ((removeOrder id s).locker n).orderRef = none := by
  obtain ⟨-, hx⟩ := h.back n id hn
  obtain ⟨o, ho, hl⟩ := h.order_of_link _ _ hx
  rw [removeOrder_locker_same id n o s ho hl (h.forth _ hx n rfl).1]

theorem join_links (id n : Nat) (s : State) :
    orderLinks (join id n s) = (orderLinks s).map fun x => if x.1 = id then (id, some n) else x := by
  unfold orderLinks
  rw [join_orders, List.map_map, List.map_map]
  refine List.map_congr_left fun o _ => ?_
  by_cases ho : o.id = id <;> simp [ho, Order.locker]

theorem reserve_fields (id : Nat) (l : Locker) :
    (l.reserve id).phase = .reserved ∧ (l.reserve id).orderRef = some id ∧ (l.reserve id).cls = l.cls := by
  refine ⟨?_, rfl, ?_⟩ <;> simp [Locker.reserve, enter_cls]

/-- A pending order of the table and a FREE locker are joined (R41). -/
theorem join_linked (h : Linked b A s) (id n : Nat) (hx : (id, none) ∈ orderLinks s)
    (hp : (s.locker n).phase = .free) : Linked b A (join id n s) := by
  have hn : n < 48 := by
    by_contra hn
    rw [State.locker_out s n (by omega)] at hp
    simp [Locker.blank] at hp
  have hrec : (join id n s).locker n = (s.locker n).reserve id := join_locker_same id n s hn
  have hoth m (hm : m ≠ n) : (join id n s).locker m = s.locker m := join_locker_ne id n m s hm
  obtain ⟨hphase, href, hcls⟩ := reserve_fields id (s.locker n)
  have hnone : (s.locker n).orderRef = none := h.ref_of_free n hp
  have old : ∀ x ∈ orderLinks (join id n s), x = (id, some n) ∨ (x ∈ orderLinks s ∧ x.1 ≠ id) := by
    intro x hx'
    rw [join_links, List.mem_map] at hx'
    obtain ⟨y, hy, rfl⟩ := hx'
    split
    case isTrue => exact .inl rfl
    case isFalse hne => exact .inr ⟨hy, hne⟩
  have new : (id, some n) ∈ orderLinks (join id n s) := by
    rw [join_links]
    exact List.mem_map.mpr ⟨_, hx, by simp⟩
  have kept : ∀ x ∈ orderLinks s, x.1 ≠ id → x ∈ orderLinks (join id n s) := by
    intro x hx' hne
    rw [join_links]
    exact List.mem_map.mpr ⟨x, hx', by simp [hne]⟩
  refine ⟨?_, fun x hx' => ?_, fun x hx' m hm => ?_, fun m i hm => ?_, fun i hi => ?_,
    by rw [join_queue]; exact h.once.filter _, fun c m hm => ?_, fun hb m => ?_, fun m hm => ?_⟩
  · have : (orderLinks (join id n s)).map Prod.fst = (orderLinks s).map Prod.fst := by
      rw [join_links, List.map_map]
      refine List.map_congr_left fun x _ => ?_
      by_cases hx' : x.1 = id <;> simp [hx']
    rw [this]
    exact h.ids
  · rcases old x hx' with rfl | ⟨hx', -⟩
    · exact h.named (id, none) hx
    · exact h.named x hx'
  · rcases old x hx' with rfl | ⟨hx', hne⟩
    · cases hm
      exact ⟨hn, by rw [hrec, href]⟩
    · obtain ⟨hlt, hr⟩ := h.forth x hx' m hm
      refine ⟨hlt, ?_⟩
      rw [hoth m (by rintro rfl; rw [hnone] at hr; cases hr), hr]
  · by_cases hmn : m = n
    · subst hmn
      rw [hrec, href] at hm
      cases hm
      rw [hrec]
      exact ⟨mayHold_of_phase (by simp [hphase]), new⟩
    · rw [hoth m hmn] at hm ⊢
      obtain ⟨hhold, hx'⟩ := h.back m i hm
      refine ⟨hhold, kept _ hx' ?_⟩
      rintro rfl
      cases h.link_unique hx hx'
  · rw [join_queue, List.mem_filter] at hi
    exact kept _ (h.queued i hi.1) (by simpa using hi.2)
  · rw [join_freeList] at hm
    have hmem : m ∈ s.freeList c ∧ m ≠ n := by
      split at hm
      case isTrue => simpa using hm
      case isFalse hc => exact ⟨hm, by rintro rfl; exact hc (h.free c m hm).2.symm⟩
    rw [hoth m hmem.2]
    exact h.free c m hmem.1
  · exact absurd (h.apart hb n).2 (by simp [hp])
  · by_cases hmn : m = n
    · exact absurd (h.aside m hm).2 (by simp [hmn, hp])
    · rw [hoth m hmn]
      exact h.aside m hm

theorem placePending_linked (h : Linked b A s) (o : Order) (n : Nat) (hx : (o.id, none) ∈ orderLinks s)
    (hp : (s.locker n).phase = .free) : Linked b A (placePending o n s) :=
  submit_linked _ _ (join_linked h o.id n hx hp)

/-- An order that the pending queue names is PENDING. -/
theorem Linked.queued_link (h : Linked b A s) (id : Nat) (o : Order) (hid : id ∈ s.oru.queue)
    (ho : s.order? id = some o) : (o.id, none) ∈ orderLinks s := by
  rw [s.order_id id o ho]
  exact h.queued id hid

theorem becameFree_linked (h : Linked b A s) (n : Nat) (hp : (s.locker n).phase = .free) :
    Linked b A (becameFree n s) := by
  unfold becameFree
  dsimp only
  split
  · exact h
  · split
    case h_1 o ho =>
      obtain ⟨id, hid, hor⟩ := List.mem_filterMap.mp (List.mem_of_find?_eq_some ho)
      exact placePending_linked h o n (h.queued_link id o hid hor) hp
    case h_2 => exact appendFree_linked h n hp

theorem announceFree_linked (h : Linked b A s) (n : Nat) : Linked b A (announceFree n s) := by
  unfold announceFree
  split
  case isTrue hp => exact becameFree_linked h n hp
  case isFalse => exact h

/-- A locker that allocation finds stands in a free list (R40). -/
theorem allocate_mem (s : State) (c : SizeClass) (n : Nat) (h : allocate s c = some n) : ∃ k, n ∈ s.freeList k := by
  unfold allocate at h
  split at h
  case h_1 m rest hl =>
    cases h
    exact ⟨c, by simp [hl]⟩
  case h_2 =>
    split at h
    · obtain ⟨k, -, hk⟩ := List.exists_of_findSome?_eq_some h
      exact ⟨k, List.mem_of_mem_head? hk⟩
    · cases h

theorem allocate_free (h : Linked b A s) (c : SizeClass) (n : Nat) (hn : allocate s c = some n) :
    (s.locker n).phase = .free := by
  obtain ⟨k, hk⟩ := allocate_mem s c n hn
  exact (h.free k n hk).1

theorem placePending_queue (o : Order) (n : Nat) (s : State) :
    (placePending o n s).oru.queue = s.oru.queue.filter fun i => i != o.id := by
  simp [placePending]

/-- The sweep over distinct ids of the queue (R37). -/
theorem sweepOver_linked (ids : List Nat) (h : Linked b A s) (once : ids.Nodup) (hq : ∀ id ∈ ids, id ∈ s.oru.queue) :
    Linked b A (sweepOver ids s) := by
  induction ids generalizing s with
  | nil => exact h
  | cons id rest ih =>
    obtain ⟨hne, once⟩ := List.nodup_cons.mp once
    have hrest := ih h once fun i hi => hq i (List.mem_cons_of_mem _ hi)
    unfold sweepOver
    split
    case h_2 => exact hrest
    case h_1 o ho =>
      split
      case h_2 => exact hrest
      case h_1 n hn =>
        refine ih (placePending_linked h o n (h.queued_link id o (hq id (by simp)) ho) (allocate_free h _ n hn)) once
          fun i hi => ?_
        rw [placePending_queue, s.order_id id o ho]
        refine List.mem_filter.mpr ⟨hq i (List.mem_cons_of_mem _ hi), ?_⟩
        simp only [bne_iff_ne]
        rintro rfl
        exact hne hi

theorem pendingSweep_linked (h : Linked b A s) : Linked b A (pendingSweep s) :=
  sweepOver_linked _ h h.once fun _ hi => hi

/-- An operation over a list of places that keeps the invariant at each. -/
theorem Linked.foldl {α : Type} (f : State → α → State) (hf : ∀ u a, Linked b A u → Linked b A (f u a))
    (as : List α) (h : Linked b A s) : Linked b A (as.foldl f s) := by
  induction as generalizing s with
  | nil => exact h
  | cons a as ih => exact ih (hf s a h)

theorem foldl_leftFree_locker (ns : List Nat) (m : Nat) (s : State) :
    (ns.foldl (fun s n => leftFree (s.locker n).cls n s) s).locker m = s.locker m := by
  induction ns generalizing s with
  | nil => rfl
  | cons n rest ih => exact (ih _).trans (leftFree_locker _ _ _ _)

theorem fenceChanged_linked (fenced unfenced : List Nat) (h : Linked b A s)
    (hu : ∀ n ∈ unfenced, (s.locker n).phase = .free) : Linked b A (fenceChanged fenced unfenced s) := by
  have left : Linked b A (fenced.foldl (fun s n => leftFree (s.locker n).cls n s) s) :=
    Linked.foldl (fun s n => leftFree (s.locker n).cls n s) (fun _ n hu => leftFree_linked hu _ n) fenced h
  have joined (u : State) (hl : Linked b A u) (hu : ∀ n ∈ unfenced, (u.locker n).phase = .free) :
      Linked b A (unfenced.foldl (fun s n => appendFree (s.locker n).cls n s) u) := by
    clear left
    induction unfenced generalizing u with
    | nil => exact hl
    | cons m rest ih =>
      exact ih (fun n hn => ‹∀ n ∈ m :: rest, (s.locker n).phase = .free› n (by simp [hn])) _
        (appendFree_linked hl m (hu m (by simp))) fun n hn => by simpa using hu n (by simp [hn])
  have both := joined _ left fun n hn => by rw [foldl_leftFree_locker]; exact hu n hn
  unfold fenceChanged
  dsimp only
  split
  · exact pendingSweep_linked both
  · exact both

/-! ### Orders (chapters 02 and 03) -/

theorem modOrder_linked (h : Linked b A s) (id : Nat) (f : Order → Order)
    (hf : ∀ o ∈ s.oru.orders, o.id = id → (f o).id = o.id ∧ (f o).locker = o.locker) :
    Linked b A (s.modOrder id f) := by
  refine h.congr ?_ rfl (fun c => by simp) fun n => rfl
  unfold orderLinks
  rw [State.modOrder_orders, List.map_map]
  refine List.map_congr_left fun o ho => ?_
  by_cases hid : o.id = id
  · simp [hid, (hf o ho hid).2, ((hf o ho hid).1).trans hid]
  · simp [hid]

/-- The orders are written anew with the same ids and lockers. -/
theorem mapOrders_linked (h : Linked b A s) (f : Order → Order) (hf : ∀ o, (f o).id = o.id ∧ (f o).locker = o.locker) :
    Linked b A { s with oru := { s.oru with orders := s.oru.orders.map f } } := by
  refine h.congr ?_ rfl (fun c => by cases c <;> rfl) fun n => rfl
  unfold orderLinks
  rw [List.map_map]
  exact List.map_congr_left fun o _ => by simp [hf o]

/-- A locker in a phase that no discovery leaves is neither apart nor aside. -/
theorem Linked.not_apart (h : Linked b A s) (n : Nat)
    (hp : (s.locker n).phase ∈ [.free, .reserved, .loading, .holding, .pickup, .condemned, .clearing]) :
    ¬ b ∧ ¬ A n := by
  have key : ¬ Apart (s.locker n) := by
    rintro ⟨-, hq | ⟨hq, -⟩⟩
    · simp only [List.mem_cons, List.not_mem_nil, or_false] at hp hq
      rcases hq with hq | hq | hq | hq <;> simp [hq] at hp
    · simp [hq] at hp
  exact ⟨fun hb => key (h.apart hb n), fun hA => key (h.aside n hA).isApart⟩

/-- A change of phase out of a phase that no discovery leaves. -/
theorem moveTo_active_linked (h : Linked b A s) (p : Phase) (n : Nat)
    (hp : (s.locker n).phase ∈ [.free, .reserved, .loading, .holding, .pickup, .condemned, .clearing])
    (hhold : (s.locker n).orderRef ≠ none → p ∈ [.reserved, .loading, .holding, .pickup, .condemned, .service]) :
    Linked b A (moveTo p n s) := by
  obtain ⟨hb, hA⟩ := h.not_apart n hp
  refine moveTo_linked h p n (fun hr => ⟨mayHold_of_phase (by simpa using hhold hr), ?_⟩)
    (fun k => absurd k hb) fun k => absurd k hA
  rintro rfl
  exact absurd (hhold hr) (by simp)

theorem condemnNotice_linked (h : Linked b A s) (n : Nat) : Linked b A (s.modLocker n Locker.condemnNotice) := by
  rw [State.modLocker_eq]
  have listed c (hc : n ∈ s.freeList c) : (s.locker n).phase = .free := (h.free c n hc).1
  by_cases hp : (s.locker n).phase = .holding
  · obtain ⟨hb, hA⟩ := h.not_apart n (by simp [hp])
    have he : (s.locker n).condemnNotice = (s.locker n).enter .condemned := by simp [Locker.condemnNotice, hp]
    rw [he]
    exact setLocker_linked h n _ (by simp [enter_orderRef]) (fun _ => mayHold_of_phase (by simp))
      (fun c hc => by simp [listed c hc] at hp) (fun k => absurd k hb) fun k => absurd k hA
  · by_cases hr : (s.locker n).phase = .offline ∧ (s.locker n).resume = some .holding
    · obtain ⟨ho, hr⟩ := hr
      have he : (s.locker n).condemnNotice = { s.locker n with resume := some .condemned } := by
        simp [Locker.condemnNotice, ho, hr]
      have hno : ¬ Apart (s.locker n) := by rintro ⟨-, hq | ⟨-, hq⟩⟩ <;> simp_all
      rw [he]
      exact setLocker_linked h n _ rfl (fun _ => .inr (.inl ⟨ho, by simp⟩))
        (fun c hc => by simp [listed c hc] at ho) (fun k => absurd (h.apart k n) hno)
        fun k => absurd (h.aside n k).isApart hno
    · have he : (s.locker n).condemnNotice = s.locker n := by simp [Locker.condemnNotice, hp, hr]
      exact modLocker_linked h n Locker.condemnNotice (by rw [he])

theorem condemn_linked (h : Linked b A s) (id : Nat) (c : Cause) : Linked b A (condemn id c s) := by
  unfold condemn
  split
  · exact h
  case h_2 o ho =>
    split
    · exact h
    · have hm := submit_linked .condemned [.b4 id, .b1 c.code, .opt1 o.locker]
        (modOrder_linked h id (fun o => { o with condemned := some c }) fun o _ _ => ⟨rfl, rfl⟩)
      dsimp only
      split
      · exact condemnNotice_linked hm _
      · exact hm

/-- What a condemnation makes of a record. -/
theorem condemn_locker (id : Nat) (c : Cause) (s : State) (m : Nat) :
    (condemn id c s).locker m = s.locker m ∨
      ((condemn id c s).locker m = (s.locker m).condemnNotice ∧ ∃ o, s.order? id = some o ∧ o.locker = some m) := by
  unfold condemn
  split
  · exact .inl rfl
  case h_2 o ho =>
    split
    · exact .inl rfl
    · dsimp only
      split
      case h_1 n hn =>
        by_cases hm : m = n
        · by_cases hlt : n < 48
          · exact .inr ⟨by rw [hm, State.modLocker_same _ _ _ hlt]; simp, o, ho, hm ▸ hn⟩
          · exact .inl (by rw [State.modLocker_eq, State.setLocker_out _ _ _ (by omega)]; simp)
        · exact .inl (by rw [State.modLocker_ne _ _ _ _ hm]; simp)
      case h_2 => exact .inl (by simp)

theorem condemn_links (id : Nat) (c : Cause) (s : State) : orderLinks (condemn id c s) = orderLinks s := by
  have hm : orderLinks (s.modOrder id fun o => { o with condemned := some c }) = orderLinks s := by
    unfold orderLinks
    rw [State.modOrder_orders, List.map_map]
    refine List.map_congr_left fun o _ => ?_
    by_cases hid : o.id = id <;> simp [hid, Order.locker]
  unfold condemn
  split
  · rfl
  · split
    · rfl
    · dsimp only
      split
      · rw [← hm]
        unfold orderLinks
        simp
      · rw [← hm]
        unfold orderLinks
        simp

theorem chargeOrder_linked (h : Linked b A s) (n : Nat) (l : Locker) (o : Order) (k : Hold) :
    Linked b A (chargeOrder n l o k s) := by
  have hold (x : Hold) := modOrder_linked h o.id (fun o => { o with hold := some x }) fun o _ _ => ⟨rfl, rfl⟩
  unfold chargeOrder
  dsimp only
  split
  · exact condemn_linked (hold _) _ _
  · split
    · exact submit_linked _ _ (hold _)
    · exact hold _

theorem chargeLocker_linked (h : Linked b A s) (n : Nat) : Linked b A (chargeLocker n s) := by
  unfold chargeLocker
  dsimp only
  split
  · split
    · split
      · exact chargeOrder_linked h _ _ _ _
      · exact h
    · exact h
  · exact h

theorem expirePending_linked (h : Linked b A s) (id : Nat) : Linked b A (expirePending id s) := by
  unfold expirePending
  split
  · split
    · split
      · exact removeOrder_linked (submit_linked _ _ h) _
      · exact h
    · exact h
  · exact h

theorem agePendingOrders_linked (h : Linked b A s) : Linked b A (agePendingOrders s) := by
  refine Linked.foldl (fun s id => expirePending id s) (fun _ id hu => expirePending_linked hu id) _
    (mapOrders_linked h Order.agePending fun o => ?_)
  unfold Order.agePending
  cases ho : o.status <;> simp [Order.locker, ho]

/-- LOAD_LATE of an order that stands in the table (R47). -/
theorem examineLoadLate_linked (h : Linked b A s) (o : Order) (ho : (o.id, o.locker) ∈ orderLinks s) :
    Linked b A (examineLoadLate o s) ∧ orderLinks (examineLoadLate o s) = orderLinks s := by
  unfold examineLoadLate
  split
  case h_2 => exact ⟨h, rfl⟩
  case h_1 n a late hst =>
    split
    case isFalse => exact ⟨h, rfl⟩
    case isTrue =>
      have same : ∀ x ∈ s.oru.orders, x.id = o.id → x.locker = some n := by
        intro x hx hid
        have hx := mem_orderLinks x hx
        rw [hid] at hx
        rw [h.link_unique hx ho]
        simp [Order.locker, hst]
      refine ⟨submit_linked _ _ (modOrder_linked h o.id _ fun x hx hid => ⟨rfl, (same x hx hid).symm⟩), ?_⟩
      unfold orderLinks
      rw [submit_oru, State.modOrder_orders, List.map_map]
      refine List.map_congr_left fun x hx => ?_
      by_cases hid : x.id = o.id
      · rw [Function.comp, if_pos (by simpa using hid)]
        exact Prod.ext rfl (same x hx hid).symm
      · simp [hid]

theorem insertByRank_mem (rank : Order → Nat) (o x : Order) (os : List Order) (h : x ∈ insertByRank rank o os) :
    x = o ∨ x ∈ os := by
  induction os with
  | nil => simpa [insertByRank] using h
  | cons y rest ih =>
    unfold insertByRank at h
    split at h
    · simpa using h
    · rcases List.mem_cons.mp h with h | h
      · exact .inr (by simp [h])
      · exact (ih h).imp_right (List.mem_cons_of_mem _)

theorem sortByRank_mem (rank : Order → Nat) (x : Order) (os : List Order) (h : x ∈ sortByRank rank os) : x ∈ os := by
  induction os with
  | nil => simp [sortByRank] at h
  | cons y rest ih =>
    rcases insertByRank_mem rank y x _ h with rfl | h
    · simp
    · exact List.mem_cons_of_mem _ (ih h)

theorem ageReservedOrders_linked (h : Linked b A s) : Linked b A (ageReservedOrders s) := by
  have late (os : List Order) (u : State) (hu : Linked b A u) (hos : ∀ o ∈ os, (o.id, o.locker) ∈ orderLinks u) :
      Linked b A (os.foldl (fun s o => examineLoadLate o s) u) := by
    induction os generalizing u with
    | nil => exact hu
    | cons o rest ih =>
      obtain ⟨hl, he⟩ := examineLoadLate_linked hu o (hos o (by simp))
      exact ih _ hl fun x hx => he ▸ hos x (by simp [hx])
  refine late _ _ (mapOrders_linked h Order.ageReserved fun o => ?_) fun o ho => ?_
  · unfold Order.ageReserved
    cases ho : o.status
    · simp
    · by_cases hl : o.loaded <;> simp [hl, Order.locker, ho]
  · exact mem_orderLinks o (List.mem_of_mem_filter (sortByRank_mem _ o _ ho))

theorem holdTick_linked (h : Linked b A s) : Linked b A (holdTick s) :=
  ageReservedOrders_linked (agePendingOrders_linked
    (Linked.foldl (fun s n => chargeLocker n s) (fun _ n hu => chargeLocker_linked hu n) _ h))

/-! ### Time, fences and the frame start leave the linkage of a record -/

/-- The records are written anew, each with the linkage it had. -/
theorem mapLockers_linked (h : Linked b A s) (f : Nat → Locker) (hf : ∀ n, linkage (f n) = linkage (s.locker n))
    (ht : t.oru = s.oru) (hl : t.ltu.lockers = vinit 48 f) : Linked b A t := by
  refine h.congr (by unfold orderLinks; rw [ht]) (by rw [ht]) (fun c => by cases c <;> simp [State.freeList, ht])
    fun n => ?_
  by_cases hn : n < 48
  · rw [State.locker, hl, vget_vinit _ _ _ _ hn, hf]
  · rw [State.locker_out _ _ (by omega), State.locker_out _ _ (by omega)]

theorem elapse_linked (h : Linked b A s) (d : Nat) : Linked b A (s.elapse d) :=
  mapLockers_linked h (fun n => (s.locker n).after d) (fun _ => rfl) rfl rfl

theorem recomputeFence_linked (h : Linked b A s) : Linked b A (recomputeFence s) := by
  refine fenceChanged_linked _ _
    (mapLockers_linked h (fun n => { s.locker n with fenced := fenceCovers s.params n }) (fun _ => rfl) rfl rfl)
    fun n hn => ?_
  have hlt : n < 48 := by
    have := List.mem_of_mem_filter hn
    simpa [Config.allLockers] using this
  have hp := (List.mem_filter.mp hn).2
  rw [State.locker, State.withLtu, vget_vinit _ _ _ _ hlt]
  simp only [Bool.and_eq_true, decide_eq_true_eq] at hp
  exact hp.1.1

theorem examineDoorHeld_linked (h : Linked b A s) (n : Nat) : Linked b A (examineDoorHeld n s) := by
  unfold examineDoorHeld
  dsimp only
  split
  · exact submit_linked _ _ (modLocker_linked h n _ rfl)
  · exact h

theorem paramActs_linked (h : Linked b A s) (p : Nat) (u : Bool) : Linked b A (paramActs p u s) := by
  unfold paramActs
  split
  · exact Linked.foldl (fun s n => examineDoorHeld n s) (fun _ n hu => examineDoorHeld_linked hu n) _ h
  · split
    · exact pendingSweep_linked h
    · exact h
  · exact recomputeFence_linked h
  · exact recomputeFence_linked h
  · exact recomputeFence_linked h
  · exact h

theorem suspendOrResume_linked (h : Linked b A s) (n : Nat) : Linked b A (suspendOrResume n s) := by
  unfold suspendOrResume
  dsimp only
  split
  · exact h
  · split
    · exact submit_linked _ _ (modLocker_linked h n _ rfl)
    · split
      · exact submit_linked _ _ (modLocker_linked h n _ rfl)
      · exact h

theorem examineInhibit_linked (h : Linked b A s) (n : Nat) : Linked b A (examineInhibit n s) := by
  unfold examineInhibit
  dsimp only
  split
  · split
    · exact submit_linked _ _ (modLocker_linked h n _ rfl)
    · split
      · exact submit_linked _ _ (modLocker_linked h n _ rfl)
      · exact h
  · exact h

theorem creditAndStarve_linked (h : Linked b A s) (d : List Nat) (m : Vector (List Nat) 48) (ts : List Nat) (n : Nat) :
    Linked b A (creditAndStarve d m ts n s) := by
  have hset := modLocker_linked h n (creditLocker s.params.purgeSlots (d.getD n 0) (vget m n []).length
    (decide (0 < d.getD n 0) && decide (ts.getD n 0 = 1))) rfl
  unfold creditAndStarve
  dsimp only
  split
  · exact submit_linked _ _ hset
  · exact hset

/-! ### Faults and OFFLINE (1.7, 1.11) -/

theorem doorFault_linked (h : Linked b A s) (n : Nat) (f : Finding) : Linked b A (doorFault n f s) := by
  unfold doorFault
  dsimp only
  split
  · exact h
  · have hm := submit_linked .doorFault [.b1 n, .b1 f.code, .orderId (s.locker n).orderRef]
      (moveTo_order_linked h .service n (by simp) (fun k => enter_apart _ _ (h.apart k n) (by simp))
        fun k => enter_service_aside _ (h.aside n k))
    split
    · exact condemn_linked hm _ _
    · exact hm

theorem setExcluded_linked (h : Linked b A s) (n : Nat) : Linked b A (setExcluded n s) := by
  unfold setExcluded
  split
  · exact h
  · exact submit_linked _ _ (modLocker_linked h n _ rfl)

theorem heaterCheck_linked (h : Linked b A s) (n : Nat) (on mark : Bool) : Linked b A (heaterCheck n on mark s) := by
  unfold heaterCheck
  split
  · have hx := setExcluded_linked h n
    dsimp only
    split
    · exact moveTo_order_linked hx .service n (by simp) (fun k => enter_apart _ _ (hx.apart k n) (by simp))
        fun k => enter_service_aside _ (hx.aside n k)
    · exact hx
  · exact h

theorem faultChecks_linked (h : Linked b A s) (n : Nat) (on mark : Bool) : Linked b A (faultChecks n on mark s) := by
  unfold faultChecks
  dsimp only
  split
  · exact heaterCheck_linked (doorFault_linked h n _) n on mark
  · exact heaterCheck_linked h n on mark

/-- A locker with an order resumes a phase of that order (R27). -/
theorem resumeOf_mem (s : State) (l : Locker) (h : l.mayHold) (hp : l.phase ≠ .offline) :
    resumeOf s l ∈ [some .reserved, some .holding, some .condemned, some .service] := by
  rcases h with h | ⟨h, -⟩ | ⟨h, hc⟩
  · simp only [List.mem_cons, List.not_mem_nil, or_false] at h
    rcases h with h | h | h | h | h | h <;> simp [resumeOf, h]
    split <;> simp
  · exact absurd h hp
  · simp only [resumeOf, h]
    simp only [List.mem_cons, List.not_mem_nil, or_false] at hc
    rcases hc with hc | hc <;> simp [hc]

theorem resumeOf_apart (s : State) (l : Locker) (h : Apart l) (hp : l.phase ≠ .offline) (ha : l.phase ≠ .absent) :
    resumeOf s l ∈ [none, some .service, some .purging, some .quarantine] := by
  obtain ⟨-, h | ⟨h, -⟩⟩ := h
  · simp only [List.mem_cons, List.not_mem_nil, or_false] at h
    rcases h with h | h | h | h
    · exact absurd h ha
    all_goals simp [resumeOf, h]
  · exact absurd h hp

@[simp] theorem setLocker_setLocker (s : State) (n : Nat) (l l' : Locker) :
    (s.setLocker n l).setLocker n l' = s.setLocker n l' := by
  by_cases hn : n < 48
  · simp [State.setLocker, vset, hn]
  · rw [State.setLocker_out _ n l' (by omega), State.setLocker_out _ n l (by omega),
      State.setLocker_out _ n l' (by omega)]

theorem goOffline_linked (h : Linked b A s) (n : Nat) (c : OfflineCause) (hA : ¬ A n) :
    Linked b A (goOffline n c s) := by
  unfold goOffline
  dsimp only
  split
  · exact h
  case isFalse hp =>
    rw [not_or] at hp
    refine submit_linked _ _ ?_
    by_cases hn : n < 48
    case neg => exact absurd (by rw [State.locker_out s n (by omega)]; rfl) hp.2
    rw [State.modLocker_eq, moveTo_eq, State.setLocker_same _ _ _ hn, setLocker_setLocker]
    refine setLocker_linked (unlisted_linked h n) n _ ?_ (fun hr => ?_)
      (fun k hk => absurd hk (not_mem_unlisted h n k)) (fun hb => ?_) fun k => absurd k hA
    · simp [enter_orderRef, unlisted_locker]
    · simp only [enter_orderRef] at hr
      obtain ⟨id, hid⟩ := Option.ne_none_iff_exists'.mp hr
      exact .inr (.inl ⟨by simp, resumeOf_mem s _ (h.back n id (by simpa using hid)).1 hp.1⟩)
    · exact ⟨by simp [enter_orderRef, (h.apart hb n).1], .inr ⟨by simp, resumeOf_apart s _ (h.apart hb n) hp.1 hp.2⟩⟩

/-- QUARANTINE withdraws the order first or last: the linkage is the same (R22, R49). -/
theorem quarantine_linked (h : Linked b A s) (n : Nat) (hA : ¬ A n) : Linked b A (quarantine n s) := by
  unfold quarantine
  dsimp only
  refine submit_linked _ _ ?_
  split
  case h_2 hr =>
    exact moveTo_empty_linked h .quarantine n hr (fun k => enter_apart _ _ (h.apart k n) (by simp))
      fun k => absurd k hA
  case h_1 id hr =>
    have removed := removeOrder_linked h id
    have href := removeOrder_ref h id n hr
    have goal := moveTo_empty_linked removed .quarantine n href
      (fun k => enter_apart _ _ (removed.apart k n) (by simp)) fun k => absurd k hA
    have hn : n < 48 := (h.forth _ (h.back n id hr).2 n rfl).1
    obtain ⟨o, ho, hl⟩ := h.order_of_link id _ (h.back n id hr).2
    have notice m : ((condemn id .lost (moveTo .quarantine n s)).locker m) = (moveTo .quarantine n s).locker m := by
      rcases condemn_locker id .lost (moveTo .quarantine n s) m with hc | ⟨hc, o', ho', hl'⟩
      · exact hc
      · rw [moveTo_order, ho] at ho'
        cases ho'
        cases hl.symm.trans hl'
        rw [hc]
        simp [hn, Locker.condemnNotice]
    refine goal.congr ?_ ?_ (fun c => ?_) fun m => ?_
    · unfold withdrawLost
      rw [removeOrder_links, condemn_links]
      unfold orderLinks
      rw [moveTo_orders, moveTo_orders, removeOrder_orders, List.filter_map]
      rfl
    · unfold withdrawLost
      rw [removeOrder_queue, condemn_queue, moveTo_queue, moveTo_queue, removeOrder_queue]
    · have hk := removeOrder_locker_keeps id n s
      unfold withdrawLost
      rw [removeOrder_freeList, condemn_freeList, moveTo_freeList, moveTo_freeList, removeOrder_freeList]
      rcases hk with hk | hk <;> rw [hk]
    · have hcond : ((condemn id .lost (moveTo .quarantine n s)).order? id).map Order.locker = some (some n) := by
        rw [order_locker_of_links id (condemn_links _ _ _), moveTo_order, ho, Option.map_some, hl]
      obtain ⟨o', ho', hl'⟩ := Option.map_eq_some_iff.mp hcond
      unfold withdrawLost
      by_cases hm : m = n
      · rw [hm, removeOrder_locker_same id n o' _ ho' hl' hn, notice, moveTo_locker_same _ _ _ hn,
          moveTo_locker_same _ _ _ hn, removeOrder_locker_same id n o s ho hl hn]
        simp [linkage, enter_orderRef, enter_resume, enter_cls, enter_clearOrigin]
      · rw [removeOrder_locker_ne id m _ (by rw [ho']; rintro _ ⟨⟩ hx; rw [hl'] at hx; exact hm (Option.some.inj hx).symm),
          notice, moveTo_locker_ne _ _ _ _ hm, moveTo_locker_ne _ _ _ _ hm,
          removeOrder_locker_ne id m _ (by rw [ho]; rintro _ ⟨⟩ hx; rw [hl] at hx; exact hm (Option.some.inj hx).symm)]

end Sys2Proof.Proofs

/-! ## Polls, commands and discovery keep orders and lockers paired -/

namespace Sys2Proof.Proofs

open Sys2Proof.Machine

variable {b : Prop} {A : Nat → Prop} {s t : State}

/-! ### The end of a door command (R12) -/

/-- The phase a reservation goes back to is one of its order (R12). -/
theorem revertPhase_mem (s : State) (l : Locker) (h : l.mayHold) (hp : l.phase ∈ [.loading, .pickup, .clearing]) :
    revertPhase s l ∈ [.reserved, .loading, .holding, .pickup, .condemned, .service] := by
  simp only [List.mem_cons, List.not_mem_nil, or_false] at hp
  rcases hp with hp | hp | hp
  · simp [revertPhase, hp]
  · simp only [revertPhase, hp]
    split <;> simp
  · have hc : l.clearOrigin = some .condemned ∨ l.clearOrigin = some .service := by
      simpa [Locker.mayHold, hp] using h
    rcases hc with hc | hc <;> simp [revertPhase, hp, hc]

/-- The phases that a door command enters are the transient ones. -/
theorem CmdRequest.phase_mem (r : CmdRequest) (p : Phase) (h : r.phase = some p) :
    p ∈ [.loading, .pickup, .clearing] := by
  cases r <;> cases h <;> simp

theorem reverted_linked (h : Linked b A s) (n : Nat) (hp : (s.locker n).phase ∈ [.loading, .pickup, .clearing]) :
    Linked b A (moveTo (revertPhase s (s.locker n)) n s) := by
  refine moveTo_active_linked h _ n ?_ fun hr => ?_
  · simp only [List.mem_cons, List.not_mem_nil, or_false] at hp
    rcases hp with hp | hp | hp <;> simp [hp]
  · obtain ⟨id, hid⟩ := Option.ne_none_iff_exists'.mp hr
    exact revertPhase_mem s _ (h.back n id hid).1 hp

theorem doorCommandEnd_linked (h : Linked b A s) (e : Entry) (o : CmdOutcome) (hA : o = .noReply → ¬ A e.locker) :
    Linked b A (doorCommandEnd e o s) := by
  have hu := modLocker_linked h e.locker (fun l => { l with unlatchPending := none }) rfl
  unfold doorCommandEnd
  dsimp only
  generalize s.modLocker e.locker (fun l => { l with unlatchPending := none }) = u at hu ⊢
  have hv : Linked b A (if e.request.phase = some (u.locker e.locker).phase then
      moveTo (revertPhase u (u.locker e.locker)) e.locker u else u) := by
    split
    case isTrue hp => exact reverted_linked hu e.locker (CmdRequest.phase_mem _ _ hp)
    case isFalse => exact hu
  generalize (if e.request.phase = some (u.locker e.locker).phase then
    moveTo (revertPhase u (u.locker e.locker)) e.locker u else u) = v at hv ⊢
  split
  · exact hu
  · split
    · exact doorFault_linked hv _ _
    · split
      · exact goOffline_linked hv _ _ (hA rfl)
      · exact hv
    · exact hv

theorem lockerCommandEnd_linked (h : Linked b A s) (e : Entry) (o : CmdOutcome) (hA : o = .noReply → ¬ A e.locker) :
    Linked b A (lockerCommandEnd e o s) := by
  unfold lockerCommandEnd
  split
  · exact doorCommandEnd_linked h e o hA
  · split
    case isTrue ho => exact goOffline_linked h _ _ (hA ho.1)
    case isFalse => exact h

/-- What TXU and PNI do at the end of a command leaves records and orders alone. -/
theorem Linked.of_same (h : Linked b A s) (hl : t.ltu.lockers = s.ltu.lockers) (ho : t.oru = s.oru) : Linked b A t :=
  h.congr (by unfold orderLinks; rw [ho]) (by rw [ho]) (fun c => by cases c <;> simp [State.freeList, ho])
    fun n => by simp only [State.locker, hl]

theorem panelReleaseEnd_linked (h : Linked b A s) (n : Nat) (o : CmdOutcome) : Linked b A (panelReleaseEnd n o s) := by
  unfold panelReleaseEnd
  dsimp only
  split
  · exact submit_linked _ _ (h.of_same rfl rfl)
  · exact submit_linked _ _ (h.of_same rfl rfl)

theorem completeEntry_linked (h : Linked b A s) (e : Entry) (o : CmdOutcome) : Linked b A (completeEntry e o s) := by
  have removed : Linked b A (removeEntry e.seq s) := h.of_same rfl rfl
  unfold completeEntry
  dsimp only
  split
  · exact panelReleaseEnd_linked removed _ _
  · split
    · exact h.of_same rfl rfl
    · exact h.of_same rfl rfl

theorem endPosted_linked (h : Linked b A s) (p : Posted) (o : CmdOutcome) : Linked b A (endPosted p o s) := by
  unfold endPosted
  dsimp only
  split
  · exact h.of_same rfl rfl
  · split
    · exact submit_linked _ _ (h.of_same rfl rfl)
    · exact h.of_same rfl rfl
  · exact submit_linked _ _ (h.of_same rfl rfl)
  · exact h.of_same rfl rfl

theorem endCommand_linked (h : Linked b A s) (q : Nat) (o : CmdOutcome) (hA : o = .noReply → ∀ n, ¬ A n) :
    Linked b A (endCommand q o s) := by
  unfold endCommand
  split
  · exact completeEntry_linked (lockerCommandEnd_linked h _ o fun ho => hA ho _) _ _
  · split
    · exact endPosted_linked h _ _
    · exact h

/-! ### The completions of the transient phases (R14, R16, R18) -/

theorem loadEmpty_linked (h : Linked b A s) (n id : Nat) (x : Bool) (hp : (s.locker n).phase = .loading) :
    Linked b A (loadEmpty n id x s) :=
  submit_linked _ _ (moveTo_active_linked h .reserved n (by simp [hp]) fun _ => by simp)

theorem completeLoading_linked (h : Linked b A s) (n : Nat) (hp : (s.locker n).phase = .loading) :
    Linked b A (completeLoading n s) := by
  unfold completeLoading
  dsimp only
  split
  · split
    · refine submit_linked _ _ (modOrder_linked ?_ _ _ fun _ _ _ => ⟨rfl, rfl⟩)
      exact moveTo_active_linked h .holding n (by simp [hp]) fun _ => by simp
    · exact loadEmpty_linked h _ _ _ hp
  · exact loadEmpty_linked h _ _ _ hp

theorem removeOrder_phase (id n : Nat) (s : State) : ((removeOrder id s).locker n).phase = (s.locker n).phase := by
  rcases removeOrder_locker_keeps id n s with hk | hk <;> rw [hk]

/-- The locker whose order goes, or that has none, is empty for the next phase. -/
theorem removeOrder_getD_ref (h : Linked b A s) (n : Nat) :
    ((removeOrder ((s.locker n).orderRef.getD 0) s).locker n).orderRef = none := by
  cases hr : (s.locker n).orderRef with
  | some id => exact removeOrder_ref h id n hr
  | none => rcases removeOrder_locker_keeps (Option.getD none 0) n s with hk | hk <;> rw [hk]; exact hr

theorem completePickup_linked (h : Linked b A s) (n : Nat) (hp : (s.locker n).phase = .pickup) :
    Linked b A (completePickup n s) := by
  have back (u : State) (hu : Linked b A u) (hpu : (u.locker n).phase = .pickup) :
      Linked b A (moveTo (if orderCondemned s (s.locker n) then .condemned else .holding) n u) :=
    moveTo_active_linked hu _ n (by simp [hpu]) fun _ => by split <;> simp
  unfold completePickup
  dsimp only
  split
  · split
    · have hs := submit_linked .collected
        [.b1 n, .b4 ((s.locker n).orderRef.getD 0), .flag (orderCondemned s (s.locker n))] h
      have href := removeOrder_getD_ref hs n
      rw [submit_locker] at href
      exact moveTo_active_linked (removeOrder_linked hs _) _ n (by simp [removeOrder_phase, hp])
        fun hr => absurd href hr
    · exact back _ (submit_linked _ _ (modOrder_linked h _ _ fun _ _ _ => ⟨rfl, rfl⟩)) (by simp [hp])
  · exact back _ (submit_linked _ _ h) (by simp [hp])

theorem completeClearing_linked (h : Linked b A s) (n : Nat) (hp : (s.locker n).phase = .clearing) :
    Linked b A (completeClearing n s) := by
  have returned (fs : List Field) :
      Linked b A (moveTo ((s.locker n).clearOrigin.getD .quarantine) n (submit .clearReturned fs s)) := by
    refine moveTo_active_linked (submit_linked _ _ h) _ n (by simp [hp]) fun hr => ?_
    obtain ⟨id, hid⟩ := Option.ne_none_iff_exists'.mp hr
    rw [submit_locker] at hid
    have := revertPhase_mem s _ (h.back n id hid).1 (by simp [hp])
    simpa [revertPhase, hp] using this
  unfold completeClearing
  dsimp only
  split
  · split
    · split
      case h_1 id hid =>
        have hs := submit_linked .cleared [.b1 n, .orderId (s.locker n).orderRef] h
        have href := removeOrder_ref hs id n (by simpa using hid)
        exact moveTo_active_linked (removeOrder_linked hs _) _ n (by simp [removeOrder_phase, hp])
          fun hr => absurd href hr
      case h_2 hid =>
        exact moveTo_active_linked (submit_linked _ _ h) _ n (by simp [hp]) fun hr => absurd (by simpa using hid) hr
    · exact returned _
  · exact returned _

theorem completeTransient_linked (h : Linked b A s) (n : Nat) : Linked b A (completeTransient n s) := by
  unfold completeTransient
  dsimp only
  split
  · exact h
  · split
    · exact h
    · split
      case h_1 hp => exact completeLoading_linked h n hp
      case h_2 hp => exact completePickup_linked h n hp
      case h_3 hp => exact completeClearing_linked h n hp
      case h_4 => exact h

/-! ### Polls (R5, R8) -/

/-- An OFFLINE locker with an order resumes a phase of that order (R28). -/
theorem resume_of_offline {l : Locker} (h : l.mayHold) (hp : l.phase = .offline) :
    l.resume ∈ [some .reserved, some .holding, some .condemned, some .service] := by
  simpa [Locker.mayHold, hp] using h

theorem redirect_of_ne (l : Locker) (p : Phase) (hf : p ≠ .free) (hp : p ≠ .purging) : redirect l p = p := by
  simp [redirect, hf, hp]

theorem redirect_purging (l : Locker) : redirect l .purging ∈ [.absent, .service, .purging, .quarantine] := by
  unfold redirect
  split <;> simp

theorem resolveOffline_linked (h : Linked b A s) (n : Nat) (hA : ¬ A n) : Linked b A (resolveOffline n s) := by
  unfold resolveOffline
  dsimp only
  split
  · exact h
  case isFalse hp =>
    have hp : (s.locker n).phase = .offline := not_not.mp hp
    split
    case h_1 p hr =>
      split
      · refine announceFree_linked (submit_linked _ _ (moveTo_linked h _ n (fun ho => ?_) (fun hb => ?_)
          fun k => absurd k hA)) n
        · obtain ⟨id, hid⟩ := Option.ne_none_iff_exists'.mp ho
          have hm := resume_of_offline (h.back n id hid).1 hp
          rw [hr] at hm
          simp only [List.mem_cons, Option.some.injEq, List.not_mem_nil, or_false] at hm
          rw [redirect_of_ne _ p (by rintro rfl; simp at hm) (by rintro rfl; simp at hm)]
          refine ⟨mayHold_of_phase ?_, by rintro rfl; simp at hm⟩
          rcases hm with rfl | rfl | rfl | rfl <;> simp
        · refine enter_apart _ _ (h.apart hb n) ?_
          have hm : (s.locker n).resume ∈ [none, some .service, some .purging, some .quarantine] := by
            rcases (h.apart hb n).2 with hq | ⟨-, hq⟩
            · simp [hp] at hq
            · exact hq
          rw [hr] at hm
          simp only [List.mem_cons, Option.some.injEq, reduceCtorEq, List.not_mem_nil, or_false, false_or] at hm
          rcases hm with rfl | rfl | rfl
          · simp [redirect]
          · exact redirect_purging _
          · simp [redirect]
      · exact quarantine_linked h n hA
    case h_2 hr =>
      split
      · refine submit_linked _ _ (moveTo_empty_linked h _ n (h.ref_none n fun k => ?_) (fun hb => ?_)
          fun k => absurd k hA)
        · simpa [hr] using resume_of_offline k hp
        · exact enter_apart _ _ (h.apart hb n) (redirect_purging _)
      · exact quarantine_linked h n hA

theorem occupancyCheck_linked (h : Linked b A s) (n : Nat) (hA : ¬ A n) : Linked b A (occupancyCheck n s) := by
  unfold occupancyCheck
  dsimp only
  split
  · split
    · exact quarantine_linked h n hA
    · exact h
  · exact h

theorem doorHeldBookkeeping_linked (h : Linked b A s) (n : Nat) (l : Locker) :
    Linked b A (doorHeldBookkeeping n l s) := by
  unfold doorHeldBookkeeping
  dsimp only
  split
  · exact h
  · split
    · exact examineDoorHeld_linked (modLocker_linked h n _ rfl) n
    · exact examineDoorHeld_linked h n

theorem ifStill_linked (p : Phase) (n : Nat) (f : State → State) (hf : Linked b A s → Linked b A (f s))
    (h : Linked b A s) : Linked b A (ifStill p n f s) := by
  unfold ifStill
  split
  · exact hf h
  · exact h

theorem goodPoll_linked (h : Linked b A s) (n : Nat) (o : Observation) (m : Bool) (hA : ¬ A n) :
    Linked b A (goodPoll n o m s) := by
  unfold goodPoll
  dsimp only
  have h1 := faultChecks_linked (modLocker_linked h n (Locker.observe o) rfl) n o.heaterOn m
  have h2 := ifStill_linked (s.locker n).phase n (resolveOffline n) (fun k => resolveOffline_linked k n hA) h1
  have h3 := ifStill_linked (s.locker n).phase n (completeTransient n) (fun k => completeTransient_linked k n) h2
  have h4 := ifStill_linked (s.locker n).phase n (occupancyCheck n) (fun k => occupancyCheck_linked k n hA) h3
  exact doorHeldBookkeeping_linked h4 n _

theorem failedPoll_linked (h : Linked b A s) (n : Nat) (hA : ¬ A n) : Linked b A (failedPoll n s) := by
  have hm := modLocker_linked h n (fun l => { l with pollFails := satAdd 3 l.pollFails 1 }) rfl
  unfold failedPoll
  dsimp only
  split
  · exact goOffline_linked hm n _ hA
  · exact hm

/-! ### Purges, the heater frame and layout writes -/

theorem purgeDone_linked (h : Linked b A s) (hb : ¬ b) (n : Nat) : Linked b A (purgeDone n s) := by
  unfold purgeDone
  split
  case isTrue hp =>
    have href := h.ref_none n (by simp [Locker.mayHold, hp])
    refine announceFree_linked (submit_linked _ _ (moveTo_empty_linked h _ n href (fun k => absurd k hb) fun k => ?_)) n
    exact absurd (h.aside n k).2 (by simp [hp])
  case isFalse => exact h

theorem latchFeed_linked (h : Linked b A s) (f : Nat) : Linked b A (latchFeed f s) := by
  unfold latchFeed
  dsimp only
  split
  · exact submit_linked _ _ (h.of_same rfl rfl)
  · split
    · exact submit_linked _ _ (h.of_same rfl rfl)
    · exact h.of_same rfl rfl

theorem grantFrame_linked (h : Linked b A s) (demands : List Nat) : Linked b A (grantFrame demands s) := by
  unfold grantFrame
  exact Linked.foldl _ (fun _ n hu => creditAndStarve_linked hu _ _ _ n) _ (h.of_same rfl rfl)

theorem frameStart_linked (h : Linked b A s) (hb : ¬ b) : Linked b A (frameStart s) := by
  have timed : Linked b A { s with hta := { s.hta with frameTimer := some 0 } } := h.of_same rfl rfl
  have latched : Linked b A (latchFeeds { s with hta := { s.hta with frameTimer := some 0 } }) :=
    Linked.foldl _ (fun _ f hu => latchFeed_linked hu f) _ timed
  unfold frameStart
  dsimp only
  generalize latchFeeds { s with hta := { s.hta with frameTimer := some 0 } } = u at latched ⊢
  have purged := Linked.foldl (fun s n => purgeDone n s) (fun _ n hu => purgeDone_linked hu hb n) (completedPurges u)
    latched
  have resumed := Linked.foldl (fun s n => suspendOrResume n s) (fun _ n hu => suspendOrResume_linked hu n)
    Config.allLockers purged
  exact grantFrame_linked (Linked.foldl (fun s n => examineInhibit n s) (fun _ n hu => examineInhibit_linked hu n)
    Config.allLockers resumed) _

/-- A free list and a record are written in either order. -/
theorem leftFree_setLocker (c : SizeClass) (n m : Nat) (l : Locker) (s : State) :
    leftFree c n (s.setLocker m l) = (leftFree c n s).setLocker m l := by
  unfold leftFree State.setFreeList State.freeList
  cases c <;> rfl

/-- What the checks of R171 leave: an ABSENT locker, a FREE one, or a SERVICE one that may be emptied. -/
theorem checkLayout_none (l : Locker) (p : Bool) (h : checkLayout l p = none) :
    l.phase = .absent ∨ l.phase = .free ∨ (l.phase = .service ∧ (p = false → l.orderRef = none)) := by
  unfold checkLayout at h
  split at h
  · cases h
  case isFalse h1 =>
    split at h
    · cases h
    case isFalse h2 =>
      have h1 : l.phase = .absent ∨ l.phase = .free ∨ l.phase = .service := by
        simp only [not_and_or, not_not] at h1
        exact h1
      refine h1.imp_right (Or.imp_right fun hs => ⟨hs, fun hp => ?_⟩)
      simpa [hs, hp] using h2

/-- A record whose layout fields are copied is written where no free list shows it, or with its class kept. -/
theorem layoutWritten_linked (h : Linked b A s) (hb : ¬ b) (n : Nat) (e : LayoutEntry)
    (hc : checkLayout (s.locker n) e.populated = none)
    (hfree : ∀ c, n ∈ s.freeList c → e.populated = true ∧ e.cls = (s.locker n).cls) :
    Linked b A (s.setLocker n (((s.locker n).copyLayout e).layoutPhase e)) := by
  rcases checkLayout_none _ _ hc with hp | hp | ⟨hp, hr⟩
  · have href := h.ref_none n (by simp [Locker.mayHold, hp])
    refine setLocker_linked h n _ ?_ ?_ (fun c hk => by simp [(h.free c n hk).1] at hp) (fun k => absurd k hb)
      fun _ => ?_
    all_goals by_cases hpop : e.populated = true
    all_goals
      simp [Locker.layoutPhase, Locker.copyLayout, hp, hpop, Locker.enter, Locker.leave, Locker.arrive, href, Aside]
  · have href := h.ref_of_free n hp
    obtain ⟨-, hA⟩ := h.not_apart n (by simp [hp])
    refine setLocker_linked h n _ ?_ ?_ (fun c hk => ?_) (fun k => absurd k hb) fun k => absurd k hA
    · by_cases hpop : e.populated = true <;>
        simp [Locker.layoutPhase, Locker.copyLayout, hp, hpop, Locker.enter, Locker.leave, Locker.arrive]
    · by_cases hpop : e.populated = true <;>
        simp [Locker.layoutPhase, Locker.copyLayout, hp, hpop, Locker.enter, Locker.leave, Locker.arrive, href]
    · obtain ⟨hpop, hcls⟩ := hfree c hk
      simp [Locker.layoutPhase, Locker.copyLayout, hp, hpop, hcls]
  · refine setLocker_linked h n _ ?_ ?_ (fun c hk => by simp [(h.free c n hk).1] at hp) (fun k => absurd k hb)
      fun k => ?_
    · by_cases hpop : e.populated = true <;>
        simp [Locker.layoutPhase, Locker.copyLayout, hp, hpop, Locker.enter, Locker.leave, Locker.arrive]
    · by_cases hpop : e.populated = true
      · simp [Locker.layoutPhase, Locker.copyLayout, hp, hpop, Locker.mayHold]
      · simp [Locker.layoutPhase, Locker.copyLayout, hp, hpop, Locker.enter, Locker.leave, Locker.arrive,
          hr (by simpa using hpop)]
    · have href := (h.aside n k).1
      by_cases hpop : e.populated = true <;>
        simp [Locker.layoutPhase, Locker.copyLayout, hp, hpop, Locker.enter, Locker.leave, Locker.arrive, href, Aside]

theorem layoutAccepted_linked (h : Linked b A s) (hb : ¬ b) (n : Nat) (e : LayoutEntry)
    (hc : checkLayout (s.locker n) e.populated = none) : Linked b A (layoutAccepted n e s) := by
  have off : Linked b A ((leftFree (s.locker n).cls n s).setLocker n (((s.locker n).copyLayout e).layoutPhase e)) := by
    have := layoutWritten_linked (leftFree_linked h (s.locker n).cls n) hb n e (by simpa using hc) fun c hk => by
      rw [leftFree_freeList] at hk
      split at hk
      case isTrue => simp at hk
      case isFalse hne => exact absurd (h.free c n hk).2.symm hne
    simpa using this
  unfold layoutAccepted
  dsimp only
  split
  case isTrue hp =>
    split
    · rw [leftFree_setLocker]
      exact off
    case isFalse hpop =>
      split
      · rw [leftFree_setLocker]
        refine becameFree_linked off n ?_
        by_cases hn : n < 48
        · rw [State.setLocker_same _ _ _ hn]
          simp [Locker.layoutPhase, Locker.copyLayout, hp, hpop]
        · rw [State.locker_out _ _ (by omega)] at hp
          simp [Locker.blank] at hp
      case isFalse hcls =>
        exact layoutWritten_linked h hb n e hc fun _ _ => ⟨by simpa using hpop, not_not.mp hcls⟩
  case isFalse hp =>
    exact layoutWritten_linked h hb n e hc fun c hk => absurd (h.free c n hk).1 hp

/-! ### Setting aside, the reset notice, probes (R188, R190, R196) -/

theorem setAside_linked (h : Linked b A s) (n : Nat) (hr : ∀ m, (s.locker m).orderRef = none) (hb : ¬ b) :
    Linked b (fun m => A m ∨ m = n) (setAside n s) ∧ ∀ m, ((setAside n s).locker m).orderRef = none := by
  unfold setAside
  dsimp only
  split
  case isTrue hp =>
    refine ⟨h.weaken (fun k => absurd k hb) fun m hm => ?_, hr⟩
    rcases hm with hm | rfl
    · exact h.aside m hm
    · exact ⟨hr m, .inl (by simpa using hp)⟩
  case isFalse =>
    have moved := moveTo_empty_linked h .offline n (hr n) (fun k => absurd k hb)
      fun _ => enter_offline_aside _ (hr n)
    have record m : ((moveTo .offline n s).locker m).orderRef = none ∧
        (m = n → Aside ((moveTo .offline n s).locker m)) := by
      by_cases hm : m = n
      · subst hm
        by_cases hn : m < 48
        · rw [moveTo_locker_same _ _ _ hn]
          exact ⟨(enter_offline_aside _ (hr m)).1, fun _ => enter_offline_aside _ (hr m)⟩
        · rw [State.locker_out _ _ (by omega)]
          exact ⟨rfl, fun _ => ⟨rfl, .inl (by simp [Locker.blank])⟩⟩
      · rw [moveTo_locker_ne _ _ _ _ hm]
        exact ⟨hr m, fun k => absurd k hm⟩
    refine ⟨moved.weaken (fun k => absurd k hb) fun m hm => ?_, fun m => (record m).1⟩
    rcases hm with hm | hm
    · exact moved.aside m hm
    · exact (record m).2 hm

theorem blank_aside : Aside Locker.blank := ⟨rfl, .inl (by simp [Locker.blank])⟩

/-- A bank without orders is set aside whole (R188). -/
theorem setAsideAll_linked (h : Linked False A s) (hr : ∀ m, (s.locker m).orderRef = none) :
    Linked True (fun _ => True) (setAsideAll s) := by
  have folded (ns : List Nat) (B : Nat → Prop) (u : State) (hu : Linked False B u)
      (hr : ∀ m, (u.locker m).orderRef = none) :
      Linked False (fun m => B m ∨ m ∈ ns) (ns.foldl (fun s n => setAside n s) u) := by
    induction ns generalizing B u with
    | nil => exact hu.weaken False.elim fun m hm => hu.aside m (by simpa using hm)
    | cons n rest ih =>
      obtain ⟨hl, hr'⟩ := setAside_linked hu n hr id
      have := ih _ _ hl hr'
      exact this.weaken False.elim fun m hm => this.aside m (by simpa [or_assoc] using hm)
  have all := folded Config.allLockers A s h hr
  have aside m : Aside ((setAsideAll s).locker m) := by
    by_cases hm : m < 48
    · exact all.aside m (.inr (by simpa [Config.allLockers] using hm))
    · rw [State.locker_out _ _ (by omega)]
      exact blank_aside
  exact all.weaken (fun _ m => (aside m).isApart) fun m _ => aside m

theorem resetNotice_linked (h : Linked b A s) : Linked b A s.resetNotice :=
  mapLockers_linked h (fun n => (s.locker n).afterBankReset) (fun _ => rfl) rfl rfl

theorem settleProbed_linked (h : Linked b A s) (hb : ¬ b) (n : Nat) (on mark : Bool) (hA : ¬ A n)
    (hr : (s.locker n).orderRef = none) : Linked b A (settleProbed n on mark s) := by
  have moved (p : Phase) (u : State) (hu : Linked b A u) (hr : (u.locker n).orderRef = none) :
      Linked b A (moveTo p n u) :=
    moveTo_empty_linked hu p n hr (fun k => absurd k hb) fun k => absurd k hA
  have hx := setExcluded_linked h n
  have hxr : ((setExcluded n s).locker n).orderRef = none := by
    unfold setExcluded
    split
    · exact hr
    · rw [submit_locker]
      by_cases hn : n < 48
      · rw [State.modLocker_same _ _ _ hn]
        exact hr
      · rw [State.locker_out _ _ (by omega)]
        rfl
  unfold settleProbed
  dsimp only
  split
  · exact submit_linked _ _ (moved _ _ h hr)
  · split
    · split
      · exact moved _ _ hx hxr
      · exact submit_linked _ _ (moved _ _ hx hxr)
    · split
      · exact moved _ _ h hr
      · exact submit_linked _ _ (moved _ _ h hr)

theorem probeFailed_linked (h : Linked b A s) (hb : ¬ b) (n : Nat) (hA : ¬ A n) (hr : (s.locker n).orderRef = none) :
    Linked b A (probeFailed n s) := by
  have moved := moveTo_empty_linked h .offline n hr (fun k => absurd k hb) fun k => absurd k hA
  refine modLocker_linked moved n _ ?_
  by_cases hn : n < 48
  · simp [linkage, hn, enter_resume]
  · rw [State.locker_out _ _ (by omega)]
    rfl

end Sys2Proof.Proofs

/-! ## What the end of a command, the bus and a discovery leave of the survey (R127, R188 to R194) -/

namespace Sys2Proof.Proofs

open Sys2Proof.Machine

variable {b : Prop} {A : Nat → Prop} {s t : State}

/-! ### The dispatch head is a WAITING command (R120) -/

theorem foldl_pickOlder_mem (qs : List Nat) (best : Option Nat) (q : Nat) (h : qs.foldl pickOlder best = some q) :
    best = some q ∨ q ∈ qs := by
  induction qs generalizing best with
  | nil => exact .inl h
  | cons a rest ih =>
    rcases ih _ h with hb | hq
    · unfold pickOlder at hb
      split at hb
      · exact .inr (by simp [Option.some.inj hb])
      · split at hb
        · exact .inr (by simp [Option.some.inj hb])
        · exact .inl hb
    · exact .inr (List.mem_cons_of_mem _ hq)

theorem foldl_pickOlder_isSome (qs : List Nat) (best : Option Nat) (h : best.isSome = true) :
    (qs.foldl pickOlder best).isSome = true := by
  induction qs generalizing best with
  | nil => exact h
  | cons a rest ih =>
    refine ih _ ?_
    unfold pickOlder
    split
    · rfl
    · split <;> rfl

theorem foldl_pickOlder_none (qs : List Nat) : qs.foldl pickOlder none = none ↔ qs = [] := by
  cases qs with
  | nil => simp
  | cons a rest =>
    have := foldl_pickOlder_isSome rest (pickOlder none a) rfl
    simp only [List.foldl_cons, reduceCtorEq, iff_false]
    intro hn
    simp [hn] at this

theorem mem_waitingSeqs (x : Txu) (q : Nat) :
    q ∈ waitingSeqs x ↔ (∃ e ∈ x.table, e.stage = .waiting ∧ e.seq = q) ∨
      ∃ p ∈ x.posted, p.stage = .waiting ∧ p.seq = q := by
  simp [waitingSeqs, and_assoc]

theorem noneWaiting_iff (x : Txu) : x.NoneWaiting ↔ waitingSeqs x = [] := by
  simp only [Txu.NoneWaiting, waitingSeqs, List.append_eq_nil_iff, List.map_eq_nil_iff, List.filter_eq_nil_iff,
    decide_eq_true_eq, ne_eq]

theorem dispatchHead_none_of (x : Txu) (h : x.NoneWaiting) : dispatchHead x = none := by
  rw [dispatchHead, (noneWaiting_iff x).mp h]
  rfl

/-! ### What the end of a command takes out of TXU's collections -/

theorem entryBySeq_seq (x : Txu) (q : Nat) (e : Entry) (h : entryBySeq x q = some e) : e.seq = q := by
  simpa using List.find?_some h

theorem entryBySeq_mem (x : Txu) (q : Nat) (e : Entry) (h : entryBySeq x q = some e) : e ∈ x.table :=
  List.mem_of_find?_eq_some h

theorem entryBySeq_none (x : Txu) (q : Nat) : entryBySeq x q = none ↔ ∀ e ∈ x.table, e.seq ≠ q := by
  simp [entryBySeq]

theorem postedBySeq_none (x : Txu) (q : Nat) : postedBySeq x q = none ↔ ∀ p ∈ x.posted, p.seq ≠ q := by
  simp [postedBySeq]

@[simp] theorem panelReleaseEnd_txu (n : Nat) (o : CmdOutcome) (s : State) : (panelReleaseEnd n o s).txu = s.txu := by
  unfold panelReleaseEnd
  dsimp only
  split <;> simp [reportRefused, display, dropRelease]

theorem completeEntry_table (e : Entry) (o : CmdOutcome) (s : State) :
    (completeEntry e o s).txu.table = s.txu.table.filter fun x => x.seq != e.seq := by
  unfold completeEntry
  dsimp only
  split
  · simp [removeEntry]
  · split <;> simp [removeEntry]

theorem completeEntry_posted (e : Entry) (o : CmdOutcome) (s : State) :
    (completeEntry e o s).txu.posted = s.txu.posted := by
  unfold completeEntry
  dsimp only
  split
  · simp [removeEntry]
  · split <;> simp [removeEntry]

theorem endConfirmed_table (e : Entry) (o : CmdOutcome) (s : State) :
    (endConfirmed e o s).txu.table = s.txu.table.filter fun x => x.seq != e.seq := by
  rw [endConfirmed, completeEntry_table, (lockerCommandEnd_records e o s).txu]

theorem endConfirmed_posted (e : Entry) (o : CmdOutcome) (s : State) :
    (endConfirmed e o s).txu.posted = s.txu.posted := by
  rw [endConfirmed, completeEntry_posted, (lockerCommandEnd_records e o s).txu]

/-- A posted command leaves the queue; with any outcome but OK it is counted (R123). -/
theorem endPosted_txu (p : Posted) (o : CmdOutcome) (s : State) :
    (endPosted p o s).txu = { s.txu with
      posted := s.txu.posted.filter fun x => x.seq != p.seq
      postedLost := match o with | .ok _ => s.txu.postedLost | _ => satAdd 65535 s.txu.postedLost 1 } := by
  unfold endPosted
  dsimp only
  cases o with
  | ok v => rfl
  | noReply =>
    dsimp only
    split
    · simp [reportPostedLost, countPostedLost, removePosted]
    · rfl
  | refused r => simp [reportPostedLost, countPostedLost, removePosted]
  | _ => rfl

/-- A command that ends leaves the table with every entry of its number (R122). -/
theorem endCommand_table (q : Nat) (o : CmdOutcome) (s : State) :
    (endCommand q o s).txu.table = s.txu.table.filter fun x => x.seq != q := by
  unfold endCommand
  split
  case h_1 e he => rw [endConfirmed_table, entryBySeq_seq _ _ _ he]
  case h_2 hn =>
    have same : s.txu.table = s.txu.table.filter fun x => x.seq != q := by
      symm
      rw [List.filter_eq_self]
      simpa using (entryBySeq_none _ _).mp hn
    split
    · rw [endPosted_txu]
      exact same
    · exact same

theorem endCommand_posted_subset (q : Nat) (o : CmdOutcome) (s : State) :
    ∀ p ∈ (endCommand q o s).txu.posted, p ∈ s.txu.posted := by
  intro p hp
  unfold endCommand at hp
  split at hp
  · rwa [endConfirmed_posted] at hp
  · split at hp
    · rw [endPosted_txu] at hp
      exact List.mem_of_mem_filter hp
    · exact hp

theorem NoneWaiting.endCommand {s : State} (h : s.txu.NoneWaiting) (q : Nat) (o : CmdOutcome) :
    (endCommand q o s).txu.NoneWaiting := by
  refine ⟨fun e he => h.1 e ?_, fun p hp => h.2 p (endCommand_posted_subset q o s p hp)⟩
  rw [endCommand_table] at he
  exact List.mem_of_mem_filter he

/-! ### Every WAITING command ends at a bank reset (R129) -/

theorem inSeqOrder_mem (k : Nat) (qs : List Nat) (q : Nat) (hk : qs.length ≤ k) : q ∈ inSeqOrder k qs ↔ q ∈ qs := by
  induction k generalizing qs with
  | zero =>
    have : qs = [] := List.eq_nil_of_length_eq_zero (by omega)
    simp [inSeqOrder, this]
  | succ k ih =>
    unfold inSeqOrder
    split
    case h_1 hn => simp [(foldl_pickOlder_none qs).mp hn]
    case h_2 r hr =>
      have hmem : r ∈ qs := by simpa using foldl_pickOlder_mem qs none r hr
      have hlen : (qs.filter fun x => x != r).length ≤ k := by
        have : (qs.filter fun x => x != r).length < qs.length :=
          List.length_filter_lt_length_iff_exists.mpr ⟨r, hmem, by simp⟩
        omega
      rw [List.mem_cons, ih _ hlen, List.mem_filter]
      by_cases hq : q = r
      · simp [hq, hmem]
      · simp [hq]

theorem mem_waitingEntrySeqs (x : Txu) (q : Nat) :
    q ∈ waitingEntrySeqs x ↔ ∃ e ∈ x.table, e.stage = .waiting ∧ e.seq = q := by
  unfold waitingEntrySeqs
  rw [inSeqOrder_mem _ _ _ le_rfl]
  simp [and_assoc]

theorem foldl_endCommand_table (qs : List Nat) (o : CmdOutcome) (s : State) :
    (qs.foldl (fun s q => endCommand q o s) s).txu.table = s.txu.table.filter fun x => !qs.contains x.seq := by
  induction qs generalizing s with
  | nil => simp
  | cons q rest ih =>
    rw [List.foldl_cons, ih, endCommand_table, List.filter_filter]
    refine List.filter_congr fun e _ => ?_
    by_cases hq : e.seq = q <;> simp [hq]

theorem txuBankReset_noneWaiting (s : State) : (txuBankReset s).txu.NoneWaiting := by
  unfold txuBankReset discardPosted
  refine ⟨fun e he hw => ?_, fun p hp => by simpa using (List.mem_filter.mp hp).2⟩
  have he : e ∈ s.txu.table.filter fun x => !(waitingEntrySeqs s.txu).contains x.seq := by
    rw [← foldl_endCommand_table]
    exact he
  obtain ⟨he, hn⟩ := List.mem_filter.mp he
  have : e.seq ∈ waitingEntrySeqs s.txu := (mem_waitingEntrySeqs _ _).mpr ⟨e, he, hw, rfl⟩
  simp [this] at hn

/-! ### The survey as an invariant -/

/-- A running discovery has not settled the locker yet. -/
def toSurvey (s : State) (n : Nat) : Prop := ∃ d, s.ltu.discovery = some d ∧ s.Unsurveyed d n

/-- How discovery, reset line, bus and long operation stand to each other: `State.SurveyConsistent` without its clause
on the records. -/
structure SurveyRest (s : State) : Prop where
  op : ∀ d, s.ltu.discovery = some d → ∃ op, s.txu.longOp = some op ∧ op.kind ∈ [.rescan, .powerOnDiscovery]
  probing : ∀ d, s.ltu.discovery = some d → d.stage = .probing →
    s.bbm.line = .idle ∧ (∀ n q a f, s.bbm.exchange ≠ some (.command n q a f)) ∧
      ∀ n a m, s.bbm.exchange ≠ some (.poll n a m)
  pulsed : s.ltu.discovery = some ⟨.powerOn, .reset⟩ → s.bbm.line ≠ .idle
  quiet : ∀ d, s.ltu.discovery = some d → d.stage = .probing ∨ s.bbm.line ≠ .idle → s.txu.NoneWaiting
  probe : ∀ n a m, s.bbm.exchange = some (.probe n a m) →
    n < s.ltu.probeCursor ∧ ∃ k, s.ltu.discovery = some ⟨k, .probing⟩
  line : s.bbm.line ≠ .idle → s.bbm.exchange = none ∧ ∃ op, s.txu.longOp = some op ∧ op.kind ≠ .store
  busy : s.sst.busy = true → ∃ op, s.txu.longOp = some op ∧ op.kind = .store

/-- Orders, lockers and free lists are linked, the lockers still to be surveyed are aside, and the rest of the survey
is consistent. -/
structure Sound (s : State) : Prop where
  linked : Linked False (toSurvey s) s
  rest : SurveyRest s

theorem sound_of_laws (s : State) (ho : s.OrdersConsistent) (hf : s.FreeListsExact) (hp : s.OrdersPaired)
    (hs : s.SurveyConsistent) : Sound s := by
  obtain ⟨-, hids, -, hqueue⟩ := ho
  obtain ⟨hlist, -, -⟩ := hf
  obtain ⟨hforth, hback⟩ := hp
  obtain ⟨hdisc, hprobe, hline, hbusy⟩ := hs
  have low n (hn : ¬ n < 48) : s.locker n = Locker.blank := State.locker_out _ _ (by omega)
  refine ⟨⟨?_, fun x hx => ?_, fun x hx n hn => ?_, fun n id hn => ?_, fun id hid => ?_, ?_, fun c n hn => ?_,
    False.elim, fun n ⟨d, hd, hn⟩ => ?_⟩, ⟨fun d hd => (hdisc d hd).2.1, fun d hd => (hdisc d hd).2.2.1,
    fun hd => (hdisc _ hd).2.2.2.1 rfl, fun d hd => (hdisc d hd).2.2.2.2, hprobe, hline, hbusy⟩⟩
  · unfold orderLinks
    rw [List.map_map]
    exact hids
  · obtain ⟨o, ho, rfl⟩ := List.mem_map.mp hx
    exact (hforth o ho).1
  · obtain ⟨o, ho, rfl⟩ := List.mem_map.mp hx
    exact (hforth o ho).2 n hn
  · by_cases hlt : n < 48
    · obtain ⟨hhold, o, ho, hl⟩ := hback n id hlt hn
      exact ⟨hhold, hl ▸ orderLinks_of_order id o ho⟩
    · rw [low n hlt] at hn
      cases hn
  · rw [hqueue] at hid
    obtain ⟨o, ho, rfl⟩ := List.mem_map.mp hid
    obtain ⟨ho, hpend⟩ := List.mem_filter.mp ho
    have hl : o.locker = none := by
      unfold Order.isPending at hpend
      unfold Order.locker
      split at hpend <;> simp_all
    exact hl ▸ mem_orderLinks o ho
  · rw [hqueue]
    exact hids.sublist (List.filter_sublist.map _)
  · exact ⟨((hlist c n).mp hn).1, ((hlist c n).mp hn).2.2⟩
  · by_cases hlt : n < 48
    · exact (hdisc d hd).1 n hlt hn
    · rw [low n hlt]
      exact blank_aside

theorem Sound.laws (h : Sound s) : s.OrdersPaired ∧ s.SurveyConsistent := by
  obtain ⟨hl, hr⟩ := h
  refine ⟨⟨fun o ho => ⟨hl.named _ (mem_orderLinks o ho), fun n hn => hl.forth _ (mem_orderLinks o ho) n hn⟩,
    fun n id _ hn => ?_⟩, fun d hd => ⟨fun n _ hn => hl.aside n ⟨d, hd, hn⟩, hr.op d hd, hr.probing d hd,
    fun he => hr.pulsed (he ▸ hd), hr.quiet d hd⟩, hr.probe, hr.line, hr.busy⟩
  obtain ⟨hhold, hx⟩ := hl.back n id hn
  exact ⟨hhold, hl.order_of_link id _ hx⟩

/-! ### Operations that leave discovery, bus and long operation alone -/

/-- What the survey reads outside the records, but for the waiting commands. -/
def surveyCore (s : State) :
    Option Discovery × Nat × Option Exchange × ResetLine × Option LongOp × Bool :=
  (s.ltu.discovery, s.ltu.probeCursor, s.bbm.exchange, s.bbm.line, s.txu.longOp, s.sst.busy)

theorem toSurvey_congr (h : surveyCore t = surveyCore s) : toSurvey t = toSurvey s := by
  simp only [surveyCore, Prod.mk.injEq] at h
  obtain ⟨hd, hc, he, -⟩ := h
  funext n
  simp only [toSurvey, State.Unsurveyed, hd, hc, he]

theorem SurveyRest.congr (h : SurveyRest s) (hc : surveyCore t = surveyCore s)
    (hw : s.txu.NoneWaiting → t.txu.NoneWaiting) : SurveyRest t := by
  simp only [surveyCore, Prod.mk.injEq] at hc
  obtain ⟨hd, hcur, he, hl, hop, hb⟩ := hc
  constructor
  · rw [hd, hop]; exact h.op
  · rw [hd, hl, he]; exact h.probing
  · rw [hd, hl]; exact h.pulsed
  · rw [hd, hl]; exact fun d k k' => hw (h.quiet d k k')
  · rw [he, hcur, hd]; exact h.probe
  · rw [hl, he, hop]; exact h.line
  · rw [hb, hop]; exact h.busy

theorem Sound.congr (h : Sound s) (hc : surveyCore t = surveyCore s) (hw : s.txu.NoneWaiting → t.txu.NoneWaiting)
    (hl : Linked False (toSurvey s) t) : Sound t :=
  ⟨by rw [toSurvey_congr hc]; exact hl, h.rest.congr hc hw⟩

theorem surveyCore_records (k : RecordsOnly s t) : surveyCore t = surveyCore s := by
  simp only [surveyCore, k.discovery, k.probeCursor, k.bbm, k.txu, k.sst]

theorem surveyCore_commands (k : CommandsOnly s t) : surveyCore t = surveyCore s := by
  simp only [surveyCore, k.discovery, k.probeCursor, k.bbm, k.longOp, k.sst]

theorem surveyCore_link (k : OnlyLink s t) : surveyCore t = surveyCore s := by
  simp only [surveyCore, k.ltu, k.bbm, k.txu, k.sst]

theorem Sound.records (h : Sound s) (k : RecordsOnly s t) (hl : Linked False (toSurvey s) t) : Sound t :=
  h.congr (surveyCore_records k) (fun hw => by rwa [k.txu]) hl

theorem Sound.onlyLink (h : Sound s) (k : OnlyLink s t) : Sound t :=
  h.congr (surveyCore_link k) (fun hw => by rwa [k.txu]) (h.linked.onlyLink k)

theorem Sound.answer (h : Sound s) (k : Kind) (tag : Nat) (st : Status) (body : List Field) :
    Sound (answer k tag st body s) := h.onlyLink (answer_onlyLink k tag st body s)

theorem elapse_sound (h : Sound s) (d : Nat) : Sound (s.elapse d) :=
  h.congr rfl id (elapse_linked h.linked d)

/-- A command that ends with an outcome the bank gives without a module (R11, R125, R129, R130). -/
theorem endCommand_sound (h : Sound s) (q : Nat) (o : CmdOutcome) (ho : o ≠ .noReply) : Sound (endCommand q o s) :=
  h.congr (surveyCore_commands (endCommand_commands q o s)) (fun hw => NoneWaiting.endCommand hw q o)
    (endCommand_linked h.linked q o fun k => absurd k ho)

/-- Fewer lockers are still to be surveyed, the records and orders are the same. -/
theorem Linked.resurvey {A' : Nat → Prop} (h : Linked b A s) (hl : t.ltu.lockers = s.ltu.lockers) (ho : t.oru = s.oru)
    (hA : ∀ n, A' n → Aside (s.locker n)) : Linked False A' t :=
  (h.weaken False.elim hA).of_same hl ho

/-! ### Giving the bus away (R95 to R99) -/

/-- An exchange other than a probe begins on the free bus. -/
theorem SurveyRest.begin (h : SurveyRest s) (x : Exchange) (m : MapState) (w : Winner) (c : Nat)
    (hidle : s.bbm.line = .idle) (hx : ∀ n a k, x ≠ .probe n a k)
    (hprobing : ∀ d, s.ltu.discovery = some d → d.stage = .probing → ∃ off, x = .broadcast off) :
    SurveyRest (s.withBbm { s.bbm with exchange := some x, mapState := m, lastWinner := w, cursor := c }) := by
  constructor
  · exact h.op
  · intro d hd hst
    obtain ⟨off, rfl⟩ := hprobing d hd hst
    exact ⟨hidle, by simp, by simp⟩
  · exact h.pulsed
  · exact h.quiet
  · intro n a k he
    exact absurd (Option.some.inj he) (hx n a k)
  · exact fun hl => absurd hidle hl
  · exact h.busy

theorem Sound.begin (h : Sound s) (x : Exchange) (m : MapState) (w : Winner) (c : Nat) (f : BusFrame)
    (hidle : s.bbm.line = .idle) (hx : ∀ n a k, x ≠ .probe n a k)
    (hprobing : ∀ d, s.ltu.discovery = some d → d.stage = .probing → ∃ off, x = .broadcast off) :
    Sound ((s.withBbm { s.bbm with exchange := some x, mapState := m, lastWinner := w, cursor := c }).emit (.bus f)) := by
  suffices base : Sound (s.withBbm
      { s.bbm with exchange := some x, mapState := m, lastWinner := w, cursor := c }) from
    base.onlyLink (emit_onlyLink _ _)
  refine ⟨?_, h.rest.begin x m w c hidle hx hprobing⟩
  refine h.linked.resurvey rfl rfl ?_
  rintro n ⟨d, hd, hn⟩
  refine h.linked.aside n ⟨d, hd, ?_⟩
  rcases hn with hn | hn | ⟨a, k, he⟩
  · exact .inl hn
  · exact .inr (.inl hn)
  · exact absurd (Option.some.inj he) (hx n a k)

/-- The next probe begins (R189). -/
theorem Sound.beginProbe (h : Sound s) (n : Nat) (hfree : busFree s = true)
    (hd : ∃ k, s.ltu.discovery = some ⟨k, .probing⟩) (hn : s.ltu.probeCursor ≤ n) :
    Sound (beginPoll (.probe n) s) := by
  obtain ⟨k, hd⟩ := hd
  obtain ⟨hnone, hidle⟩ : s.bbm.exchange = none ∧ s.bbm.line = .idle := by simpa [busFree] using hfree
  suffices base : Sound { s with
      ltu := { s.ltu with probing := some n, probeCursor := n + 1 }
      bbm := { s.bbm with
        lastWinner := .poll, exchange := some (.probe n 1 (decide (s.bbm.mapState = .sent))) } } from
    base.onlyLink rfl
  refine ⟨?_, ?_⟩
  · refine h.linked.resurvey rfl rfl ?_
    rintro m ⟨d, hd', hm⟩
    refine h.linked.aside m ⟨d, hd', ?_⟩
    rcases hm with hm | hm | ⟨a, mk, he⟩
    · exact .inl hm
    · exact .inr (.inl (by simp only at hm; omega))
    · simp only [Option.some.injEq, Exchange.probe.injEq] at he
      exact .inr (.inl (by omega))
  · constructor
    · exact h.rest.op
    · exact fun d hd' hst => ⟨hidle, by simp, by simp⟩
    · exact h.rest.pulsed
    · exact h.rest.quiet
    · intro m a mk he
      simp only [Option.some.injEq, Exchange.probe.injEq] at he
      exact ⟨by simp only; omega, k, hd⟩
    · exact fun hl => absurd hidle hl
    · exact h.rest.busy

/-- What asks for the bus as the poll requester: a probe while the discovery probes, else a poll (R95). -/
theorem pollRequest_cases (s : State) (r : PollRequest) (h : pollRequest s = some r) :
    (∃ n, r = .probe n ∧ (∃ k, s.ltu.discovery = some ⟨k, .probing⟩) ∧ s.ltu.probeCursor ≤ n) ∨
      ∃ n, r = .poll n ∧ ∀ d, s.ltu.discovery = some d → d.stage ≠ .probing := by
  unfold pollRequest at h
  split at h
  case h_1 k hd =>
    split at h
    · obtain ⟨n, hn, rfl⟩ := Option.map_eq_some_iff.mp h
      have := List.find?_some hn
      simp only [Bool.and_eq_true, decide_eq_true_eq] at this
      exact .inl ⟨n, rfl, ⟨k, hd⟩, this.1.1⟩
    · cases h
  case h_2 hd =>
    split at h
    · obtain ⟨n, -, rfl⟩ := Option.map_eq_some_iff.mp h
      refine .inr ⟨n, rfl, fun d hd' hst => ?_⟩
      obtain ⟨k, st⟩ := d
      cases hst
      exact hd k hd'
    · cases h

theorem beginPoll_sound (h : Sound s) (r : PollRequest) (hfree : busFree s = true) (hr : pollRequest s = some r) :
    Sound (beginPoll r s) := by
  rcases pollRequest_cases s r hr with ⟨n, rfl, hd, hn⟩ | ⟨n, rfl, hd⟩
  · exact h.beginProbe n hfree hd hn
  · have hidle : s.bbm.line = .idle := by
      have : s.bbm.exchange = none ∧ s.bbm.line = .idle := by simpa [busFree] using hfree
      exact this.2
    exact h.begin _ s.bbm.mapState _ _ _ hidle (by simp) fun d hd' hst => absurd hst (hd d hd')

theorem putOnBus_sound (h : Sound s) (q : Nat) (w : Winner) :
    Sound (putOnBus q (s.withBbm { s.bbm with lastWinner := w })) := by
  refine h.congr rfl (fun hw => ⟨fun e he => ?_, fun p hp => ?_⟩) (h.linked.of_same rfl rfl)
  · obtain ⟨x, hx, rfl⟩ := List.mem_map.mp he
    split
    · simp
    · exact hw.1 x hx
  · obtain ⟨x, hx, rfl⟩ := List.mem_map.mp hp
    split
    · simp
    · exact hw.2 x hx

theorem recheck_ne_noReply (e : Entry) (s : State) (o : CmdOutcome) (h : recheck e s = some o) : o ≠ .noReply := by
  rintro rfl
  simp only [recheck] at h
  repeat' split at h
  all_goals cases h

theorem beginCommand_sound (h : Sound s) (q : Nat) (hidle : s.bbm.line = .idle)
    (hd : ∀ d, s.ltu.discovery = some d → d.stage ≠ .probing) : Sound (beginCommand q s) := by
  have hb := putOnBus_sound h q .command
  have sends (n : Nat) (f : BusFrame) :
      Sound (beginExchange n q f (putOnBus q (s.withBbm { s.bbm with lastWinner := .command }))) :=
    hb.begin _ s.bbm.mapState .command s.bbm.cursor f hidle (by simp) fun d hd' hst => absurd hst (hd d hd')
  unfold beginCommand
  dsimp only
  split
  · split
    · split
      case h_1 o ho => exact endCommand_sound hb q o (recheck_ne_noReply _ _ _ ho)
      case h_2 => exact sends _ _
    · exact sends _ _
  · split
    · exact sends _ _
    · exact hb

/-- A command waits, so no discovery probes. -/
theorem SurveyRest.not_probing (h : SurveyRest s) (q : Nat) (hq : dispatchHead s.txu = some q) :
    ∀ d, s.ltu.discovery = some d → d.stage ≠ .probing := by
  intro d hd hst
  rw [dispatchHead_none_of _ (h.quiet d hd (.inl hst))] at hq
  cases hq

theorem chooseBusLoop_sound (k : Nat) (h : Sound s) : Sound (chooseBusLoop k s) := by
  induction k generalizing s with
  | zero => exact h
  | succ k ih =>
    unfold chooseBusLoop
    split
    case isFalse => exact h
    case isTrue hfree =>
      have hidle : s.bbm.line = .idle := by
        have : s.bbm.exchange = none ∧ s.bbm.line = .idle := by simpa [busFree] using hfree
        exact this.2
      have command (q : Nat) (hq : dispatchHead s.txu = some q) :=
        ih (beginCommand_sound h q hidle (h.rest.not_probing q hq))
      split
      · exact h.begin _ .sending s.bbm.lastWinner s.bbm.cursor _ hidle (by simp) fun _ _ _ => ⟨_, rfl⟩
      · split
        case h_1 q r hq hr =>
          split
          · exact beginPoll_sound h r hfree hr
          · exact command q hq
        case h_2 q hq _ => exact command q hq
        case h_3 r _ hr => exact beginPoll_sound h r hfree hr
        case h_4 => exact h

theorem chooseBus_sound (h : Sound s) : Sound (chooseBus s) := chooseBusLoop_sound _ h

end Sys2Proof.Proofs

/-! ## The reset pulse, discovery and the ends of exchanges keep the bank sound (R109, R127, R188 to R196) -/

namespace Sys2Proof.Proofs

open Sys2Proof.Machine

variable {b : Prop} {A : Nat → Prop} {s t : State}

/-- No locker. -/
def Nobody : Nat → Prop := fun _ => False

theorem toSurvey_of_none (h : s.ltu.discovery = none) (n : Nat) : ¬ toSurvey s n := by
  rintro ⟨d, hd, -⟩
  rw [h] at hd
  cases hd

theorem toSurvey_reset (k : DiscoveryKind) (h : s.ltu.discovery = some ⟨k, .reset⟩) (n : Nat) : toSurvey s n :=
  ⟨_, h, .inl rfl⟩

/-- Without a discovery little is left to ask. -/
theorem sound_of_no_discovery (hl : Linked False A s) (hd : s.ltu.discovery = none)
    (hp : ∀ n a m, s.bbm.exchange ≠ some (.probe n a m))
    (hline : s.bbm.line ≠ .idle → s.bbm.exchange = none ∧ ∃ op, s.txu.longOp = some op ∧ op.kind ≠ .store)
    (hbusy : s.sst.busy = true → ∃ op, s.txu.longOp = some op ∧ op.kind = .store) : Sound s :=
  ⟨hl.weaken False.elim fun n hn => absurd hn (toSurvey_of_none hd n),
    ⟨by simp [hd], by simp [hd], by simp [hd], by simp [hd], fun n a m hx => absurd hx (hp n a m), hline, hbusy⟩⟩

/-- No discovery runs, so no locker is still to be surveyed. -/
theorem Sound.of_no_discovery (h : Sound s) (hd : s.ltu.discovery = none) (hdt : t.ltu.discovery = none)
    (hb : t.bbm.exchange = s.bbm.exchange ∧ t.bbm.line = s.bbm.line) (hop : t.txu.longOp = s.txu.longOp)
    (hs : t.sst.busy = s.sst.busy) (hl : Linked False (toSurvey s) t) : Sound t := by
  obtain ⟨hx, hline⟩ := hb
  refine sound_of_no_discovery hl hdt (fun n a m hp => ?_) ?_ ?_
  · obtain ⟨-, k, hk⟩ := h.rest.probe n a m (hx ▸ hp)
    rw [hd] at hk
    cases hk
  · rw [hline, hx, hop]
    exact h.rest.line
  · rw [hs, hop]
    exact h.rest.busy

/-! ### The reset pulse (R109) -/

/-- Only the exchange in flight is taken off the bus. -/
theorem cutOff_bbm (s : State) : (cutOff s).bbm = { s.bbm with exchange := none } := by
  unfold cutOff
  split
  case h_1 hx =>
    rw [← hx]
  case h_2 q _ _ _ => rw [(endCommand_commands _ _ _).bbm]; rfl
  all_goals rfl

theorem cutOff_discovery (s : State) : (cutOff s).ltu.discovery = s.ltu.discovery := by
  unfold cutOff
  split
  case h_2 => rw [(endCommand_commands _ _ _).discovery]; rfl
  all_goals rfl

theorem cutOff_longOp (s : State) : (cutOff s).txu.longOp = s.txu.longOp := by
  unfold cutOff
  split
  case h_2 => rw [(endCommand_commands _ _ _).longOp]; rfl
  all_goals rfl

theorem cutOff_sst (s : State) : (cutOff s).sst = s.sst := by
  unfold cutOff
  split
  case h_2 => rw [(endCommand_commands _ _ _).sst]; rfl
  all_goals rfl

theorem cutOff_linked (h : Linked b A s) : Linked b A (cutOff s) := by
  have cleared : Linked b A (clearExchange s) := h.of_same rfl rfl
  unfold cutOff
  split
  · exact h
  · exact endCommand_linked cleared _ .bankReset (by simp)
  · exact h.of_same rfl rfl
  · exact h.of_same rfl rfl

theorem txuBankReset_linked (h : Linked b A s) : Linked b A (txuBankReset s) := by
  unfold txuBankReset
  have ended := Linked.foldl (fun s q => endCommand q .bankReset s)
    (fun _ q hu => endCommand_linked hu q _ (by simp)) (waitingEntrySeqs s.txu) h
  exact ended.of_same rfl rfl

/-- The state in which LTU has taken the values of a bank reset. -/
def pulsed (s : State) : State :=
  (txuBankReset ((cutOff s).withBbm (busAtPulse (cutOff s).bbm))).resetNotice

theorem pulsed_linked (h : Linked b A s) : Linked b A (pulsed s) :=
  resetNotice_linked (txuBankReset_linked ((cutOff_linked h).of_same rfl rfl))

theorem pulsed_bbm (s : State) : (pulsed s).bbm = { busAtPulse s.bbm with exchange := none } := by
  refine (txuBankReset_commands _).bbm.trans ?_
  change busAtPulse (cutOff s).bbm = _
  rw [cutOff_bbm]
  rfl

theorem pulsed_discovery (s : State) : (pulsed s).ltu.discovery = s.ltu.discovery :=
  (txuBankReset_commands _).discovery.trans (cutOff_discovery s)

theorem pulsed_longOp (s : State) : (pulsed s).txu.longOp = s.txu.longOp :=
  (txuBankReset_commands _).longOp.trans (cutOff_longOp s)

theorem pulsed_sst (s : State) : (pulsed s).sst = s.sst := (txuBankReset_commands _).sst.trans (cutOff_sst s)

theorem pulsed_noneWaiting (s : State) : (pulsed s).txu.NoneWaiting := txuBankReset_noneWaiting _

/-- A RESCAN sets aside again what its last poll settled (R188). -/
theorem startPulse_rescan (st : DiscoveryStage) (h : s.ltu.discovery = some ⟨.rescan, st⟩) :
    startPulse s = setAsideAll (pulsed s) := by
  have hd := (pulsed_discovery s).trans h
  unfold startPulse
  dsimp only
  split
  case h_1 => rfl
  case h_2 hn => exact absurd hd (hn st)

theorem startPulse_other (h : ∀ st, s.ltu.discovery ≠ some ⟨.rescan, st⟩) : startPulse s = pulsed s := by
  unfold startPulse
  dsimp only
  split
  case h_1 st hs => exact absurd ((pulsed_discovery s).symm.trans hs) (h st)
  case h_2 => rfl

/-- The bank is ready for a pulse: of a RESCAN's lockers none refers to an order, of a power-on's all are aside, and a
running discovery, which then waits for its pulse, or a BANK_RESET holds the long-operation place. -/
structure PulseReady (s : State) : Prop where
  linked : Linked (∃ st, s.ltu.discovery = some ⟨.rescan, st⟩) (fun _ => ∃ st, s.ltu.discovery = some ⟨.powerOn, st⟩) s
  stage : ∀ d, s.ltu.discovery = some d → d.stage = .reset
  op : ∃ op, s.txu.longOp = some op ∧ op.kind ≠ .store
  survey : ∀ d, s.ltu.discovery = some d → ∃ op, s.txu.longOp = some op ∧ op.kind ∈ [.rescan, .powerOnDiscovery]
  idle : s.sst.busy = false

theorem surveyRest_pulsed (h : PulseReady s) : SurveyRest (pulsed s) := by
  have hline : (pulsed s).bbm.line = .pulse := by rw [pulsed_bbm]; rfl
  have hx : (pulsed s).bbm.exchange = none := by rw [pulsed_bbm]
  constructor
  · rw [pulsed_discovery, pulsed_longOp]
    exact h.survey
  · intro d hd hst
    rw [pulsed_discovery] at hd
    rw [h.stage d hd] at hst
    cases hst
  · simp [hline]
  · exact fun _ _ _ => pulsed_noneWaiting s
  · simp [hx]
  · rw [pulsed_longOp]
    exact fun _ => ⟨hx, h.op⟩
  · rw [pulsed_sst, h.idle]
    simp

theorem startPulse_sound (h : PulseReady s) : Sound (startPulse s) := by
  have linked := pulsed_linked h.linked
  have rest := surveyRest_pulsed h
  by_cases hk : ∃ st, s.ltu.discovery = some ⟨.rescan, st⟩
  case pos =>
    rw [startPulse_rescan _ hk.choose_spec]
    have aside : Linked True (fun _ => True) (setAsideAll (pulsed s)) :=
      setAsideAll_linked (linked.weaken False.elim fun _ => linked.aside _) fun m => (linked.apart hk m).1
    have frame := setAsideAll_records (pulsed s)
    exact ⟨aside.weaken False.elim fun n _ => aside.aside n trivial,
      rest.congr (surveyCore_records frame) fun hw => by rwa [frame.txu]⟩
  case neg =>
    rw [startPulse_other fun st hs => hk ⟨st, hs⟩]
    refine ⟨linked.weaken False.elim ?_, rest⟩
    rintro n ⟨d, hd, -⟩
    refine linked.aside n ?_
    rw [pulsed_discovery] at hd
    obtain ⟨k, st⟩ := d
    cases k
    · exact ⟨st, hd⟩
    · exact absurd ⟨st, hd⟩ hk

/-! ### What follows an exchange (R96, R188) -/

theorem pulseWanted_iff (s : State) :
    pulseWanted s = true ↔ ∃ k, s.ltu.discovery = some ⟨k, .reset⟩ ∧ s.bbm.line = .idle := by
  unfold pulseWanted
  split
  case h_1 k hd => simp [hd]
  case h_2 hd =>
    constructor
    · simp
    · rintro ⟨k, hk, -⟩
      exact absurd hk (hd k)

/-- A discovery that waits for its pulse is a RESCAN (R186, R188). -/
theorem SurveyRest.rescan_of_pulseWanted (h : SurveyRest s) (hw : pulseWanted s = true) :
    s.ltu.discovery = some ⟨.rescan, .reset⟩ ∧ s.bbm.line = .idle := by
  obtain ⟨k, hd, hline⟩ := (pulseWanted_iff s).mp hw
  cases k
  · exact absurd hline (h.pulsed hd)
  · exact ⟨hd, hline⟩

theorem SurveyRest.pulseReady (h : SurveyRest s) (hw : pulseWanted s = true) (hl : Linked True A s) : PulseReady s := by
  obtain ⟨hd, hline⟩ := h.rescan_of_pulseWanted hw
  obtain ⟨op, hop, hk⟩ := h.op _ hd
  refine ⟨hl.weaken (fun _ n => hl.apart trivial n) fun n ⟨st, hs⟩ => ?_, fun d hd' => ?_, ⟨op, hop, ?_⟩, h.op, ?_⟩
  · rw [hd] at hs
    cases hs
  · rw [hd] at hd'
    cases hd'
    rfl
  · rintro hs
    simp [hs] at hk
  · by_contra hb
    obtain ⟨op', hop', hs⟩ := h.busy (by simpa using hb)
    rw [hop] at hop'
    cases hop'
    simp [hs] at hk

theorem afterExchange_sound (rest : SurveyRest s) (hw : pulseWanted s = true → Linked True Nobody s)
    (hn : pulseWanted s = false → Linked False (toSurvey s) s) : Sound (afterExchange s) := by
  unfold afterExchange
  split
  case isTrue hp => exact startPulse_sound (rest.pulseReady hp (hw hp))
  case isFalse hp => exact chooseBus_sound ⟨hn (by simpa using hp), rest⟩

/-- The exchange on the bus is a poll's or a command's. -/
def PollOrCommand (s : State) : Prop :=
  (∃ n a m, s.bbm.exchange = some (.poll n a m)) ∨ ∃ n q a f, s.bbm.exchange = some (.command n q a f)

theorem PollOrCommand.waits (hx : PollOrCommand s) (h : SurveyRest s) (d : Discovery)
    (hd : s.ltu.discovery = some d) : pulseWanted s = true := by
  have hline : s.bbm.line = .idle := by
    by_contra hl
    obtain ⟨hnone, -⟩ := h.line hl
    rcases hx with ⟨n, a, m, hx⟩ | ⟨n, q, a, f, hx⟩ <;> simp [hnone] at hx
  obtain ⟨k, st⟩ := d
  cases st
  · exact (pulseWanted_iff s).mpr ⟨k, hd, hline⟩
  · obtain ⟨-, hcommand, hpoll⟩ := h.probing _ hd rfl
    rcases hx with ⟨n, a, m, hx⟩ | ⟨n, q, a, f, hx⟩
    · exact absurd hx (hpoll n a m)
    · exact absurd hx (hcommand n q a f)

/-- While a poll or a command is on the bus a discovery waits, and the whole bank is apart. -/
theorem PollOrCommand.linked (hx : PollOrCommand s) (h : Sound s) : Linked (s.ltu.discovery ≠ none) Nobody s := by
  refine h.linked.weaken (fun hne n => ?_) fun _ => False.elim
  obtain ⟨d, hd⟩ := Option.ne_none_iff_exists'.mp hne
  obtain ⟨k, hk, -⟩ := (pulseWanted_iff s).mp (hx.waits h.rest d hd)
  exact (h.linked.aside n (toSurvey_reset k hk n)).isApart

theorem SurveyRest.clearExchange (h : SurveyRest s) (p f : Nat) (m : MapState) :
    SurveyRest (s.withBbm { s.bbm with exchange := none, failedPolls := p, failedExchanges := f, mapState := m }) :=
  ⟨h.op, fun d hd hst => ⟨(h.probing d hd hst).1, by simp, by simp⟩, h.pulsed, h.quiet, by simp,
    fun hl => ⟨rfl, (h.line hl).2⟩, h.busy⟩

/-- A poll's or a command's exchange has ended in `u`: what is left of it there is the bus' discovery, line and
long operation. -/
theorem afterPollOrCommand_sound (h : Sound s) (hx : PollOrCommand s) (u : State) (hd : u.ltu.discovery = s.ltu.discovery)
    (hline : u.bbm.line = s.bbm.line) (rest : SurveyRest u) (hl : Linked (s.ltu.discovery ≠ none) Nobody u) :
    Sound (afterExchange u) := by
  refine afterExchange_sound rest (fun hw => hl.weaken (fun _ n => hl.apart ?_ n) fun _ => False.elim) fun hw => ?_
  · obtain ⟨k, hk, -⟩ := (pulseWanted_iff u).mp hw
    rw [← hd, hk]
    simp
  · refine hl.weaken False.elim fun n ⟨d, hn, _⟩ => ?_
    have := hx.waits h.rest d (hd ▸ hn)
    rw [pulseWanted_iff, ← hd, ← hline, ← pulseWanted_iff, hw] at this
    cases this

/-! ### The ends of polls and commands (R92) -/

theorem startGap_onlyCycle (s : State) : surveyCore (startGap s) = surveyCore s ∧ (startGap s).txu = s.txu ∧
    (startGap s).ltu = s.ltu ∧ (startGap s).oru = s.oru := by
  unfold startGap
  split <;> exact ⟨rfl, rfl, rfl, rfl⟩

theorem endOfPoll_onlyCycle (s : State) : surveyCore (endOfPoll s) = surveyCore s ∧ (endOfPoll s).txu = s.txu ∧
    (endOfPoll s).ltu = s.ltu ∧ (endOfPoll s).oru = s.oru := by
  unfold endOfPoll
  split
  · exact startGap_onlyCycle s
  · exact ⟨rfl, rfl, rfl, rfl⟩

theorem pollEnded_sound (h : Sound s) (hx : PollOrCommand s) (n : Nat) (r : Option Observation) (mark : Bool) :
    Sound (pollEnded n r mark s) := by
  have linked := hx.linked h
  have ended (u : State) (rest : SurveyRest u) (hd : u.ltu.discovery = s.ltu.discovery)
      (hline : u.bbm.line = s.bbm.line) (hl : Linked (s.ltu.discovery ≠ none) Nobody u) :
      Sound (afterExchange (endOfPoll u)) := by
    obtain ⟨hcore, htxu, hltu, horu⟩ := endOfPoll_onlyCycle u
    refine afterPollOrCommand_sound h hx _ (by rw [hltu, hd]) ?_ (rest.congr hcore fun hw => by rwa [htxu])
      (hl.of_same (by rw [hltu]) horu)
    exact (congrArg (fun c => c.2.2.2.1) hcore).trans hline
  unfold pollEnded
  dsimp only
  split
  case h_1 o =>
    have frame := goodPoll_records n o (handedMark s mark) (clearExchange s)
    have rest : SurveyRest (clearExchange s) := h.rest.clearExchange _ _ _
    have linked : Linked (s.ltu.discovery ≠ none) Nobody (clearExchange s) := linked.of_same rfl rfl
    exact ended _ (rest.congr (surveyCore_records frame) fun hw => by rwa [frame.txu]) frame.discovery
      (by rw [frame.bbm]; rfl) (goodPoll_linked linked n o _ id)
  case h_2 =>
    have frame := failedPoll_records n (countFailedPoll (clearExchange s))
    have rest : SurveyRest (countFailedPoll (clearExchange s)) := h.rest.clearExchange _ _ _
    have linked : Linked (s.ltu.discovery ≠ none) Nobody (countFailedPoll (clearExchange s)) := linked.of_same rfl rfl
    exact ended _ (rest.congr (surveyCore_records frame) fun hw => by rwa [frame.txu]) frame.discovery
      (by rw [frame.bbm]; rfl) (failedPoll_linked linked n id)

theorem commandEnded_sound (h : Sound s) (hx : PollOrCommand s) (q : Nat) (o : CmdOutcome) :
    Sound (commandEnded q o s) := by
  have linked := hx.linked h
  have ended (u : State) (rest : SurveyRest u) (hd : u.ltu.discovery = s.ltu.discovery)
      (hline : u.bbm.line = s.bbm.line) (hl : Linked (s.ltu.discovery ≠ none) Nobody u) :
      Sound (afterExchange (endCommand q o u)) := by
    have frame := endCommand_commands q o u
    exact afterPollOrCommand_sound h hx _ (frame.discovery.trans hd) (by rw [frame.bbm, hline])
      (rest.congr (surveyCore_commands frame) fun hw => NoneWaiting.endCommand hw q o)
      (endCommand_linked hl q o fun _ _ => id)
  unfold commandEnded
  dsimp only
  split
  · exact ended _ (h.rest.clearExchange s.bbm.failedPolls _ s.bbm.mapState) rfl rfl (linked.of_same rfl rfl)
  · exact ended _ (h.rest.clearExchange s.bbm.failedPolls s.bbm.failedExchanges s.bbm.mapState) rfl rfl
      (linked.of_same rfl rfl)

/-- Whatever has happened at the end of an exchange, a sound bank stays sound (R96, R188). -/
theorem Sound.afterExchange (h : Sound s) : Sound (afterExchange s) := by
  refine afterExchange_sound h.rest (fun hw => ?_) fun _ => h.linked
  obtain ⟨k, hk, -⟩ := (pulseWanted_iff s).mp hw
  exact h.linked.weaken (fun _ n => (h.linked.aside n (toSurvey_reset k hk n)).isApart) fun _ => False.elim

/-- BROADCAST_END: nothing but the map and the bus has changed (R98). -/
theorem endBroadcast_sound (h : Sound s) : Sound (endBroadcast s) := by
  refine ⟨h.linked.resurvey rfl rfl ?_, h.rest.clearExchange _ _ _⟩
  rintro n ⟨d, hd, hn⟩
  refine h.linked.aside n ⟨d, hd, ?_⟩
  rcases hn with hn | hn | ⟨a, k, he⟩
  · exact .inl hn
  · exact .inr (.inl hn)
  · cases he

end Sys2Proof.Proofs

/-! ## The ends of discoveries, probes and attempts keep the bank sound (R91, R92, R188 to R191) -/

namespace Sys2Proof.Proofs

open Sys2Proof.Machine

variable {b : Prop} {A : Nat → Prop} {s t : State}

/-! ### The frame start leaves the survey alone (R71) -/

/-- What the survey reads outside the records is the same, and so are TXU's commands. -/
def SurveyKept (s t : State) : Prop := surveyCore t = surveyCore s ∧ t.txu = s.txu

theorem SurveyKept.trans {u : State} (h : SurveyKept s t) (k : SurveyKept t u) : SurveyKept s u :=
  ⟨k.1.trans h.1, k.2.trans h.2⟩

theorem surveyKept_records (k : RecordsOnly s t) : SurveyKept s t := ⟨surveyCore_records k, k.txu⟩

theorem surveyKept_link (k : OnlyLink s t) : SurveyKept s t := ⟨surveyCore_link k, k.txu⟩

theorem SurveyKept.foldl {α : Type} (f : State → α → State) (hf : ∀ u a, SurveyKept u (f u a)) (as : List α)
    (s : State) : SurveyKept s (as.foldl f s) := by
  induction as generalizing s with
  | nil => exact ⟨rfl, rfl⟩
  | cons a as ih => exact (hf s a).trans (ih _)

theorem Sound.kept (h : Sound s) (k : SurveyKept s t) (hl : Linked False (toSurvey s) t) : Sound t :=
  h.congr k.1 (fun hw => by rwa [k.2]) hl

/-- HTA's state and the map state are not the survey's. -/
theorem surveyKept_heater (x : Hta) (m : MapState) (s : State) :
    SurveyKept s { s with hta := x, bbm := { s.bbm with mapState := m } } := ⟨rfl, rfl⟩

theorem latchFeed_kept (f : Nat) (s : State) : SurveyKept s (latchFeed f s) := by
  have latched (k : ReportKind) (fs : List Field) (x : Hta) : SurveyKept s (submit k fs { s with hta := x }) :=
    (surveyKept_heater x s.bbm.mapState s).trans (surveyKept_link (submit_onlyLink k fs _))
  unfold latchFeed
  dsimp only
  split
  · exact latched _ _ _
  · split
    · exact latched _ _ _
    · exact surveyKept_heater _ s.bbm.mapState s

theorem grantFrame_kept (demands : List Nat) (s : State) : SurveyKept s (grantFrame demands s) := by
  have credited (m : Vector (List Nat) 48) (ts : List Nat) (u : State) :
      SurveyKept u (Config.allLockers.foldl (fun s n => creditAndStarve demands m ts n s) u) :=
    surveyKept_records (RecordsOnly.foldl _ (fun u n => creditAndStarve_records demands m ts n u) _ _)
  unfold grantFrame
  dsimp only
  exact SurveyKept.trans (surveyKept_heater _ .waiting s) (credited _ _ _)

theorem frameStart_kept (s : State) : SurveyKept s (frameStart s) := by
  have latched u : SurveyKept u (latchFeeds u) := SurveyKept.foldl _ (fun u f => latchFeed_kept f u) _ u
  have purged (ns : List Nat) u : SurveyKept u (ns.foldl (fun s n => purgeDone n s) u) :=
    surveyKept_records (RecordsOnly.foldl _ (fun u n => purgeDone_records n u) ns u)
  have suspended u : SurveyKept u (Config.allLockers.foldl (fun s n => suspendOrResume n s) u) :=
    surveyKept_records (RecordsOnly.foldl _ (fun u n => suspendOrResume_records n u) _ u)
  have inhibited u : SurveyKept u (Config.allLockers.foldl (fun s n => examineInhibit n s) u) :=
    surveyKept_records (RecordsOnly.foldl _ (fun u n => examineInhibit_records n u) _ u)
  have timed := surveyKept_heater { s.hta with frameTimer := some 0 } s.bbm.mapState s
  unfold frameStart
  dsimp only
  exact ((((timed.trans (latched _)).trans (purged _ _)).trans (suspended _)).trans (inhibited _)).trans
    (grantFrame_kept _ _)

/-! ### The end of a long operation and of a discovery (R128, R191) -/

/-- The end of the long operation touches the link and the place it frees. -/
theorem endLongOp_frame (st : Status) (s : State) :
    (endLongOp st s).ltu = s.ltu ∧ (endLongOp st s).oru = s.oru ∧ (endLongOp st s).bbm = s.bbm ∧
      (endLongOp st s).sst = s.sst := by
  unfold endLongOp
  split
  · exact ⟨rfl, rfl, rfl, rfl⟩
  · dsimp only
    split
    · rw [submitTagged_eq]
      exact ⟨rfl, rfl, rfl, rfl⟩
    · exact ⟨rfl, rfl, rfl, rfl⟩

/-- A bank at rest: no discovery, the bus free, no STORE. -/
structure AtRest (s : State) : Prop where
  linked : Linked False Nobody s
  discovery : s.ltu.discovery = none
  exchange : s.bbm.exchange = none
  line : s.bbm.line = .idle
  busy : s.sst.busy = false

theorem AtRest.sound (h : AtRest s) : Sound s :=
  sound_of_no_discovery h.linked h.discovery (by simp [h.exchange]) (fun hl => absurd h.line hl) (by simp [h.busy])

theorem AtRest.congr (h : AtRest s) (hl : t.ltu = s.ltu) (ho : t.oru = s.oru)
    (hb : t.bbm.exchange = s.bbm.exchange ∧ t.bbm.line = s.bbm.line) (hs : t.sst = s.sst) : AtRest t :=
  ⟨h.linked.of_same (by rw [hl]) ho, by rw [hl, h.discovery], hb.1.trans h.exchange, hb.2.trans h.line,
    by rw [hs, h.busy]⟩

theorem AtRest.onlyLink (h : AtRest s) (k : OnlyLink s t) : AtRest t :=
  h.congr k.ltu k.oru (by rw [k.bbm]; exact ⟨rfl, rfl⟩) k.sst

theorem AtRest.endLongOp (h : AtRest s) (st : Status) : AtRest (endLongOp st s) := by
  obtain ⟨hl, ho, hb, hs⟩ := endLongOp_frame st s
  exact h.congr hl ho (by rw [hb]; exact ⟨rfl, rfl⟩) hs

theorem AtRest.timed (h : AtRest s) (x : Hau) (l : Lki) : AtRest ({ s with hau := x }.withLki l) :=
  h.congr rfl rfl ⟨rfl, rfl⟩ rfl

theorem AtRest.startGap (h : AtRest s) : AtRest (startGap s) := by
  unfold Machine.startGap
  split <;> exact h.congr rfl rfl ⟨rfl, rfl⟩ rfl

theorem AtRest.beginCycle (h : AtRest s) : AtRest (beginCycle s) := by
  have began : AtRest (s.withBbm { s.bbm with cycle := .running, cursor := 0, pollGap := none }) :=
    h.congr rfl rfl ⟨rfl, rfl⟩ rfl
  unfold Machine.beginCycle
  dsimp only
  split
  · exact began.startGap
  · exact began

theorem AtRest.frameStart (h : AtRest s) : AtRest (frameStart s) := by
  obtain ⟨hcore, -⟩ := frameStart_kept s
  simp only [surveyCore, Prod.mk.injEq] at hcore
  obtain ⟨hd, -, hx, hl, -, hb⟩ := hcore
  exact ⟨frameStart_linked h.linked id, hd.trans h.discovery, hx.trans h.exchange, hl.trans h.line, hb.trans h.busy⟩

/-- A discovery ends on a free bus (R191). -/
theorem endDiscovery_sound (k : DiscoveryKind) (hl : Linked False A s) (hx : s.bbm.exchange = none)
    (hline : s.bbm.line = .idle) (hbusy : s.sst.busy = false) : Sound (endDiscovery k s) := by
  have reported := submit_onlyLink .started [.b1 k.code, .b1 s.ltu.answered, .b1 (countPhase s .absent),
    .b1 (countPhase s .offline), .b1 (countPhase s .quarantine), .b1 (countPhase s .service)] s
  have ended : AtRest ((reportStarted k s).withLtu { (reportStarted k s).ltu with discovery := none }) :=
    ⟨((hl.weaken False.elim fun _ => False.elim).onlyLink reported).of_same rfl rfl, rfl,
      by rw [← hx, ← reported.bbm]; rfl, by rw [← hline, ← reported.bbm]; rfl, by rw [← hbusy, ← reported.sst]; rfl⟩
  have cycled := ended.beginCycle
  unfold endDiscovery
  cases k
  · have framed := cycled.frameStart
    exact ((framed.timed _ _).endLongOp _).sound
  · exact (cycled.endLongOp _).sound

/-- While a discovery runs no STORE does (R127). -/
theorem SurveyRest.not_busy (h : SurveyRest s) (d : Discovery) (hd : s.ltu.discovery = some d) : s.sst.busy = false := by
  by_contra hb
  obtain ⟨op, hop, hk⟩ := h.busy (by simpa using hb)
  obtain ⟨op', hop', hk'⟩ := h.op d hd
  rw [hop] at hop'
  cases hop'
  simp [hk] at hk'

theorem endDiscoveryIfSurveyed_sound (h : Sound s) (hx : s.bbm.exchange = none) :
    Sound (endDiscoveryIfSurveyed s) := by
  unfold endDiscoveryIfSurveyed
  split
  case h_1 k hd =>
    split
    · exact endDiscovery_sound k h.linked hx (h.rest.probing _ hd rfl).1 (h.rest.not_busy _ hd)
    · exact h
  case h_2 => exact h

/-! ### The end of a probe (R190) -/

theorem probeEnded_sound (h : Sound s) (n a : Nat) (m : Bool) (hx : s.bbm.exchange = some (.probe n a m))
    (r : Option Observation) (mark : Bool) : Sound (probeEnded n r mark s) := by
  obtain ⟨hcur, k, hd⟩ := h.rest.probe n a m hx
  have later : Linked False (fun j => s.ltu.probeCursor ≤ j) s :=
    h.linked.weaken False.elim fun j hj => h.linked.aside j ⟨_, hd, .inr (.inl hj)⟩
  have here : (s.locker n).orderRef = none := (h.linked.aside n ⟨_, hd, .inr (.inr ⟨a, m, hx⟩)⟩).1
  have rest : SurveyRest (clearExchange s) := h.rest.clearExchange _ _ _
  have ended (u : State) (rest : SurveyRest u) (hx : u.bbm.exchange = none) (hd' : u.ltu.discovery = s.ltu.discovery)
      (hcur : u.ltu.probeCursor = s.ltu.probeCursor) (hl : Linked False (fun j => s.ltu.probeCursor ≤ j) u) :
      Sound (afterExchange (endOfProbe u)) := by
    refine Sound.afterExchange (endDiscoveryIfSurveyed_sound ⟨?_, rest.congr rfl id⟩ hx)
    refine hl.resurvey rfl rfl ?_
    rintro j ⟨d, hj, hn⟩
    refine hl.aside j ?_
    have hdj : d = ⟨k, .probing⟩ := Option.some.inj ((hj.symm.trans hd').trans hd)
    rcases hn with hn | hn | ⟨_, _, he⟩
    · rw [hdj] at hn
      cases hn
    · exact hcur ▸ hn
    · exact absurd (hx.symm.trans he) (by simp)
  unfold probeEnded
  dsimp only
  split
  case h_1 o =>
    have frame := (modLocker_records n (Locker.observe o) (clearExchange s)).trans
      (settleProbed_records n o.heaterOn (handedMark s mark) _)
    have observed : Linked False (fun j => s.ltu.probeCursor ≤ j) ((clearExchange s).modLocker n (Locker.observe o)) :=
      modLocker_linked (s := clearExchange s) (later.of_same rfl rfl) n (Locker.observe o) rfl
    have href : (((clearExchange s).modLocker n (Locker.observe o)).locker n).orderRef = none := by
      by_cases hn : n < 48
      · rw [State.modLocker_same _ _ _ hn]
        exact here
      · rw [State.locker_out _ _ (by omega)]
        rfl
    have settled := settleProbed_linked observed id n o.heaterOn (handedMark s mark) (Nat.not_le.mpr hcur) href
    refine ended _ ?_ ?_ frame.discovery frame.probeCursor (settled.of_same rfl rfl)
    · exact (rest.congr (surveyCore_records frame) fun hw => by rwa [frame.txu]).congr rfl id
    · exact (congrArg Bbm.exchange frame.bbm).trans rfl
  case h_2 =>
    have frame := probeFailed_records n (countFailedPoll (clearExchange s))
    have rest : SurveyRest (countFailedPoll (clearExchange s)) := h.rest.clearExchange _ _ _
    have later : Linked False (fun j => s.ltu.probeCursor ≤ j) (countFailedPoll (clearExchange s)) := later.of_same rfl rfl
    exact ended _ (rest.congr (surveyCore_records frame) fun hw => by rwa [frame.txu])
      ((congrArg Bbm.exchange frame.bbm).trans rfl) frame.discovery frame.probeCursor
      (probeFailed_linked later id n (Nat.not_le.mpr hcur) here)

/-! ### Attempts (R91, R92) -/

theorem SurveyRest.idle_of_exchange (h : SurveyRest s) (x : Exchange) (hx : s.bbm.exchange = some x) :
    s.bbm.line = .idle := by
  by_contra hl
  rw [(h.line hl).1] at hx
  cases hx

/-- A poll or command is repeated. -/
theorem Sound.repeats (h : Sound s) (hx : PollOrCommand s) (y : Exchange) (hy : ∀ n a k, y ≠ .probe n a k) (f : BusFrame) :
    Sound ((s.withBbm { s.bbm with exchange := some y }).emit (.bus f)) := by
  obtain ⟨x, hsome⟩ : ∃ x, s.bbm.exchange = some x := by
    rcases hx with ⟨n, a, m, hx⟩ | ⟨n, q, a, f, hx⟩ <;> exact ⟨_, hx⟩
  refine h.begin y s.bbm.mapState s.bbm.lastWinner s.bbm.cursor f (h.rest.idle_of_exchange x hsome) hy
    fun d hd hst => ?_
  obtain ⟨k, hk, -⟩ := (pulseWanted_iff s).mp (hx.waits h.rest d hd)
  rw [hd] at hk
  cases hk
  cases hst

/-- A probe is repeated. -/
theorem Sound.probesAgain (h : Sound s) (n a a' : Nat) (m : Bool) (hx : s.bbm.exchange = some (.probe n a m)) :
    Sound ((s.withBbm { s.bbm with exchange := some (.probe n a' m) }).emit (.bus (pollFrame n))) := by
  suffices base : Sound (s.withBbm { s.bbm with exchange := some (.probe n a' m) }) from
    base.onlyLink (emit_onlyLink _ _)
  obtain ⟨hcur, k, hd⟩ := h.rest.probe n a m hx
  have hline := h.rest.idle_of_exchange _ hx
  refine ⟨h.linked.resurvey rfl rfl ?_, h.rest.op, fun _ _ _ => ⟨hline, by simp, by simp⟩, h.rest.pulsed, h.rest.quiet,
    fun j b c he => ?_, fun hl => absurd hline hl, h.rest.busy⟩
  · rintro j ⟨d, hj, hn⟩
    refine h.linked.aside j ⟨d, hj, ?_⟩
    rcases hn with hn | hn | ⟨b, c, he⟩
    · exact .inl hn
    · exact .inr (.inl hn)
    · simp only [State.withBbm, Option.some.injEq, Exchange.probe.injEq] at he
      exact .inr (.inr ⟨a, m, by rw [hx, he.1]⟩)
  · simp only [State.withBbm, Option.some.injEq, Exchange.probe.injEq] at he
    exact ⟨he.1 ▸ hcur, k, hd⟩

theorem attemptFailed_sound (h : Sound s) : Sound (attemptFailed s) := by
  unfold attemptFailed
  split
  case h_1 n a m hx =>
    have poll : PollOrCommand s := .inl ⟨n, a, m, hx⟩
    split
    · exact h.repeats poll _ (by simp) _
    · exact pollEnded_sound h poll n none m
  case h_2 n a m hx =>
    split
    · exact h.probesAgain n a _ m hx
    · exact probeEnded_sound h n a m hx none m
  case h_3 n q a f hx =>
    have command : PollOrCommand s := .inr ⟨n, q, a, f, hx⟩
    split
    · exact h.repeats command _ (by simp) _
    · exact commandEnded_sound h command q _
  case h_4 => exact h

theorem attemptSucceeded_sound (h : Sound s) (r : Reply) : Sound (attemptSucceeded r s) := by
  unfold attemptSucceeded
  split
  case h_1 n a m o hx => exact pollEnded_sound h (.inl ⟨n, a, m, hx⟩) n _ m
  case h_2 n a m hx _ => exact pollEnded_sound h (.inl ⟨n, a, m, hx⟩) n _ m
  case h_3 n a m o hx => exact probeEnded_sound h n a m hx _ m
  case h_4 n a m hx _ => exact probeEnded_sound h n a m hx _ m
  case h_5 n q a f hx => exact commandEnded_sound h (.inr ⟨n, q, a, f, hx⟩) q _
  case h_6 => exact h

end Sys2Proof.Proofs

/-! ## Every request keeps the bank sound (chapters 01, 02, 06, 09, 10) -/

namespace Sys2Proof.Proofs

open Sys2Proof.Machine

variable {b : Prop} {A : Nat → Prop} {s t : State}

theorem not_discovering_iff (s : State) : s.discovering = false ↔ s.ltu.discovery = none := by
  simp [State.discovering]

theorem Sound.foldl {α : Type} (f : State → α → State) (hf : ∀ u a, Sound u → Sound (f u a)) (as : List α)
    (h : Sound s) : Sound (as.foldl f s) := by
  induction as generalizing s with
  | nil => exact h
  | cons a as ih => exact ih (hf s a h)

/-- An operation over records and orders, where no discovery runs. -/
theorem Sound.recordsFree (h : Sound s) (hd : s.ltu.discovery = none) (k : RecordsOnly s t)
    (hl : Linked False Nobody s → Linked False Nobody t) : Sound t :=
  h.records k ((hl (h.linked.weaken False.elim fun _ => False.elim)).weaken False.elim
    fun n hn => absurd hn (toSurvey_of_none hd n))

/-- A change of TXU's commands, of the panel or of the settings, where no discovery runs. -/
theorem Sound.elsewhere (h : Sound s) (hd : s.ltu.discovery = none) (hl : t.ltu = s.ltu) (ho : t.oru = s.oru)
    (hb : t.bbm = s.bbm) (hop : t.txu.longOp = s.txu.longOp) (hs : t.sst.busy = s.sst.busy) : Sound t :=
  h.of_no_discovery hd (by rw [hl, hd]) (by rw [hb]; exact ⟨rfl, rfl⟩) hop hs (h.linked.of_same (by rw [hl]) ho)

/-- A change of the settings but of the STORE in progress. -/
theorem Sound.settings (h : Sound s) (x : Sst) (hx : x.busy = s.sst.busy) : Sound (s.withSst x) :=
  h.congr (by simp [surveyCore, State.withSst, hx]) id (h.linked.of_same rfl rfl)

/-! ### Door requests (R10) -/

/-- A WAITING entry is added and the record is given its phase, after which a command may win the bus. -/
theorem takeDoorCommand_sound (h : Sound s) (hd : s.ltu.discovery = none) (r : CmdRequest) (tag n : Nat) (d : Door)
    (enter : State → State) (hk : ∀ u, RecordsOnly u (enter u))
    (he : ∀ u, u.ltu = s.ltu → Linked False Nobody u → Linked False Nobody (enter u)) :
    Sound (takeDoorCommand r tag n d enter s) := by
  unfold takeDoorCommand
  split
  · exact h.answer _ _ _ _
  · have added : Sound (addEntry .server (some tag) r n (some d) none s) := h.elsewhere hd rfl rfl rfl rfl rfl
    exact chooseBus_sound (added.recordsFree hd (hk _) (he _ rfl))

/-- A record enters a transient phase; an order it refers to stays where it may stand. -/
theorem enterTransient_linked (h : Linked b A s) (n : Nat) (l : Locker)
    (hp : (s.locker n).phase ≠ .free) (href : l.orderRef = (s.locker n).orderRef)
    (hhold : (s.locker n).orderRef ≠ none → l.mayHold) (hb : ¬ b) (hA : ¬ A n) : Linked b A (s.setLocker n l) :=
  setLocker_linked h n l href (fun hr => hhold (href ▸ hr)) (fun c hc => absurd (h.free c n hc).1 hp)
    (fun k => absurd k hb) fun k => absurd k hA

theorem enterLoading_linked (h : Linked False Nobody s) (n : Nat) (p : Phase) (hp : (s.locker n).phase ≠ .free)
    (hm : p ∈ [.loading, .pickup]) : Linked False Nobody (s.modLocker n (Locker.enter p)) := by
  rw [State.modLocker_eq]
  refine enterTransient_linked h n _ hp ?_ (fun _ => mayHold_of_phase ?_) id id
  · rw [enter_orderRef, if_neg]
    rintro rfl
    simp at hm
  · simp only [List.mem_cons, List.not_mem_nil, or_false] at hm
    rcases hm with rfl | rfl <;> simp

theorem enterClearing_linked (h : Linked False Nobody s) (n : Nat)
    (hp : (s.locker n).phase ∈ [.condemned, .quarantine, .service]) : Linked False Nobody (enterClearing n s) := by
  unfold enterClearing
  rw [State.modLocker_eq]
  refine enterTransient_linked h n _ ?_ ?_ (fun hr => .inr (.inr ⟨?_, ?_⟩)) id id
  · intro hf
    simp [hf] at hp
  · exact (enter_orderRef _ _).trans (if_neg (by simp))
  · simp
  · simp only [List.mem_cons, List.not_mem_nil, or_false] at hp
    rcases hp with hp | hp | hp
    · simp [hp]
    · exact absurd (h.ref_none n (by simp [Locker.mayHold, hp])) hr
    · simp [hp]

/-! ### Requests that name an order (chapters 01 to 03) -/

theorem withPlacedOrder_sound (h : Sound s) (k : Kind) (tag id : Nat) (rest : Nat → State → State)
    (hr : s.ltu.discovery = none → ∀ n, Sound (rest n s)) : Sound (withPlacedOrder k tag id rest s) := by
  unfold withPlacedOrder
  split
  · exact h.answer _ _ _ _
  case isFalse hd =>
    have hd := (not_discovering_iff s).mp (by simpa using hd)
    split
    · exact h.answer _ _ _ _
    · split
      · exact h.answer _ _ _ _
      · exact hr hd _

theorem checkLoadOpen_none (l : Locker) (h : checkLoadOpen l = none) : l.phase = .reserved := by
  by_contra hp
  simp only [checkLoadOpen] at h
  split at h <;> simp at h

theorem checkRelease_none (s : State) (l : Locker) (h : checkRelease s l = none) : l.phase = .holding := by
  by_contra hp
  simp only [checkRelease] at h
  repeat' split at h
  all_goals simp at h

theorem checkClear_none (l : Locker) (h : checkClear l = none) : l.phase = .condemned := by
  by_contra hp
  simp only [checkClear] at h
  split at h <;> simp at h

theorem checkClearLocker_none (l : Locker) (h : checkClearLocker l = none) : l.phase ∈ [.quarantine, .service] := by
  by_contra hp
  simp only [List.mem_cons, List.not_mem_nil, or_false, not_or] at hp
  obtain ⟨hq, hs⟩ := hp
  simp only [checkClearLocker, hq, hs, false_and, or_false] at h
  split at h <;> simp at h

theorem serveLoadOpen_sound (h : Sound s) (tag id : Nat) : Sound (serveLoadOpen tag id s) := by
  refine withPlacedOrder_sound h _ _ _ _ fun hd n => ?_
  split
  · exact h.answer _ _ _ _
  case h_2 hc =>
    refine takeDoorCommand_sound h hd _ _ _ _ _ (fun u => modLocker_records _ _ u) fun u hu hl => ?_
    have hl' : u.locker n = s.locker n := by simp only [State.locker, hu]
    exact enterLoading_linked hl n _ (by simp [hl', checkLoadOpen_none _ hc]) (by simp)

theorem serveRelease_sound (h : Sound s) (tag id : Nat) : Sound (serveRelease tag id s) := by
  refine withPlacedOrder_sound h _ _ _ _ fun hd n => ?_
  split
  · exact h.answer _ _ _ _
  case h_2 hc =>
    refine takeDoorCommand_sound h hd _ _ _ _ _ (fun u => modLocker_records _ _ u) fun u hu hl => ?_
    have hl' : u.locker n = s.locker n := by simp only [State.locker, hu]
    exact enterLoading_linked hl n _ (by simp [hl', checkRelease_none _ _ hc]) (by simp)

theorem serveClear_sound (h : Sound s) (tag id : Nat) : Sound (serveClear tag id s) := by
  refine withPlacedOrder_sound h _ _ _ _ fun hd n => ?_
  split
  · exact h.answer _ _ _ _
  case h_2 hc =>
    refine takeDoorCommand_sound h hd _ _ _ _ _ (fun u => modLocker_records _ _ u) fun u hu hl => ?_
    have hl' : u.locker n = s.locker n := by simp only [State.locker, hu]
    exact enterClearing_linked hl n (by simp [hl', checkClear_none _ hc])

/-- A new record of an unknown id joins the table (R40). -/
theorem admitOrder_linked (h : Linked b A s) (o : Order) (h0 : o.id ≠ 0) (hn : s.order? o.id = none)
    (hl : o.locker = none) : Linked b A (admitOrder o s) ∧ (o.id, none) ∈ orderLinks (admitOrder o s) := by
  have links : orderLinks (admitOrder o s) = orderLinks s ++ [(o.id, none)] := by
    simp [orderLinks, admitOrder, hl]
  have fresh : ∀ x ∈ orderLinks s, x.1 ≠ o.id := by
    intro x hx he
    obtain ⟨o', ho', -⟩ := h.order_of_link o.id x.2 (he ▸ hx)
    rw [hn] at ho'
    cases ho'
  have old : ∀ x ∈ orderLinks (admitOrder o s), x ∈ orderLinks s ∨ x = (o.id, none) := by
    intro x hx
    rw [links] at hx
    simpa using hx
  have sub : ∀ x ∈ orderLinks s, x ∈ orderLinks (admitOrder o s) := by
    intro x hx
    rw [links]
    exact List.mem_append_left _ hx
  refine ⟨⟨?_, fun x hx => ?_, fun x hx n hn => ?_, fun n id hn => ⟨(h.back n id hn).1, sub _ (h.back n id hn).2⟩,
    fun id hid => sub _ (h.queued id hid), h.once, fun c n hn => ?_, h.apart, h.aside⟩, ?_⟩
  · rw [links, List.map_append, List.nodup_append]
    refine ⟨h.ids, by simp, fun a ha c hc => ?_⟩
    obtain ⟨x, hx, rfl⟩ := List.mem_map.mp ha
    have hc : c = o.id := by simpa using hc
    rw [hc]
    exact fresh x hx
  · rcases old x hx with hx | rfl
    · exact h.named x hx
    · exact h0
  · rcases old x hx with hx | rfl
    · exact h.forth x hx n hn
    · cases hn
  · have : (admitOrder o s).freeList c = s.freeList c := by cases c <;> rfl
    exact h.free c n (this ▸ hn)
  · rw [links]
    simp

/-- A pending order joins the tail of the queue (R40). -/
theorem enqueue_linked (h : Linked b A s) (id : Nat) (hx : (id, none) ∈ orderLinks s) (hq : id ∉ s.oru.queue) :
    Linked b A { s with oru := { s.oru with queue := s.oru.queue ++ [id] } } := by
  have lists c : ({ s with oru := { s.oru with queue := s.oru.queue ++ [id] } } : State).freeList c = s.freeList c := by
    cases c <;> rfl
  refine ⟨h.ids, h.named, h.forth, h.back, fun i hi => ?_, ?_, fun c n hn => h.free c n (lists c ▸ hn), h.apart, h.aside⟩
  · rcases List.mem_append.mp hi with hi | hi
    · exact h.queued i hi
    · have hi : i = id := by simpa using hi
      exact hi ▸ hx
  · rw [List.nodup_append]
    refine ⟨h.once, by simp, fun a ha c hc => ?_⟩
    have hc : c = id := by simpa using hc
    rw [hc]
    rintro rfl
    exact hq ha

theorem checkBook_none (s : State) (id code p : Nat) (h : checkBook s id code p = none) :
    id ≠ 0 ∧ s.order? id = none := by
  unfold checkBook at h
  split at h
  · cases h
  case isFalse h0 =>
    split at h
    · cases h
    case isFalse hn => exact ⟨fun hz => h0 (.inl hz), by simpa using hn⟩

theorem bookAllocate_sound (h : Sound s) (hd : s.ltu.discovery = none) (tag : Nat) (o : Order) (c : Bool)
    (h0 : o.id ≠ 0) (hn : s.order? o.id = none) (hl : o.locker = none) : Sound (bookAllocate tag o c s) := by
  have admitted (u : Linked False Nobody s) := admitOrder_linked u o h0 hn hl
  unfold bookAllocate
  split
  case h_1 n ha =>
    refine Sound.answer ?_ _ _ _ _
    refine h.recordsFree hd ((oru_records _ s).trans (join_records _ _ _)) fun hs => ?_
    exact join_linked (admitted hs).1 o.id n (admitted hs).2 (allocate_free hs _ n ha)
  case h_2 =>
    split
    · refine Sound.answer ?_ _ _ _ _
      refine h.recordsFree hd (oru_records _ s) fun hs => ?_
      refine enqueue_linked (admitted hs).1 o.id (admitted hs).2 fun hq => ?_
      obtain ⟨o', ho', -⟩ := hs.order_of_link _ _ (hs.queued o.id hq)
      rw [hn] at ho'
      cases ho'
    · exact h.answer _ _ _ _

theorem serveBook_sound (h : Sound s) (tag id code cls p bu de : Nat) : Sound (serveBook tag id code cls p bu de s) := by
  unfold serveBook
  split
  · exact h.answer _ _ _ _
  case isFalse hd =>
    have hd := (not_discovering_iff s).mp (by simpa using hd)
    split
    · exact h.answer _ _ _ _
    · split
      · exact h.answer _ _ _ _
      case h_2 hc =>
        obtain ⟨h0, hn⟩ := checkBook_none _ _ _ _ hc
        exact bookAllocate_sound h hd _ _ _ h0 hn rfl

theorem cancelPlaced_sound (h : Sound s) (hd : s.ltu.discovery = none) (tag id n : Nat)
    (hx : (id, some n) ∈ orderLinks s) : Sound (cancelPlaced tag id n s) := by
  have href : ((removeOrder id s).locker n).orderRef = none :=
    removeOrder_ref h.linked id n (h.linked.forth _ hx n rfl).2
  have removed (hs : Linked False Nobody s) : Linked False Nobody (removeOrder id s) := removeOrder_linked hs id
  have condemned (c : Cause) : Sound (condemn id c s) :=
    h.recordsFree hd (condemn_records _ _ s) fun hs => condemn_linked hs id c
  unfold cancelPlaced
  dsimp only
  split
  · refine Sound.answer ?_ _ _ _ _
    refine h.recordsFree hd (((removeOrder_records _ s).trans (moveToUnlessExcluded_records _ _ _)).trans
      (announceFree_records _ _)) fun hs => announceFree_linked ?_ n
    exact moveTo_empty_linked (removed hs) _ n href False.elim False.elim
  · exact (condemned _).answer _ _ _ _
  · exact h.answer _ _ _ _
  · exact h.answer _ _ _ _
  case h_5 hp =>
    split
    · refine Sound.answer ?_ _ _ _ _
      refine h.recordsFree hd ((removeOrder_records _ s).trans (modLocker_records _ _ _)) fun hs => ?_
      rw [State.modLocker_eq]
      exact enterTransient_linked (removed hs) n _ (by simp [removeOrder_phase, hp]) rfl (fun hr => absurd href hr) not_false
        not_false
    · exact (condemned _).answer _ _ _ _
    · exact h.answer _ _ _ _
    · exact h.answer _ _ _ _
    · exact h.answer _ _ _ _
  · exact h.answer _ _ _ _

theorem serveCancel_sound (h : Sound s) (tag id : Nat) : Sound (serveCancel tag id s) := by
  unfold serveCancel
  split
  · exact h.answer _ _ _ _
  case isFalse hd =>
    have hd := (not_discovering_iff s).mp (by simpa using hd)
    split
    · exact h.answer _ _ _ _
    case h_2 o ho =>
      split
      · exact (h.recordsFree hd (removeOrder_records _ s) fun hs => removeOrder_linked hs id).answer _ _ _ _
      case h_2 n hn => exact cancelPlaced_sound h hd tag id n (hn ▸ orderLinks_of_order id o ho)

theorem serveExtend_sound (h : Sound s) (tag id sec : Nat) : Sound (serveExtend tag id sec s) := by
  have changed (i : Nat) (f : Order → Order) (hf : ∀ o, (f o).id = o.id ∧ (f o).locker = o.locker) :
      Sound (s.modOrder i f) :=
    h.records (modOrder_records _ _ s) (modOrder_linked h.linked i f fun o _ _ => hf o)
  unfold serveExtend
  split
  · exact h.answer _ _ _ _
  · split
    · exact h.answer _ _ _ _
    · split
      · exact h.answer _ _ _ _
      · split
        · exact h.answer _ _ _ _
        · split
          · exact h.answer _ _ _ _
          · unfold applyExtend
            dsimp only
            split
            all_goals
              refine Sound.answer (changed _ _ ?_) _ _ _ _
              exact fun _ => ⟨rfl, rfl⟩

theorem serveQueryOrder_sound (h : Sound s) (tag id : Nat) : Sound (serveQueryOrder tag id s) := by
  unfold serveQueryOrder
  split
  · exact h.answer _ _ _ _
  · split <;> exact h.answer _ _ _ _

/-! ### Requests of class MODULE (chapter 06) -/

theorem servePosted_sound (h : Sound s) (k : Kind) (tag n : Nat) (ok : Bool) (c : PostedContent) (st : Status) :
    Sound (servePosted k tag n ok c st s) := by
  unfold servePosted
  split
  · exact h.answer _ _ _ _
  case isFalse hd =>
    have hd := (not_discovering_iff s).mp (by simpa using hd)
    repeat' split
    all_goals try exact h.answer _ _ _ _
    have added : Sound (addPosted n tag c s) := h.elsewhere hd rfl rfl rfl rfl rfl
    exact chooseBus_sound (added.answer _ _ _ _)

theorem serveModuleRead_sound (h : Sound s) (tag n item : Nat) : Sound (serveModuleRead tag n item s) := by
  unfold serveModuleRead
  split
  · exact h.answer _ _ _ _
  case isFalse hd =>
    have hd := (not_discovering_iff s).mp (by simpa using hd)
    repeat' split
    all_goals try exact h.answer _ _ _ _
    exact chooseBus_sound (h.elsewhere hd rfl rfl rfl rfl rfl)

theorem endConfirmed_sound (h : Sound s) (e : Entry) (o : CmdOutcome) (ho : o ≠ .noReply) : Sound (endConfirmed e o s) := by
  refine h.congr (surveyCore_commands (endConfirmed_commands e o s)) (fun hw => ?_)
    (completeEntry_linked (lockerCommandEnd_linked h.linked e o fun k => absurd k ho) e o)
  refine ⟨fun x hx => hw.1 x ?_, fun p hp => hw.2 p (by rwa [endConfirmed_posted] at hp)⟩
  rw [endConfirmed_table] at hx
  exact List.mem_of_mem_filter hx

theorem serveAbort_sound (h : Sound s) (tag target : Nat) : Sound (serveAbort tag target s) := by
  unfold serveAbort
  split
  · split
    · exact (endConfirmed_sound h _ .aborted (by simp)).answer _ _ _ _
    · exact h.answer _ _ _ _
  · split <;> exact h.answer _ _ _ _

/-! ### Tables, parameters, locker requests (chapters 01, 09) -/

theorem cycleAfterLayoutWrite_kept (s : State) : SurveyKept s (cycleAfterLayoutWrite s) := by
  unfold cycleAfterLayoutWrite
  split
  · obtain ⟨hcore, htxu, -⟩ := startGap_onlyCycle s
    exact ⟨hcore, htxu⟩
  · exact ⟨rfl, rfl⟩

theorem cycleAfterLayoutWrite_linked (h : Linked b A s) : Linked b A (cycleAfterLayoutWrite s) := by
  unfold cycleAfterLayoutWrite
  split
  · obtain ⟨-, -, hl, ho⟩ := startGap_onlyCycle s
    exact h.of_same (by rw [hl]) ho
  · exact h

theorem writeLayout_sound (h : Sound s) (tag n p c f w : Nat) : Sound (writeLayout tag n p c f w s) := by
  unfold writeLayout
  split
  · exact h.answer _ _ _ _
  · split
    · split
      · exact h.answer _ _ _ _
      · split
        · exact h.answer _ _ _ _
        case h_2 hc =>
          have written (x : Settings) : Sound (s.withWorking x) := h.settings _ rfl
          have taken (x : Settings) (e : LayoutEntry) (he : checkLayout (s.locker n) e.populated = none) :
              Sound (layoutAccepted n e (s.withWorking x)) :=
            (written x).records (layoutAccepted_records n e _) (layoutAccepted_linked (written x).linked id n e he)
          have cycled (u : State) (hu : Sound u) : Sound (cycleAfterLayoutWrite u) :=
            hu.kept (cycleAfterLayoutWrite_kept u) (cycleAfterLayoutWrite_linked hu.linked)
          exact chooseBus_sound ((cycled _ (taken _ _ hc)).answer _ _ _ _)
    · exact h.answer _ _ _ _

theorem serveTableWrite_sound (h : Sound s) (tag i : Nat) (r : TableRecord) : Sound (serveTableWrite tag i r s) := by
  have written (x : Settings) : Sound (s.withWorking x) := h.settings _ rfl
  unfold serveTableWrite
  split
  · exact writeLayout_sound h _ _ _ _ _ _
  · unfold writeProfile
    repeat' split
    all_goals first | exact h.answer _ _ _ _ | exact (written _).answer _ _ _ _
  · unfold writeFeed
    repeat' split
    all_goals first | exact h.answer _ _ _ _ | exact (written _).answer _ _ _ _

theorem serveTableRead_sound (h : Sound s) (tag x i : Nat) : Sound (serveTableRead tag x i s) := by
  unfold serveTableRead
  split <;> exact h.answer _ _ _ _

theorem serveParamGet_sound (h : Sound s) (tag p : Nat) : Sound (serveParamGet tag p s) := by
  unfold serveParamGet
  split <;> exact h.answer _ _ _ _

theorem serveParamSet_sound (h : Sound s) (tag p v : Nat) : Sound (serveParamSet tag p v s) := by
  unfold serveParamSet
  split
  · exact h.answer _ _ _ _
  · split
    · unfold writeStrictHold
      dsimp only
      split
      · exact h.answer _ _ _ _
      · have written (x : Bool) : Sound (s.withSst { s.sst with strictHold := x }) := h.settings _ rfl
        exact (written _).answer _ _ _ _
    · have written (x : Params) : Sound (s.setParams x) := h.settings _ rfl
      exact Sound.answer ((written _).records (paramActs_records _ _ _) (paramActs_linked (written _).linked _ _)) _ _ _ _

theorem checkNamedLocker_none (s : State) (n : Nat) (h : checkNamedLocker s n = none) : s.ltu.discovery = none := by
  unfold checkNamedLocker at h
  split at h
  · cases h
  · split at h
    · cases h
    case isFalse hd => exact (not_discovering_iff s).mp (by simpa using hd)

theorem serveServiceOn_sound (h : Sound s) (tag n : Nat) : Sound (serveServiceOn tag n s) := by
  unfold serveServiceOn
  split
  · exact h.answer _ _ _ _
  case h_2 hc =>
    have hd := checkNamedLocker_none s n hc
    split
    · refine Sound.answer ?_ _ _ _ _
      split
      · exact h
      · exact h.recordsFree hd (moveTo_records _ _ s) fun hs =>
          moveTo_order_linked hs .service n (by simp) False.elim False.elim
    · exact h.answer _ _ _ _

theorem serveServiceOff_sound (h : Sound s) (tag n : Nat) : Sound (serveServiceOff tag n s) := by
  unfold serveServiceOff
  split
  · exact h.answer _ _ _ _
  case h_2 hc =>
    have hd := checkNamedLocker_none s n hc
    dsimp only
    split
    · exact h.answer _ _ _ _
    case isFalse hp =>
      split
      · exact h.answer _ _ _ _
      · refine Sound.answer ?_ _ _ _ _
        refine h.recordsFree hd ((modLocker_records _ _ s).trans (moveTo_records _ _ _)) fun hs => ?_
        refine moveTo_empty_linked (modLocker_linked hs n _ rfl) .purging n ?_ False.elim False.elim
        have hr : (s.locker n).orderRef = none := by simpa using (not_or.mp hp).2
        by_cases hn : n < 48
        · rw [State.modLocker_same _ _ _ hn]
          exact hr
        · rw [State.locker_out _ _ (by omega)]
          rfl

theorem serveServiceUnlatch_sound (h : Sound s) (tag n d : Nat) : Sound (serveServiceUnlatch tag n d s) := by
  unfold serveServiceUnlatch
  split
  · exact h.answer _ _ _ _
  · split
    · exact h.answer _ _ _ _
    case h_2 hc =>
      split
      · exact h.answer _ _ _ _
      · exact takeDoorCommand_sound h (checkNamedLocker_none s n hc) _ _ _ _ _ (fun u => modLocker_records _ _ u)
          fun u _ hl => modLocker_linked hl n _ rfl

theorem serveClearLocker_sound (h : Sound s) (tag n : Nat) : Sound (serveClearLocker tag n s) := by
  unfold serveClearLocker
  split
  · exact h.answer _ _ _ _
  case h_2 hd =>
    split
    · exact h.answer _ _ _ _
    case h_2 hc =>
      refine takeDoorCommand_sound h (checkNamedLocker_none s n hd) _ _ _ _ _ (fun u => modLocker_records _ _ u)
        fun u hu hl => enterClearing_linked hl n ?_
      have hl' : u.locker n = s.locker n := by simp only [State.locker, hu]
      rw [hl']
      exact List.mem_cons_of_mem _ (checkClearLocker_none _ hc)

/-! ### Long operations (R127, R182, R188, R194, R196) -/

/-- No long operation is in progress: no discovery, the line IDLE, no STORE. -/
theorem Sound.no_longOp (h : Sound s) (hop : s.txu.longOp = none) :
    s.ltu.discovery = none ∧ s.bbm.line = .idle ∧ s.sst.busy = false := by
  refine ⟨?_, ?_, ?_⟩
  · by_contra hd
    obtain ⟨d, hd⟩ := Option.ne_none_iff_exists'.mp hd
    obtain ⟨op, hk, -⟩ := h.rest.op d hd
    rw [hop] at hk
    cases hk
  · by_contra hl
    obtain ⟨-, op, hk, -⟩ := h.rest.line hl
    rw [hop] at hk
    cases hk
  · by_contra hb
    obtain ⟨op, hk, -⟩ := h.rest.busy (by simpa using hb)
    rw [hop] at hk
    cases hk

theorem checkLongOp_none (s : State) (tag : Nat) (h : checkLongOp s tag = none) : s.txu.longOp = none := by
  unfold checkLongOp at h
  split at h
  · cases h
  case isFalse hop => simpa using hop

/-- A bus without discovery has no probe on it. -/
theorem SurveyRest.no_probe (h : SurveyRest s) (hd : s.ltu.discovery = none) (n a : Nat) (m : Bool) :
    s.bbm.exchange ≠ some (.probe n a m) := by
  intro hx
  obtain ⟨-, k, hk⟩ := h.probe n a m hx
  rw [hd] at hk
  cases hk

theorem serveStore_sound (h : Sound s) (tag : Nat) : Sound (serveStore tag s) := by
  unfold serveStore
  split
  · exact h.answer _ _ _ _
  case h_2 hc =>
    obtain ⟨hd, hline, hbusy⟩ := h.no_longOp (checkLongOp_none s tag hc)
    refine sound_of_no_discovery (A := Nobody) ((h.linked.weaken False.elim fun _ => False.elim).of_same rfl rfl) hd
      (h.rest.no_probe hd) (fun hl => absurd hline hl) fun _ => ⟨_, rfl, rfl⟩

theorem serveBankReset_sound (h : Sound s) (tag : Nat) : Sound (serveBankReset tag s) := by
  unfold serveBankReset
  split
  · exact h.answer _ _ _ _
  case h_2 hc =>
    obtain ⟨hd, hline, hbusy⟩ := h.no_longOp (checkLongOp_none s tag hc)
    have hd' : (acceptLongOp kBankReset .bankReset tag s).ltu.discovery = none := hd
    refine startPulse_sound ⟨?_, by simp [hd'], ⟨_, rfl, by simp⟩, by simp [hd'], hbusy⟩
    exact ((h.linked.weaken (A' := fun _ => ∃ st, s.ltu.discovery = some ⟨.powerOn, st⟩)
      (b' := ∃ st, s.ltu.discovery = some ⟨.rescan, st⟩) (by simp [hd]) (by simp [hd]))).of_same rfl rfl

/-- The pulse request of a discovery that has set the bank aside (R188). -/
theorem pulseIfIdle_sound (ready : PulseReady s) (h : s.bbm.exchange ≠ none → Sound s) (hw : pulseWanted s = true) :
    Sound (pulseIfIdle s) := by
  unfold pulseIfIdle
  rw [hw, Bool.true_and]
  split
  · exact startPulse_sound ready
  case isFalse hx => exact h (by simpa using hx)

theorem anyPlaced_false (h : Sound s) (hp : anyPlaced s = false) (n : Nat) : (s.locker n).orderRef = none := by
  cases hr : (s.locker n).orderRef with
  | none => rfl
  | some id =>
    obtain ⟨o, ho, hl⟩ := h.linked.order_of_link _ _ (h.linked.back n id hr).2
    have := List.any_eq_false.mp hp o (s.order_mem id o ho)
    unfold Order.isPending at this
    unfold Order.locker at hl
    split at hl
    · cases hl
    case h_2 hs => simp [hs] at this

/-- A RESCAN has taken the long-operation place and stopped the poll cycle; the bank is set aside next (R188). -/
def rescanTaken (tag : Nat) (s : State) : State :=
  ((acceptLongOp kRescan .rescan tag s).withLtu
    { s.ltu with discovery := some ⟨.rescan, .reset⟩, probeCursor := 0, probing := none, answered := 0 }).withBbm
    { s.bbm with cycle := .stopped, pollGap := none }

theorem beginDiscovery_rescan (tag : Nat) (s : State) :
    beginDiscovery .rescan (acceptLongOp kRescan .rescan tag s) = pulseIfIdle (setAsideAll (rescanTaken tag s)) := rfl

theorem rescanTaken_sound (h : Sound s) (tag : Nat) (hp : anyPlaced s = false) (hop : s.txu.longOp = none) :
    Sound (pulseIfIdle (setAsideAll (rescanTaken tag s))) := by
  obtain ⟨hd, hline, hbusy⟩ := h.no_longOp hop
  have same : Linked False (toSurvey s) (rescanTaken tag s) := h.linked.of_same rfl rfl
  have aside := setAsideAll_linked same fun m => (anyPlaced_false h hp m : (s.locker m).orderRef = none)
  have frame := setAsideAll_records (rescanTaken tag s)
  generalize setAsideAll (rescanTaken tag s) = u at *
  have hdu : u.ltu.discovery = some ⟨.rescan, .reset⟩ := frame.discovery
  have hop : u.txu.longOp = some ⟨.rescan, some tag⟩ := by rw [frame.txu]; rfl
  have hlu : u.bbm.line = .idle := by rw [frame.bbm]; exact hline
  have hxu : u.bbm.exchange = s.bbm.exchange := by rw [frame.bbm]; rfl
  have hbu : u.sst.busy = false := by rw [frame.sst]; exact hbusy
  refine pulseIfIdle_sound ⟨aside.weaken (fun _ => aside.apart trivial) fun n _ => aside.aside n trivial,
    by simp [hdu], ⟨_, hop, by simp⟩, fun _ _ => ⟨_, hop, by simp⟩, hbu⟩ (fun _ => ?_)
    ((pulseWanted_iff u).mpr ⟨_, hdu, hlu⟩)
  refine ⟨aside.weaken False.elim fun n _ => aside.aside n trivial, fun _ _ => ⟨_, hop, by simp⟩, by simp [hdu],
    by simp [hdu], by simp [hdu, hlu], fun n a m hx => ?_, by simp [hlu], by simp [hbu]⟩
  exact absurd (hxu ▸ hx) (h.rest.no_probe hd n a m)

theorem serveRescan_sound (h : Sound s) (tag : Nat) : Sound (serveRescan tag s) := by
  unfold serveRescan
  split
  · exact h.answer _ _ _ _
  case h_2 hc =>
    split
    · exact h.answer _ _ _ _
    case isFalse hp =>
      rw [beginDiscovery_rescan]
      exact rescanTaken_sound h tag (by simpa using hp) (checkLongOp_none s tag hc)

/-! ### RESTART (R200) -/

theorem discardEntry_sound (h : Sound s) (q : Nat) : Sound (discardEntry s q) := by
  unfold discardEntry
  split
  · exact h
  case h_2 e he =>
    have ended : Sound (removeEntry q (lockerCommandEnd e .discarded s)) := by
      have frame := lockerCommandEnd_records e .discarded s
      have linked := lockerCommandEnd_linked h.linked e .discarded (by simp)
      refine (h.records frame linked).congr rfl (fun hw => ⟨fun x hx => hw.1 x (List.mem_of_mem_filter hx), hw.2⟩)
        ((h.records frame linked).linked.of_same rfl rfl)
    dsimp only
    split
    · exact ended
    · have dropped : Sound (dropRelease e.locker (removeEntry q (lockerCommandEnd e .discarded s))) :=
        ended.congr rfl id (ended.linked.of_same rfl rfl)
      exact dropped.onlyLink rfl

theorem restartCommands_sound (h : Sound s) : Sound (restartCommands s) := by
  have discarded : Sound ((waitingEntrySeqs s.txu).foldl discardEntry s) :=
    Sound.foldl discardEntry (fun _ q hu => discardEntry_sound hu q) _ h
  refine discarded.congr rfl (fun hw => ⟨fun e he => ?_, fun p hp => ?_⟩) (discarded.linked.of_same rfl rfl)
  · obtain ⟨x, hx, rfl⟩ := List.mem_map.mp he
    exact hw.1 x hx
  · exact hw.2 p (List.mem_of_mem_filter hp)

theorem serveRestart_sound (h : Sound s) (tag : Nat) : Sound (serveRestart tag s) := by
  unfold serveRestart
  split
  · exact h.answer _ _ _ _
  · have cleared : Sound (s.withLki (restartLink s.lki)) := h.onlyLink rfl
    have restarted := (restartCommands_sound cleared).answer kRestart tag .ok []
    exact Sound.foldl _ (fun _ r hu => hu.onlyLink (submit_onlyLink _ _ _)) _
      (restarted.onlyLink (submitReportsLost_onlyLink _))

/-! ### Every request -/

theorem serveRequest_sound (h : Sound s) (i : Instr) : Sound (serveRequest i s) := by
  cases i
  case book => exact serveBook_sound h ..
  case cancel => exact serveCancel_sound h ..
  case extend => exact serveExtend_sound h ..
  case loadOpen => exact serveLoadOpen_sound h ..
  case release => exact serveRelease_sound h ..
  case clear => exact serveClear_sound h ..
  case queryOrder => exact serveQueryOrder_sound h ..
  case lamp => exact servePosted_sound h ..
  case label => exact servePosted_sound h ..
  case moduleWrite => exact servePosted_sound h ..
  case moduleRead => exact serveModuleRead_sound h ..
  case abort => exact serveAbort_sound h ..
  case tableRead => exact serveTableRead_sound h ..
  case tableWrite => exact serveTableWrite_sound h ..
  case paramGet => exact serveParamGet_sound h ..
  case paramSet => exact serveParamSet_sound h ..
  case store => exact serveStore_sound h ..
  case rescan => exact serveRescan_sound h ..
  case bankReset => exact serveBankReset_sound h ..
  case serviceOn => exact serveServiceOn_sound h ..
  case serviceOff => exact serveServiceOff_sound h ..
  case serviceUnlatch => exact serveServiceUnlatch_sound h ..
  case clearLocker => exact serveClearLocker_sound h ..
  case status => exact h.answer ..
  case restart => exact serveRestart_sound h ..
  all_goals exact h

end Sys2Proof.Proofs

/-! ## Every event and every step keeps the bank sound (section 1.2, R127, R188 to R194) -/

namespace Sys2Proof.Proofs

open Sys2Proof.Machine

variable {b : Prop} {A : Nat → Prop} {s t : State}

/-! ### The concourse link -/

theorem takeRequest_sound (h : Sound s) (serve : State → State) (hserve : ∀ u, Sound u → Sound (serve u)) :
    Sound (takeRequest serve s) := by
  unfold takeRequest
  split
  · exact h.onlyLink (((heard_onlyLink s).trans (discardFrame_onlyLink _ _)).trans (chooseTransmit_onlyLink _))
  · exact (hserve _ (h.onlyLink (accepted_onlyLink s))).onlyLink (chooseTransmit_onlyLink _)

theorem serveFrame_sound (h : Sound s) (c k tag : Nat) (p : List Byte) : Sound (serveFrame c k tag p s) := by
  unfold serveFrame
  split
  · exact serveRequest_sound h _
  · exact h.answer _ _ _ _
  · exact h.answer _ _ _ _

theorem completeFrame_sound (h : Sound s) (bytes : List Byte) (check : Nat) : Sound (completeFrame bytes check s) := by
  have hunts : Sound (s.setRx .hunt none) := h.onlyLink rfl
  unfold completeFrame
  dsimp only
  split
  · exact hunts.onlyLink rfl
  · split
    · exact takeRequest_sound hunts _ fun u hu => serveFrame_sound hu _ _ _ _
    · exact hunts.onlyLink rfl

theorem receive_sound (h : Sound s) (x : Byte) : Sound (receive x s) := by
  unfold receive
  dsimp only
  split
  · split
    · exact h.onlyLink rfl
    · exact h
  · split <;> exact h.onlyLink rfl
  · split <;> exact h.onlyLink rfl
  · exact h.onlyLink rfl
  · exact completeFrame_sound h _ _

/-! ### The panel (R156 to R162) -/

theorem refuseScan_sound (h : Sound s) (m : PanelMessage) (c : PanelCause) (id n : Option Nat) :
    Sound (refuseScan m c id n s) :=
  h.onlyLink ((emit_onlyLink _ _).trans (submit_onlyLink _ _ _))

/-- A change of the panel's own state. -/
theorem Sound.panel (h : Sound s) (x : Pni) : Sound { s with pni := x } :=
  h.congr rfl id (h.linked.of_same rfl rfl)

theorem countUnknown_sound (h : Sound s) : Sound (countUnknown s) := by
  unfold countUnknown
  split
  case h_5 => exact (h.panel _).onlyLink ((emit_onlyLink _ _).trans (submit_onlyLink _ _ _))
  all_goals exact (h.panel _).onlyLink (emit_onlyLink _ _)

theorem panelRelease_sound (h : Sound s) (hd : s.ltu.discovery = none) (id n : Nat) : Sound (panelRelease id n s) := by
  unfold panelRelease
  split
  · exact refuseScan_sound h _ _ _ _
  case h_2 hc =>
    split
    · have added : Sound (addEntry .panel none .panelRelease n (some .c) none s) := h.elsewhere hd rfl rfl rfl rfl rfl
      have entered := added.recordsFree hd (modLocker_records n (Locker.enter .pickup) _) fun hl =>
        enterLoading_linked hl n .pickup (by
          have : (addEntry .panel none .panelRelease n (some .c) none s).locker n = s.locker n := rfl
          simp [this, checkRelease_none _ _ hc]) (by simp)
      exact chooseBus_sound (entered.panel _)
    · exact refuseScan_sound h _ _ _ _

theorem takeScan_sound (h : Sound s) (chars : List Nat) : Sound (takeScan chars s) := by
  unfold takeScan
  split
  · exact refuseScan_sound h _ _ _ _
  · split
    · exact refuseScan_sound h _ _ _ _
    · split
      · exact refuseScan_sound h _ _ _ _
      case isFalse hd =>
        have hd := (not_discovering_iff s).mp (by simpa using hd)
        split
        · exact countUnknown_sound h
        · split
          · exact countUnknown_sound h
          case h_2 o _ =>
            unfold decideScan
            split
            · exact refuseScan_sound h _ _ _ _
            · split
              · exact refuseScan_sound h _ _ _ _
              · split
                · exact refuseScan_sound h _ _ _ _
                · split
                  · exact refuseScan_sound h _ _ _ _
                  · exact panelRelease_sound h hd _ _

/-! ### The controller's timers -/

theorem startGap_kept (s : State) : SurveyKept s (startGap s) := by
  obtain ⟨hcore, htxu, -⟩ := startGap_onlyCycle s
  exact ⟨hcore, htxu⟩

theorem startGap_sound (h : Sound s) : Sound (startGap s) := by
  obtain ⟨-, -, hl, ho⟩ := startGap_onlyCycle s
  exact h.kept (startGap_kept s) (h.linked.of_same (by rw [hl]) ho)

theorem beginCycle_sound (h : Sound s) : Sound (beginCycle s) := by
  have began : Sound (s.withBbm { s.bbm with cycle := .running, cursor := 0, pollGap := none }) :=
    h.congr rfl id (h.linked.of_same rfl rfl)
  unfold beginCycle
  dsimp only
  split
  · exact startGap_sound began
  · exact began

theorem cycleAfterQuiet_sound (h : Sound s) : Sound (cycleAfterQuiet s) := by
  unfold cycleAfterQuiet
  split
  · exact startGap_sound h
  · exact h

theorem frameStart_sound (h : Sound s) : Sound (frameStart s) :=
  h.kept (frameStart_kept s) (frameStart_linked h.linked id)

/-- The line leaves the pulse: it is still not IDLE (R108). -/
theorem pulseEnd_sound (h : Sound s) (hl : s.bbm.line = .pulse) (ms : Nat) :
    Sound (s.withBbm { s.bbm with line := .quiet, lineMs := ms }) := by
  refine ⟨h.linked.of_same rfl rfl, h.rest.op, fun d hd hst => ?_, by simp [State.withBbm], fun d hd _ => ?_, h.rest.probe,
    fun _ => h.rest.line (by simp [hl]), h.rest.busy⟩
  · have := (h.rest.probing d hd hst).1
    rw [hl] at this
    cases this
  · exact h.rest.quiet d hd (.inr (by simp [hl]))

/-- The end of the BANK_RESET in progress, on a bus that is free again (R128). -/
theorem endLongOp_sound (h : Sound s) (hd : s.ltu.discovery = none) (hline : s.bbm.line = .idle)
    (hbusy : s.sst.busy = false) (st : Status) : Sound (endLongOp st s) := by
  obtain ⟨hl, ho, hb, hs⟩ := endLongOp_frame st s
  refine sound_of_no_discovery (h.linked.of_same (by rw [hl]) ho) (by rw [hl, hd]) (fun n a m hx => ?_)
    (fun hne => absurd (by rw [hb, hline]) hne) (fun hne => ?_)
  · exact h.rest.no_probe hd n a m (hb ▸ hx)
  · rw [hs, hbusy] at hne
    cases hne

/-- The line is released and the bank turns to PROBING (R108, R188). -/
theorem beginProbing_sound (h : Sound s) (k : DiscoveryKind) (hd : s.ltu.discovery = some ⟨k, .reset⟩)
    (hne : s.bbm.line ≠ .idle) (ms : Nat) :
    Sound (beginProbing (s.withBbm { s.bbm with line := .idle, lineMs := ms })) := by
  obtain ⟨hx, -⟩ := h.rest.line hne
  unfold beginProbing
  split
  case h_2 hn => exact absurd (hd.symm.trans hn) (by simp)
  case h_1 =>
    refine endDiscoveryIfSurveyed_sound ⟨?_, ?_⟩ hx
    · exact h.linked.resurvey rfl rfl fun n _ => h.linked.aside n (toSurvey_reset k hd n)
    · exact ⟨fun _ _ => h.rest.op _ hd, fun _ _ _ => ⟨rfl, by simp [State.withLtu, hx], by simp [State.withLtu, hx]⟩,
        by simp [State.withLtu], fun _ _ _ => h.rest.quiet _ hd (.inr hne), by simp [State.withLtu, hx],
        by simp [State.withLtu], h.rest.busy⟩

/-- The line is released and the end notice handed (R108, R110). -/
theorem endNotice_sound (h : Sound s) (hq : s.bbm.line = .quiet) (ms : Nat) :
    Sound (endNotice (s.withBbm { s.bbm with line := .idle, lineMs := ms })) := by
  have hne : s.bbm.line ≠ .idle := by simp [hq]
  obtain ⟨-, op, hop, hk⟩ := h.rest.line hne
  have stage : ∀ d, s.ltu.discovery = some d → d.stage = .reset := by
    intro d hd
    obtain ⟨k, st⟩ := d
    cases st
    · rfl
    · exact absurd (h.rest.probing _ hd rfl).1 hne
  have busy : s.sst.busy = false := by
    by_contra hb
    obtain ⟨op', hop', hs⟩ := h.rest.busy (by simpa using hb)
    rw [hop] at hop'
    cases hop'
    exact hk hs
  unfold endNotice
  split
  case h_1 k hd =>
    exact beginProbing_sound h k hd hne ms
  case h_2 hd =>
    have hd : s.ltu.discovery = none := by
      cases hd' : s.ltu.discovery with
      | none => rfl
      | some d =>
        obtain ⟨k, st⟩ := d
        have hst : st = .reset := stage _ hd'
        subst hst
        exact absurd hd' (hd k)
    have released : Sound (s.withBbm { s.bbm with line := .idle, lineMs := ms }) :=
      sound_of_no_discovery (h.linked.of_same rfl rfl) hd (h.rest.no_probe hd) (by simp) (by simp [busy])
    split
    · exact endLongOp_sound released hd rfl busy _
    · exact released

/-- A STORE ends (R182). -/
theorem storeEnd_sound (h : Sound s) (hb : s.sst.busy = true) (good : Bool) (st : Status) :
    Sound (endLongOp st (finishStore good s)) := by
  obtain ⟨op, hop, hk⟩ := h.rest.busy hb
  have hd : s.ltu.discovery = none := by
    by_contra hd
    obtain ⟨d, hd⟩ := Option.ne_none_iff_exists'.mp hd
    have := h.rest.not_busy d hd
    rw [hb] at this
    cases this
  have hline : s.bbm.line = .idle := by
    by_contra hl
    obtain ⟨-, op', hop', hk'⟩ := h.rest.line hl
    rw [hop] at hop'
    cases hop'
    exact hk' hk
  have finished : Sound (finishStore good s) :=
    sound_of_no_discovery (h.linked.of_same rfl rfl) hd (h.rest.no_probe hd) (fun hl => absurd hline hl) (by
      intro hne
      cases hne)
  exact endLongOp_sound finished hd hline rfl st

/-! ### Power-on (R186) -/

theorem powerOn_ref (w : Settings) (n : Nat) : Aside (Locker.powerOn w n) := by
  refine ⟨rfl, ?_⟩
  unfold Locker.powerOn
  dsimp only
  split
  · exact .inr ⟨rfl, rfl⟩
  · exact .inl (by simp)

theorem powerOn_sound (shed : Vector Bool 4) (s : State) : Sound (beginDiscovery .powerOn (s.powerOnValues shed)) := by
  let u : State := ((s.powerOnValues shed).withLtu
    { (s.powerOnValues shed).ltu with
      discovery := some ⟨.powerOn, .reset⟩, probeCursor := 0, probing := none, answered := 0 }).withBbm
    { Bbm.powerOn with cycle := .stopped, pollGap := none }
  have aside n : Aside (u.locker n) := by
    by_cases hn : n < 48
    · have : u.locker n = Locker.powerOn s.sst.powerOn.working n := vget_vinit _ _ _ _ hn
      rw [this]
      exact powerOn_ref _ _
    · rw [State.locker_out _ _ (by omega)]
      exact blank_aside
  have linked (b : Prop) (A : Nat → Prop) : Linked b A u :=
    ⟨by simp [u, orderLinks, State.powerOnValues, Oru.powerOn], by simp [u, orderLinks, State.powerOnValues, Oru.powerOn],
      by simp [u, orderLinks, State.powerOnValues, Oru.powerOn], fun n id hn => by simp [(aside n).1] at hn, by simp [u, State.powerOnValues, Oru.powerOn],
      by simp [u, State.powerOnValues, Oru.powerOn], fun c n hn => by cases c <;> simp [u, State.freeList, State.powerOnValues, Oru.powerOn] at hn,
      fun _ n => (aside n).isApart, fun n _ => aside n⟩
  have busy : u.sst.busy = false := by
    show s.sst.powerOn.busy = false
    unfold Sst.powerOn
    dsimp only
    split <;> rfl
  exact pulseIfIdle_sound (s := u) ⟨linked _ _, by rintro d ⟨⟩; rfl, ⟨_, rfl, by simp⟩, fun _ _ => ⟨_, rfl, by simp⟩, busy⟩
    (fun hx => absurd rfl hx) rfl

/-! ### Every command -/

/-- An event that lets time pass first. -/
theorem elapsed_sound (h : Sound s) (d : Nat) : Sound (s.clearPorts.elapse d) :=
  elapse_sound (h.onlyLink (clearPorts_onlyLink s)) d

theorem request_sound (h : Sound s) (i : Instr) (hi : IsRequest i) :
    ∃ t, exec i s = .next t ∧ Sound t := by
  have taken := takeRequest_sound h (serveRequest i) fun u hu => serveRequest_sound hu i
  cases i
  case receiveByte | gapTimerExpiry | silenceTimerExpiry | transmitEnd | scan | windowTimerExpiry | lockoutTimerExpiry |
    powerOn | holdTick | frameStart | pollGapTimerExpiry | doorHeld | pulseEnd | quietEnd | storeEnd | replyReceived |
    replyTimeout | broadcastEnd => cases hi
  all_goals exact ⟨_, rfl, taken⟩

/-- Every command keeps the bank sound. -/
theorem exec_sound (h : Sound s) (i : Instr) (ht : exec i s = .next t) : Sound t := by
  by_cases hi : IsRequest i
  case pos =>
    obtain ⟨u, hu, hs⟩ := request_sound h i hi
    rw [hu] at ht
    cases ht
    exact hs
  have cleared : Sound s.clearPorts := h.onlyLink (clearPorts_onlyLink s)
  have sent (u : State) (hu : Sound u) : Sound (chooseTransmit u) := hu.onlyLink (chooseTransmit_onlyLink u)
  cases i
  case receiveByte x => cases ht; exact receive_sound cleared x
  case gapTimerExpiry =>
    simp only [exec, execGapTimerExpiry] at ht
    split at ht <;> cases ht
    · exact cleared
    · exact (elapsed_sound h _).onlyLink rfl
  case silenceTimerExpiry =>
    simp only [exec, execSilenceTimerExpiry] at ht
    split at ht
    · cases ht
      exact cleared
    · split at ht <;> cases ht
      · exact cleared
      · exact (elapsed_sound h _).onlyLink rfl
  case transmitEnd =>
    simp only [exec, execTransmitEnd] at ht
    split at ht <;> cases ht
    · exact cleared
    · exact sent _ (cleared.onlyLink rfl)
  case scan chars => cases ht; exact sent _ (takeScan_sound cleared chars)
  case windowTimerExpiry =>
    simp only [exec, execWindowTimerExpiry] at ht
    split at ht
    · cases ht
      exact cleared
    case h_2 e _ =>
      have elapsed := elapsed_sound h (60000 - e)
      injection ht with ht
      subst ht
      exact elapsed.panel _
  case lockoutTimerExpiry =>
    simp only [exec, execLockoutTimerExpiry] at ht
    split at ht
    · cases ht
      exact cleared
    case h_2 e _ =>
      have elapsed := elapsed_sound h (30000 - e)
      injection ht with ht
      subst ht
      exact elapsed.panel _
  case powerOn => cases ht; exact powerOn_sound _ s
  case holdTick =>
    simp only [exec, execHoldTick] at ht
    split at ht <;> injection ht with ht <;> subst ht
    · exact cleared
    case h_2 e _ =>
      have elapsed := elapsed_sound h (1000 - e)
      have ticked : Sound { s.clearPorts.elapse (1000 - e) with hau := ⟨some 0⟩ } :=
        elapsed.congr rfl id (elapsed.linked.of_same rfl rfl)
      exact sent _ (ticked.records (holdTick_records _) (holdTick_linked ticked.linked))
  case frameStart =>
    simp only [exec, execFrameStart] at ht
    split at ht <;> injection ht with ht <;> subst ht
    · exact cleared.congr rfl id (cleared.linked.of_same rfl rfl)
    · have elapsed := elapsed_sound h (2000 - ‹Nat›)
      exact sent _ (chooseBus_sound (frameStart_sound (elapsed.congr rfl id (elapsed.linked.of_same rfl rfl))))
  case pollGapTimerExpiry =>
    simp only [exec, execPollGapTimerExpiry] at ht
    split at ht <;> cases ht
    · exact cleared
    · exact sent _ (chooseBus_sound (beginCycle_sound (elapsed_sound h _)))
  case doorHeld n =>
    simp only [exec, execDoorHeld] at ht
    split at ht <;> cases ht
    · exact cleared
    · have elapsed := elapsed_sound h ‹Nat›
      exact sent _ (elapsed.records (examineDoorHeld_records n _) (examineDoorHeld_linked elapsed.linked n))
  case pulseEnd =>
    simp only [exec, execPulseEnd] at ht
    split at ht <;> cases ht
    case isTrue hl => exact pulseEnd_sound (elapsed_sound h _) hl 0
    case isFalse => exact cleared
  case quietEnd =>
    simp only [exec, execQuietEnd] at ht
    split at ht <;> cases ht
    case isTrue hl => exact sent _ (chooseBus_sound (cycleAfterQuiet_sound (endNotice_sound (elapsed_sound h _) hl 0)))
    case isFalse => exact cleared
  case storeEnd good =>
    simp only [exec, execStoreEnd] at ht
    split at ht <;> cases ht
    case isTrue hb => exact sent _ (storeEnd_sound cleared hb good _)
    case isFalse => exact cleared
  case replyReceived frame =>
    simp only [exec, execReplyReceived] at ht
    split at ht
    · cases ht
      exact cleared
    · split at ht <;> cases ht
      · exact sent _ (attemptSucceeded_sound cleared _)
      · exact sent _ (attemptFailed_sound cleared)
  case replyTimeout =>
    simp only [exec, execReplyTimeout] at ht
    split at ht <;> cases ht
    · exact sent _ (attemptFailed_sound cleared)
    · exact cleared
  case broadcastEnd =>
    simp only [exec, execBroadcastEnd] at ht
    split at ht <;> cases ht
    · exact sent _ (Sound.afterExchange (endBroadcast_sound cleared))
    · exact cleared
  all_goals exact absurd rfl hi

theorem step_sound (h : Sound s) (ht : step s = .next t) : Sound t := by
  unfold step at ht
  split at ht
  · cases ht
    exact elapsed_sound h 1
  case h_2 c rest _ =>
    have queued : Sound { s with pending := rest } := h.congr rfl id (h.linked.of_same rfl rfl)
    exact exec_sound queued c ht

/-- Settles O10: orders and lockers, together with the survey, are an invariant of every step. -/
theorem ordersStayPairedWithLockers : Obligations.OrdersStayPairedWithLockers := by
  intro s t ho hf hp hs ht
  exact (step_sound (sound_of_laws s ho hf hp hs) ht).laws

end Sys2Proof.Proofs

/-! ## What a step puts on the bank bus (R9, R11, R97) -/

namespace Sys2Proof.Proofs

open Sys2Proof.Machine

variable {s t u : State}

/-! ### Silence on the bus -/

/-- A frame of the bank bus among the outputs. -/
def isBus : PortEvent → Bool
  | .bus _ => true
  | _ => false

/-- The frames that the command has put on the bank bus. -/
def busEvents (s : State) : List PortEvent := s.ports.filter isBus

/-- The command has put nothing on the bank bus. -/
def Silent (s : State) : Prop := busEvents s = []

theorem Silent.not_mem (h : Silent s) (f : BusFrame) : .bus f ∉ s.ports := fun hf =>
  absurd rfl (List.filter_eq_nil_iff.mp h _ hf)

theorem Silent.congr (h : Silent s) (k : t.ports = s.ports) : Silent t := by
  unfold Silent busEvents
  rw [k]
  exact h

theorem Silent.records (h : Silent s) (k : RecordsOnly s t) : Silent t := h.congr k.ports

theorem Silent.display (h : Silent s) (m : PanelMessage) : Silent (display m s) := by
  unfold Silent busEvents Machine.display State.emit
  rw [List.filter_append]
  exact (List.append_nil _).trans h

theorem Silent.submit (h : Silent s) (k : ReportKind) (fs : List Field) : Silent (submit k fs s) :=
  h.records (submit_records k fs s)

theorem Silent.foldl {α : Type} (f : State → α → State) (hf : ∀ u a, Silent u → Silent (f u a)) (as : List α)
    (h : Silent s) : Silent (as.foldl f s) := by
  induction as generalizing s with
  | nil => exact h
  | cons a as ih => exact ih (hf s a h)

theorem silent_of_no_ports (h : s.ports = []) : Silent s := by
  simp [Silent, busEvents, h]

theorem heard_silent (s : State) : Silent s.heard := by
  refine silent_of_no_ports ?_
  rw [heard_eq]

theorem accepted_silent (s : State) : Silent s.accepted := (heard_silent s).congr rfl

theorem submitReportsLost_ports (s : State) : (submitReportsLost s).ports = s.ports := by
  unfold submitReportsLost
  split
  · rfl
  · exact (submit_records _ _ s).ports

/-! ### The end of commands sends nothing -/

theorem panelReleaseEnd_silent (h : Silent s) (n : Nat) (o : CmdOutcome) : Silent (panelReleaseEnd n o s) := by
  have dropped : Silent (dropRelease n s) := h.congr rfl
  unfold panelReleaseEnd
  dsimp only
  split
  · exact (dropped.display _).submit _ _
  · exact (dropped.display _).submit _ _

theorem completeEntry_silent (h : Silent s) (e : Entry) (o : CmdOutcome) : Silent (completeEntry e o s) := by
  have removed : Silent (removeEntry e.seq s) := h.congr rfl
  unfold completeEntry
  dsimp only
  split
  · exact panelReleaseEnd_silent removed _ _
  · split
    · exact removed
    · exact removed.congr rfl

theorem endConfirmed_silent (h : Silent s) (e : Entry) (o : CmdOutcome) : Silent (endConfirmed e o s) :=
  completeEntry_silent (h.records (lockerCommandEnd_records e o s)) e o

theorem endPosted_silent (h : Silent s) (p : Posted) (o : CmdOutcome) : Silent (endPosted p o s) := by
  have removed : Silent (removePosted p.seq s) := h.congr rfl
  have counted : Silent (countPostedLost (removePosted p.seq s)) := removed.congr rfl
  unfold endPosted
  dsimp only
  split
  · exact removed
  · split
    · exact counted.submit _ _
    · exact counted
  · exact counted.submit _ _
  · exact counted

theorem endCommand_silent (h : Silent s) (q : Nat) (o : CmdOutcome) : Silent (endCommand q o s) := by
  unfold endCommand
  split
  · exact endConfirmed_silent h _ _
  · split
    · exact endPosted_silent h _ _
    · exact h

theorem txuBankReset_silent (h : Silent s) : Silent (txuBankReset s) := by
  have ended : Silent ((waitingEntrySeqs s.txu).foldl (fun s q => endCommand q .bankReset s) s) :=
    Silent.foldl _ (fun _ q hu => endCommand_silent hu q _) _ h
  exact ended.congr rfl

theorem startPulse_silent (h : Silent s) : Silent (startPulse s) := by
  have cut : Silent (cutOff s) := by
    have cleared : Silent (clearExchange s) := h.congr rfl
    unfold cutOff
    split
    · exact h
    · exact endCommand_silent cleared _ _
    · exact h.congr rfl
    · exact h.congr rfl
  have bused : Silent ((cutOff s).withBbm (busAtPulse (cutOff s).bbm)) := cut.congr rfl
  have reset : Silent (pulsed s) := (txuBankReset_silent bused).records (resetNotice_records _)
  by_cases hk : ∃ st, s.ltu.discovery = some ⟨.rescan, st⟩
  · obtain ⟨st, hk⟩ := hk
    rw [startPulse_rescan st hk]
    exact reset.records (setAsideAll_records _)
  · rw [startPulse_other fun st hs => hk ⟨st, hs⟩]
    exact reset

theorem latchFeeds_silent (h : Silent s) : Silent (latchFeeds s) := by
  refine Silent.foldl _ (fun u f hu => ?_) _ h
  have latched (x : Hta) : Silent { u with hta := x } := hu.congr rfl
  unfold latchFeed
  dsimp only
  split
  · exact (latched _).submit _ _
  · split
    · exact (latched _).submit _ _
    · exact latched _

theorem frameStart_silent (h : Silent s) : Silent (frameStart s) := by
  have timed : Silent { s with hta := { s.hta with frameTimer := some 0 } } := h.congr rfl
  have purged := Silent.foldl (fun s n => purgeDone n s) (fun u n hu => hu.records (purgeDone_records n u))
    (completedPurges (latchFeeds { s with hta := { s.hta with frameTimer := some 0 } })) (latchFeeds_silent timed)
  have suspended := Silent.foldl (fun s n => suspendOrResume n s) (fun u n hu => hu.records (suspendOrResume_records n u))
    Config.allLockers purged
  have inhibited := Silent.foldl (fun s n => examineInhibit n s) (fun u n hu => hu.records (examineInhibit_records n u))
    Config.allLockers suspended
  have granted (d : List Nat) (u : State) (hu : Silent u) : Silent (grantFrame d u) := by
    unfold grantFrame
    dsimp only
    exact Silent.foldl _ (fun u n hu => hu.records (creditAndStarve_records _ _ _ n u)) _ (hu.congr rfl)
  unfold frameStart
  dsimp only
  exact granted _ _ inhibited

theorem endLongOp_silent (h : Silent s) (st : Status) : Silent (endLongOp st s) := by
  unfold endLongOp
  split
  · exact h
  · dsimp only
    split
    · exact (h.records (submitTagged_records _ _ _ s)).congr rfl
    · exact h.congr rfl

theorem beginCycle_silent (h : Silent s) : Silent (beginCycle s) := by
  unfold beginCycle startGap
  dsimp only
  split
  · split <;> exact h.congr rfl
  · exact h.congr rfl

theorem endDiscovery_silent (h : Silent s) (k : DiscoveryKind) : Silent (endDiscovery k s) := by
  have reported : Silent (reportStarted k s) := h.submit _ _
  have cycled := beginCycle_silent (reported.congr
    (t := (reportStarted k s).withLtu { (reportStarted k s).ltu with discovery := none }) rfl)
  have timed (u : State) (hu : Silent u) (x : Hau) (l : Lki) : Silent ({ u with hau := x }.withLki l) := hu.congr rfl
  unfold endDiscovery
  cases k
  · exact endLongOp_silent (timed _ (frameStart_silent cycled) _ _) _
  · exact endLongOp_silent cycled _

theorem endDiscoveryIfSurveyed_silent (h : Silent s) : Silent (endDiscoveryIfSurveyed s) := by
  unfold endDiscoveryIfSurveyed
  split
  · split
    · exact endDiscovery_silent h _
    · exact h
  · exact h

theorem endNotice_silent (h : Silent s) : Silent (endNotice s) := by
  unfold endNotice beginProbing
  split
  · split
    · exact endDiscoveryIfSurveyed_silent (h.congr rfl)
    · exact h
  · split
    · exact endLongOp_silent h _
    · exact h

theorem endOfPoll_silent (h : Silent s) : Silent (endOfPoll s) := by
  unfold endOfPoll startGap
  split
  · split <;> exact h.congr rfl
  · exact h

/-! ### An UNLATCH on the bus (R9, R11) -/

/-- An UNLATCH whose first attempt the command has put on the bus has the locker's record behind it. -/
def Guarded (t : State) : Prop :=
  ∀ (n q : Nat) (f : BusFrame) (d : Door), t.bbm.exchange = some (.command n q 1 f) → .bus f ∈ t.ports →
    f.kind = 0x02 → f.payload.head? = some d.code →
      (t.locker n).door d.other = .latched ∧ (t.locker n).phase ≠ .offline ∧
        (d = .c → orderCondemned t (t.locker n) = false)

theorem Silent.guarded (h : Silent s) : Guarded s := fun _ _ f _ _ hf => absurd hf (h.not_mem f)

theorem Guarded.of_exchange (h : ∀ n q f, s.bbm.exchange ≠ some (.command n q 1 f)) : Guarded s :=
  fun n q f _ hx => absurd hx (h n q f)

/-- The link's outputs do not count. -/
theorem Guarded.link (h : Guarded s) (k : OnlyLink s t) (hb : busEvents t = busEvents s) : Guarded t := by
  intro n q f d hx hf hkind hd
  have hmem : .bus f ∈ s.ports := by
    have : PortEvent.bus f ∈ busEvents t := List.mem_filter.mpr ⟨hf, rfl⟩
    rw [hb] at this
    exact List.mem_of_mem_filter this
  rw [k.bbm] at hx
  have guard := h n q f d hx hmem hkind hd
  have orders : t.order? = s.order? := funext k.order
  have same : orderCondemned t (s.locker n) = orderCondemned s (s.locker n) := by
    simp only [orderCondemned, heldOrder, orders]
  rwa [k.locker, same]

theorem chooseTransmit_busEvents (s : State) : busEvents (chooseTransmit s) = busEvents s := by
  have began (f : UpFrame) (u : State) : busEvents (beginTransmit f u) = busEvents u := by
    unfold busEvents beginTransmit State.emit
    rw [List.filter_append]
    simp [isBus, State.withLki]
  unfold chooseTransmit
  split
  · rfl
  · split
    · rw [began]
      rfl
    · split
      · unfold busEvents
        rw [submitReportsLost_ports]
        exact began _ _
      · rfl

theorem chooseTransmit_guarded (h : Guarded s) : Guarded (chooseTransmit s) :=
  h.link (chooseTransmit_onlyLink s) (chooseTransmit_busEvents s)

/-! ### The arbiter's choice (R96, R97) -/

/-- The first byte of an UNLATCH names its door (R152). -/
theorem unlatchFrame_door (e : Entry) (w : Nat) (d : Door)
    (h : (⟨e.locker, 0x02, fieldsBytes [.b1 ((e.door.map Door.code).getD 0), .b1 w]⟩ : BusFrame).payload.head? =
      some d.code) : e.door.getD .k = d := by
  have h : ((e.door.map Door.code).getD 0) % 256 = d.code := by simpa [fieldsBytes, Field.bytes] using h
  cases hd : e.door with
  | none => cases d <;> simp [hd, Door.code] at h ⊢
  | some x => cases x <;> cases d <;> simp [hd, Door.code] at h ⊢

/-- An entry that passes its recheck (R11). -/
theorem recheck_none (e : Entry) (s : State) (h : recheck e s = none) :
    (s.locker e.locker).phase ≠ .offline ∧
      ((e.door.getD .k) = .c → orderCondemned s (s.locker e.locker) = false) ∧
      (s.locker e.locker).door (e.door.getD .k).other = .latched := by
  unfold recheck at h
  dsimp only at h
  split at h
  · cases h
  case isFalse hp =>
    split at h
    · cases h
    · split at h
      · cases h
      case isFalse hc =>
        split at h
        · cases h
        case isFalse hl =>
          refine ⟨hp, fun hd => ?_, not_not.mp hl⟩
          simpa [hd] using hc

/-- A first attempt begins: the record has just passed the recheck, or the frame is no UNLATCH. -/
theorem beginExchange_guarded (n q : Nat) (f : BusFrame)
    (guard : f.kind = 0x02 → ∀ d : Door, f.payload.head? = some d.code →
      (s.locker n).door d.other = .latched ∧ (s.locker n).phase ≠ .offline ∧
        (d = .c → orderCondemned s (s.locker n) = false)) : Guarded (beginExchange n q f s) := by
  intro n' q' f' d hx _ hkind hd
  simp only [beginExchange, State.emit, State.withBbm, Option.some.injEq, Exchange.command.injEq] at hx
  obtain ⟨rfl, -, -, rfl⟩ := hx
  exact guard hkind d hd

theorem entryFrame_unlatch (w : Nat) (e : Entry) (h : e.request.isUnlatch = true) :
    entryFrame w e = ⟨e.locker, 0x02, fieldsBytes [.b1 ((e.door.map Door.code).getD 0), .b1 w]⟩ := by
  unfold entryFrame
  split
  case h_1 hr => simp [hr, CmdRequest.isUnlatch] at h
  case h_2 => rfl

theorem entryFrame_read (w : Nat) (e : Entry) (h : e.request.isUnlatch = false) : (entryFrame w e).kind = 0x03 := by
  unfold entryFrame
  split
  case h_1 => rfl
  case h_2 hr =>
    cases hq : e.request <;> simp [hq, CmdRequest.isUnlatch] at h
    exact absurd hq hr

theorem postedFrame_kind (p : Posted) : (postedFrame p).kind ≠ 0x02 := by
  unfold postedFrame
  split <;> simp

/-- The command that wins the bus ends without bus traffic, or its exchange begins behind its guard (R97). -/
theorem beginCommand_guarded (h : Silent s) (q : Nat) :
    Silent (beginCommand q s) ∨ (Guarded (beginCommand q s) ∧ (beginCommand q s).bbm.exchange ≠ none) := by
  have put : Silent (putOnBus q (s.withBbm { s.bbm with lastWinner := .command })) := h.congr rfl
  unfold beginCommand
  dsimp only
  generalize putOnBus q (s.withBbm { s.bbm with lastWinner := .command }) = u at *
  have begins (n : Nat) (f : BusFrame) : (beginExchange n q f u).bbm.exchange ≠ none := by
    simp [beginExchange, State.emit, State.withBbm]
  split
  case h_1 e _ =>
    split
    case isTrue hu =>
      split
      · exact .inl (endCommand_silent put q _)
      case h_2 hr =>
        obtain ⟨hp, hc, hl⟩ := recheck_none e u hr
        rw [entryFrame_unlatch _ e hu]
        refine .inr ⟨beginExchange_guarded _ _ _ fun _ d hd => ?_, begins _ _⟩
        have hd := unlatchFrame_door e _ d hd
        subst hd
        exact ⟨hl, hp, hc⟩
    case isFalse hu =>
      refine .inr ⟨beginExchange_guarded _ _ _ fun hk => ?_, begins _ _⟩
      rw [entryFrame_read _ e (by simpa using hu)] at hk
      cases hk
  case h_2 =>
    split
    · exact .inr ⟨beginExchange_guarded _ _ _ fun hk => absurd hk (postedFrame_kind _), begins _ _⟩
    · exact .inl put

theorem chooseBusLoop_of_exchange (k : Nat) (h : s.bbm.exchange ≠ none) : chooseBusLoop k s = s := by
  cases k with
  | zero => rfl
  | succ k =>
    unfold chooseBusLoop
    rw [if_neg]
    simp [busFree, h]

theorem beginPoll_guarded (r : PollRequest) (s : State) : Guarded (beginPoll r s) := by
  refine Guarded.of_exchange fun n q f => ?_
  cases r <;> simp [beginPoll, State.emit, State.withBbm]

theorem chooseBusLoop_guarded (k : Nat) (h : Silent s) : Guarded (chooseBusLoop k s) := by
  induction k generalizing s with
  | zero => exact h.guarded
  | succ k ih =>
    have command (q : Nat) : Guarded (chooseBusLoop k (beginCommand q s)) := by
      rcases beginCommand_guarded h q with hs | ⟨hg, hx⟩
      · exact ih hs
      · rwa [chooseBusLoop_of_exchange k hx]
    unfold chooseBusLoop
    split
    · split
      · exact Guarded.of_exchange fun n q f => by simp [beginBroadcast, State.emit, State.withBbm]
      · split
        · split
          · exact beginPoll_guarded _ s
          · exact command _
        · exact command _
        · exact beginPoll_guarded _ s
        · exact h.guarded
    · exact h.guarded

theorem chooseBus_guarded (h : Silent s) : Guarded (chooseBus s) := chooseBusLoop_guarded _ h

theorem afterExchange_guarded (h : Silent s) : Guarded (afterExchange s) := by
  unfold afterExchange
  split
  · exact (startPulse_silent h).guarded
  · exact chooseBus_guarded h

/-! ### The ends of exchanges (R91, R92) -/

theorem pollEnded_guarded (h : Silent s) (n : Nat) (r : Option Observation) (m : Bool) : Guarded (pollEnded n r m s) := by
  have cleared : Silent (clearExchange s) := h.congr rfl
  have counted : Silent (countFailedPoll (clearExchange s)) := h.congr rfl
  unfold pollEnded
  dsimp only
  refine afterExchange_guarded (endOfPoll_silent ?_)
  split
  · exact cleared.records (goodPoll_records _ _ _ _)
  · exact counted.records (failedPoll_records _ _)

theorem probeEnded_guarded (h : Silent s) (n : Nat) (r : Option Observation) (m : Bool) : Guarded (probeEnded n r m s) := by
  have cleared : Silent (clearExchange s) := h.congr rfl
  have counted : Silent (countFailedPoll (clearExchange s)) := h.congr rfl
  unfold probeEnded endOfProbe
  dsimp only
  refine afterExchange_guarded (endDiscoveryIfSurveyed_silent ?_)
  split
  case h_1 o =>
    have observed := cleared.records (modLocker_records n (Locker.observe o) (clearExchange s))
    exact (observed.records (settleProbed_records n o.heaterOn (handedMark s m) _)).congr rfl
  case h_2 => exact (counted.records (probeFailed_records _ _)).congr rfl

theorem commandEnded_guarded (h : Silent s) (q : Nat) (o : CmdOutcome) : Guarded (commandEnded q o s) := by
  unfold commandEnded
  dsimp only
  refine afterExchange_guarded (endCommand_silent ?_ q o)
  split <;> exact h.congr rfl

theorem attemptFailed_guarded (h : Silent s) (ha : s.AttemptsInRange) : Guarded (attemptFailed s) := by
  unfold attemptFailed
  split
  · split
    · exact Guarded.of_exchange fun n q f => by simp [State.emit, State.withBbm]
    · exact pollEnded_guarded h _ _ _
  · split
    · exact Guarded.of_exchange fun n q f => by simp [State.emit, State.withBbm]
    · exact probeEnded_guarded h _ _ _
  case h_3 n q a f hx =>
    split
    · obtain ⟨hlo, -⟩ : 1 ≤ a ∧ a ≤ 3 := ha _ hx
      refine Guarded.of_exchange fun n' q' f' => ?_
      simp only [State.emit, State.withBbm, ne_eq, Option.some.injEq, Exchange.command.injEq, not_and]
      omega
    · exact commandEnded_guarded h _ _
  · exact h.guarded

theorem attemptSucceeded_guarded (h : Silent s) (r : Reply) : Guarded (attemptSucceeded r s) := by
  unfold attemptSucceeded
  split
  · exact pollEnded_guarded h _ _ _
  · exact pollEnded_guarded h _ _ _
  · exact probeEnded_guarded h _ _ _
  · exact probeEnded_guarded h _ _ _
  · exact commandEnded_guarded h _ _
  · exact h.guarded

/-! ### Requests -/

theorem Silent.answer (h : Silent s) (k : Kind) (tag : Nat) (st : Status) (body : List Field) :
    Silent (answer k tag st body s) := h.congr rfl

theorem Silent.answered (h : Silent s) (k : Kind) (tag : Nat) (st : Status) (body : List Field) :
    Guarded (Machine.answer k tag st body s) := (h.answer k tag st body).guarded

theorem takeDoorCommand_guarded (h : Silent s) (r : CmdRequest) (tag n : Nat) (d : Door) (enter : State → State)
    (he : ∀ u, RecordsOnly u (enter u)) : Guarded (takeDoorCommand r tag n d enter s) := by
  have added : Silent (addEntry .server (some tag) r n (some d) none s) := h.congr rfl
  unfold takeDoorCommand
  split
  · exact h.answered _ _ _ _
  · exact chooseBus_guarded (added.records (he _))

theorem withPlacedOrder_guarded (h : Silent s) (k : Kind) (tag id : Nat) (rest : Nat → State → State)
    (hr : ∀ n, Guarded (rest n s)) : Guarded (withPlacedOrder k tag id rest s) := by
  unfold withPlacedOrder
  split
  · exact h.answered _ _ _ _
  · split
    · exact h.answered _ _ _ _
    · split
      · exact h.answered _ _ _ _
      · exact hr _

theorem serveBook_silent (h : Silent s) (tag id code cls p bu de : Nat) : Silent (serveBook tag id code cls p bu de s) := by
  unfold serveBook bookAllocate
  split
  · exact h.answer _ _ _ _
  · split
    · exact h.answer _ _ _ _
    · split
      · exact h.answer _ _ _ _
      · dsimp only
        split
        · exact Silent.answer (h.records ((oru_records _ s).trans (join_records _ _ _))) _ _ _ _
        · split
          · exact h.congr rfl
          · exact h.answer _ _ _ _

theorem serveCancel_silent (h : Silent s) (tag id : Nat) : Silent (serveCancel tag id s) := by
  have removed := h.records (removeOrder_records id s)
  have condemned := h.records (condemn_records id .cancelled s)
  unfold serveCancel
  split
  · exact h.answer _ _ _ _
  · split
    · exact h.answer _ _ _ _
    · split
      · exact removed.answer _ _ _ _
      case h_2 n _ =>
        have freed := (removed.records (moveToUnlessExcluded_records .free n _)).records (announceFree_records n _)
        unfold cancelPlaced
        dsimp only
        split
        · exact freed.answer _ _ _ _
        · exact condemned.answer _ _ _ _
        · exact h.answer _ _ _ _
        · exact h.answer _ _ _ _
        · split
          · exact removed.congr rfl
          · exact condemned.answer _ _ _ _
          · exact h.answer _ _ _ _
          · exact h.answer _ _ _ _
          · exact h.answer _ _ _ _
        · exact h.answer _ _ _ _

theorem serveExtend_silent (h : Silent s) (tag id sec : Nat) : Silent (serveExtend tag id sec s) := by
  unfold serveExtend applyExtend
  split
  · exact h.answer _ _ _ _
  · split
    · exact h.answer _ _ _ _
    · split
      · exact h.answer _ _ _ _
      · split
        · exact h.answer _ _ _ _
        · split
          · exact h.answer _ _ _ _
          · split <;> exact h.congr rfl

theorem servePosted_guarded (h : Silent s) (k : Kind) (tag n : Nat) (ok : Bool) (c : PostedContent) (st : Status) :
    Guarded (servePosted k tag n ok c st s) := by
  have added : Silent (answer k tag st [] (addPosted n tag c s)) := h.congr rfl
  unfold servePosted
  split
  · exact h.answered _ _ _ _
  · split
    · exact h.answered _ _ _ _
    · split
      · exact h.answered _ _ _ _
      · split
        · exact h.answered _ _ _ _
        · split
          · exact h.answered _ _ _ _
          · exact chooseBus_guarded added

theorem serveModuleRead_guarded (h : Silent s) (tag n item : Nat) : Guarded (serveModuleRead tag n item s) := by
  have added : Silent (addEntry .server (some tag) .moduleRead n none (some item) s) := h.congr rfl
  unfold serveModuleRead
  split
  · exact h.answered _ _ _ _
  · split
    · exact h.answered _ _ _ _
    · split
      · exact h.answered _ _ _ _
      · split
        · exact h.answered _ _ _ _
        · split
          · exact h.answered _ _ _ _
          · exact chooseBus_guarded added

theorem serveAbort_silent (h : Silent s) (tag target : Nat) : Silent (serveAbort tag target s) := by
  unfold serveAbort
  split
  · split
    · exact (endConfirmed_silent h _ _).answer _ _ _ _
    · exact h.answer _ _ _ _
  · split <;> exact h.answer _ _ _ _

theorem writeLayout_guarded (h : Silent s) (tag n p c f w : Nat) : Guarded (writeLayout tag n p c f w s) := by
  unfold writeLayout
  split
  · exact h.answered _ _ _ _
  · split
    · split
      · exact h.answered _ _ _ _
      · split
        · exact h.answered _ _ _ _
        · have written (x : Settings) (e : LayoutEntry) : Silent (layoutAccepted n e (s.withWorking x)) :=
            Silent.records (s := s.withWorking x) (h.congr rfl) (layoutAccepted_records n e _)
          have cycled (u : State) (hu : Silent u) : Silent (cycleAfterLayoutWrite u) := by
            unfold cycleAfterLayoutWrite startGap
            split
            · split <;> exact hu.congr rfl
            · exact hu
          exact chooseBus_guarded ((cycled _ (written _ _)).answer _ _ _ _)
    · exact h.answered _ _ _ _

theorem serveTableWrite_guarded (h : Silent s) (tag i : Nat) (r : TableRecord) : Guarded (serveTableWrite tag i r s) := by
  unfold serveTableWrite
  split
  · exact writeLayout_guarded h _ _ _ _ _ _
  · refine Silent.guarded ?_
    unfold writeProfile
    split
    · exact h.congr rfl
    · split
      · exact h.congr rfl
      · split <;> exact h.congr rfl
  · refine Silent.guarded ?_
    unfold writeFeed
    split
    · exact h.congr rfl
    · split <;> exact h.congr rfl

theorem serveParamSet_silent (h : Silent s) (tag p v : Nat) : Silent (serveParamSet tag p v s) := by
  unfold serveParamSet
  split
  · exact h.answer _ _ _ _
  · split
    · unfold writeStrictHold
      split <;> exact h.congr rfl
    · have written (x : Params) : Silent (s.setParams x) := h.congr rfl
      exact Silent.answer ((written _).records (paramActs_records _ _ _)) _ _ _ _

theorem serveRescan_silent (h : Silent s) (tag : Nat) : Silent (serveRescan tag s) := by
  have taken : Silent (setAsideAll (rescanTaken tag s)) :=
    Silent.records (s := rescanTaken tag s) (h.congr rfl) (setAsideAll_records _)
  unfold serveRescan
  split
  · exact h.answer _ _ _ _
  · split
    · exact h.answer _ _ _ _
    · rw [beginDiscovery_rescan]
      unfold pulseIfIdle
      split
      · exact startPulse_silent taken
      · exact taken

theorem serveBankReset_silent (h : Silent s) (tag : Nat) : Silent (serveBankReset tag s) := by
  have accepted : Silent (acceptLongOp kBankReset .bankReset tag s) := h.congr rfl
  unfold serveBankReset
  split
  · exact h.answer _ _ _ _
  · exact startPulse_silent accepted

theorem serveServiceOn_silent (h : Silent s) (tag n : Nat) : Silent (serveServiceOn tag n s) := by
  unfold serveServiceOn
  split
  · exact h.answer _ _ _ _
  · split
    · refine Silent.answer ?_ _ _ _ _
      split
      · exact h
      · exact h.records (moveTo_records _ _ _)
    · exact h.answer _ _ _ _

theorem serveServiceOff_silent (h : Silent s) (tag n : Nat) : Silent (serveServiceOff tag n s) := by
  unfold serveServiceOff
  split
  · exact h.answer _ _ _ _
  · dsimp only
    split
    · exact h.answer _ _ _ _
    · split
      · exact h.answer _ _ _ _
      · exact Silent.answer (h.records ((modLocker_records _ _ s).trans (moveTo_records _ _ _))) _ _ _ _

theorem serveServiceUnlatch_guarded (h : Silent s) (tag n d : Nat) : Guarded (serveServiceUnlatch tag n d s) := by
  unfold serveServiceUnlatch
  split
  · exact h.answered _ _ _ _
  · split
    · exact h.answered _ _ _ _
    · split
      · exact h.answered _ _ _ _
      · exact takeDoorCommand_guarded h _ _ _ _ _ fun u => modLocker_records _ _ u

theorem serveClearLocker_guarded (h : Silent s) (tag n : Nat) : Guarded (serveClearLocker tag n s) := by
  unfold serveClearLocker
  split
  · exact h.answered _ _ _ _
  · split
    · exact h.answered _ _ _ _
    · exact takeDoorCommand_guarded h _ _ _ _ _ fun u => enterClearing_records _ u

theorem serveRestart_silent (h : Silent s) (tag : Nat) : Silent (serveRestart tag s) := by
  unfold serveRestart
  split
  · exact h.answer _ _ _ _
  · have cleared : Silent (s.withLki (restartLink s.lki)) := h.congr rfl
    have discard (u : State) (q : Nat) (hu : Silent u) : Silent (discardEntry u q) := by
      unfold discardEntry
      split
      · exact hu
      case h_2 e _ =>
        have ended : Silent (removeEntry q (lockerCommandEnd e .discarded u)) :=
          (hu.records (lockerCommandEnd_records e .discarded u)).congr rfl
        dsimp only
        split
        · exact ended
        · exact Silent.display (s := dropRelease e.locker _) (ended.congr rfl) _
    have discarded := Silent.foldl discardEntry discard (waitingEntrySeqs (s.withLki (restartLink s.lki)).txu) cleared
    have restarted : Silent (restartCommands (s.withLki (restartLink s.lki))) := discarded.congr rfl
    exact Silent.foldl _ (fun _ r hu => hu.submit _ _) _
      ((restarted.answer kRestart tag .ok []).congr (submitReportsLost_ports _))

/-- Every request that is served leaves an UNLATCH that begins behind its guard. -/
theorem serveRequest_guarded (h : Silent s) (i : Instr) : Guarded (serveRequest i s) := by
  cases i
  case book => exact (serveBook_silent h ..).guarded
  case cancel => exact (serveCancel_silent h ..).guarded
  case extend => exact (serveExtend_silent h ..).guarded
  case loadOpen tag id =>
    refine withPlacedOrder_guarded h _ _ _ _ fun n => ?_
    split
    · exact h.answered _ _ _ _
    · exact takeDoorCommand_guarded h _ _ _ _ _ fun u => modLocker_records _ _ u
  case release tag id =>
    refine withPlacedOrder_guarded h _ _ _ _ fun n => ?_
    split
    · exact h.answered _ _ _ _
    · exact takeDoorCommand_guarded h _ _ _ _ _ fun u => modLocker_records _ _ u
  case clear tag id =>
    refine withPlacedOrder_guarded h _ _ _ _ fun n => ?_
    split
    · exact h.answered _ _ _ _
    · exact takeDoorCommand_guarded h _ _ _ _ _ fun u => enterClearing_records _ u
  case queryOrder tag id =>
    show Guarded (serveQueryOrder tag id s)
    unfold serveQueryOrder
    split
    · exact h.answered _ _ _ _
    · split <;> exact h.answered _ _ _ _
  case lamp => exact servePosted_guarded h _ _ _ _ _ _
  case label => exact servePosted_guarded h _ _ _ _ _ _
  case moduleWrite => exact servePosted_guarded h _ _ _ _ _ _
  case moduleRead => exact serveModuleRead_guarded h _ _ _
  case abort => exact (serveAbort_silent h ..).guarded
  case tableRead tag x n =>
    show Guarded (serveTableRead tag x n s)
    unfold serveTableRead
    split <;> exact h.answered _ _ _ _
  case tableWrite => exact serveTableWrite_guarded h _ _ _
  case paramGet tag p =>
    show Guarded (serveParamGet tag p s)
    unfold serveParamGet
    split <;> exact h.answered _ _ _ _
  case paramSet => exact (serveParamSet_silent h ..).guarded
  case store tag =>
    show Guarded (serveStore tag s)
    unfold serveStore
    split
    · exact h.answered _ _ _ _
    · exact Silent.guarded (h.congr rfl)
  case rescan => exact (serveRescan_silent h ..).guarded
  case bankReset => exact (serveBankReset_silent h ..).guarded
  case serviceOn => exact (serveServiceOn_silent h ..).guarded
  case serviceOff => exact (serveServiceOff_silent h ..).guarded
  case serviceUnlatch => exact serveServiceUnlatch_guarded h _ _ _
  case clearLocker => exact serveClearLocker_guarded h _ _
  case status => exact h.answered _ _ _ _
  case restart => exact (serveRestart_silent h ..).guarded
  all_goals exact h.guarded

/-! ### Commands -/

theorem takeRequest_guarded (serve : State → State) (hs : ∀ u, Silent u → Guarded (serve u)) (s : State) :
    Guarded (takeRequest serve s) := by
  unfold takeRequest
  split
  · exact chooseTransmit_guarded (Silent.guarded ((heard_silent s).congr rfl))
  · exact chooseTransmit_guarded (hs _ (accepted_silent s))

theorem receive_guarded (h : Silent s) (x : Byte) : Guarded (receive x s) := by
  unfold receive
  dsimp only
  split
  · split
    · exact Silent.guarded (h.congr rfl)
    · exact h.guarded
  · split <;> exact Silent.guarded (h.congr rfl)
  · split <;> exact Silent.guarded (h.congr rfl)
  · exact Silent.guarded (h.congr rfl)
  · have hunts : Silent (s.setRx .hunt none) := h.congr rfl
    unfold completeFrame
    dsimp only
    split
    · exact Silent.guarded (h.congr rfl)
    · split
      · refine takeRequest_guarded _ (fun u hu => ?_) _
        unfold serveFrame
        split
        · exact serveRequest_guarded hu _
        · exact hu.answered _ _ _ _
        · exact hu.answered _ _ _ _
      · exact Silent.guarded (h.congr rfl)

theorem refuseScan_silent (h : Silent s) (m : PanelMessage) (c : PanelCause) (id n : Option Nat) :
    Silent (refuseScan m c id n s) := (h.display m).submit _ _

theorem countUnknown_silent (h : Silent s) : Silent (countUnknown s) := by
  have counted (x : Pni) : Silent { s with pni := x } := h.congr rfl
  unfold countUnknown
  split
  case h_5 => exact ((counted _).display _).submit _ _
  all_goals exact (counted _).display _

theorem takeScan_guarded (h : Silent s) (chars : List Nat) : Guarded (takeScan chars s) := by
  have refused (m : PanelMessage) (c : PanelCause) (id n : Option Nat) : Guarded (refuseScan m c id n s) :=
    (refuseScan_silent h m c id n).guarded
  unfold takeScan
  split
  · exact refused _ _ _ _
  · split
    · exact refused _ _ _ _
    · split
      · exact refused _ _ _ _
      · split
        · exact (countUnknown_silent h).guarded
        · split
          · exact (countUnknown_silent h).guarded
          · unfold decideScan
            split
            · exact refused _ _ _ _
            · split
              · exact refused _ _ _ _
              · split
                · exact refused _ _ _ _
                · split
                  · exact refused _ _ _ _
                  · unfold panelRelease
                    split
                    · exact refused _ _ _ _
                    · split
                      · exact chooseBus_guarded (h.congr rfl)
                      · exact refused _ _ _ _

theorem exec_guarded (ha : s.AttemptsInRange) (i : Instr) (ht : exec i s = .next t) : Guarded t := by
  have cleared : Silent s.clearPorts := silent_of_no_ports rfl
  have elapsed (d : Nat) : Silent (s.clearPorts.elapse d) := silent_of_no_ports rfl
  have attempts : s.clearPorts.AttemptsInRange := ha
  by_cases hi : IsRequest i
  case pos =>
    have taken := takeRequest_guarded (serveRequest i) (fun u hu => serveRequest_guarded hu i) s
    cases i
    case receiveByte | gapTimerExpiry | silenceTimerExpiry | transmitEnd | scan | windowTimerExpiry |
      lockoutTimerExpiry | powerOn | holdTick | frameStart | pollGapTimerExpiry | doorHeld | pulseEnd | quietEnd |
      storeEnd | replyReceived | replyTimeout | broadcastEnd => cases hi
    all_goals
      injection ht with ht
      exact ht ▸ taken
  cases i
  case receiveByte x => injection ht with ht; exact ht ▸ receive_guarded cleared x
  case gapTimerExpiry =>
    simp only [exec, execGapTimerExpiry] at ht
    split at ht <;> injection ht with ht <;> subst ht
    · exact cleared.guarded
    · exact Silent.guarded (silent_of_no_ports rfl)
  case silenceTimerExpiry =>
    simp only [exec, execSilenceTimerExpiry] at ht
    split at ht
    · injection ht with ht
      exact ht ▸ cleared.guarded
    · split at ht <;> injection ht with ht <;> subst ht
      · exact cleared.guarded
      · exact Silent.guarded (silent_of_no_ports rfl)
  case transmitEnd =>
    simp only [exec, execTransmitEnd] at ht
    split at ht <;> injection ht with ht <;> subst ht
    · exact cleared.guarded
    · exact chooseTransmit_guarded (Silent.guarded (cleared.congr rfl))
  case scan chars => injection ht with ht; exact ht ▸ chooseTransmit_guarded (takeScan_guarded cleared chars)
  case windowTimerExpiry =>
    simp only [exec, execWindowTimerExpiry] at ht
    split at ht <;> injection ht with ht <;> subst ht
    · exact cleared.guarded
    · exact Silent.guarded (silent_of_no_ports rfl)
  case lockoutTimerExpiry =>
    simp only [exec, execLockoutTimerExpiry] at ht
    split at ht <;> injection ht with ht <;> subst ht
    · exact cleared.guarded
    · exact Silent.guarded (silent_of_no_ports rfl)
  case powerOn l0 l1 l2 l3 =>
    injection ht with ht
    subst ht
    refine Silent.guarded ?_
    unfold beginDiscovery pulseIfIdle
    dsimp only
    split
    · exact startPulse_silent (silent_of_no_ports rfl)
    · exact silent_of_no_ports rfl
  case holdTick =>
    simp only [exec, execHoldTick] at ht
    split at ht <;> injection ht with ht <;> subst ht
    · exact cleared.guarded
    · refine chooseTransmit_guarded (Silent.guarded ?_)
      exact Silent.records (silent_of_no_ports rfl) (holdTick_records _)
  case frameStart =>
    simp only [exec, execFrameStart] at ht
    split at ht <;> injection ht with ht <;> subst ht
    · exact Silent.guarded (cleared.congr rfl)
    · exact chooseTransmit_guarded (chooseBus_guarded (frameStart_silent (silent_of_no_ports rfl)))
  case pollGapTimerExpiry =>
    simp only [exec, execPollGapTimerExpiry] at ht
    split at ht <;> injection ht with ht <;> subst ht
    · exact cleared.guarded
    · exact chooseTransmit_guarded (chooseBus_guarded (beginCycle_silent (elapsed _)))
  case doorHeld n =>
    simp only [exec, execDoorHeld] at ht
    split at ht <;> injection ht with ht <;> subst ht
    · exact cleared.guarded
    · exact chooseTransmit_guarded (Silent.guarded ((elapsed _).records (examineDoorHeld_records n _)))
  case pulseEnd =>
    simp only [exec, execPulseEnd] at ht
    split at ht <;> injection ht with ht <;> subst ht
    · exact Silent.guarded (silent_of_no_ports rfl)
    · exact cleared.guarded
  case quietEnd =>
    simp only [exec, execQuietEnd] at ht
    split at ht <;> injection ht with ht <;> subst ht
    · refine chooseTransmit_guarded (chooseBus_guarded ?_)
      have released (b : Bbm) (d : Nat) : Silent ((s.clearPorts.elapse d).withBbm b) := (elapsed d).congr rfl
      have noticed (b : Bbm) (d : Nat) := endNotice_silent (released b d)
      unfold cycleAfterQuiet startGap
      split
      · split
        · exact (noticed _ _).congr rfl
        · exact (noticed _ _).congr rfl
      · exact noticed _ _
    · exact cleared.guarded
  case storeEnd good =>
    simp only [exec, execStoreEnd] at ht
    split at ht <;> injection ht with ht <;> subst ht
    · exact chooseTransmit_guarded (Silent.guarded (endLongOp_silent (s := finishStore good s.clearPorts) (cleared.congr rfl) _))
    · exact cleared.guarded
  case replyReceived frame =>
    simp only [exec, execReplyReceived] at ht
    split at ht
    · injection ht with ht
      exact ht ▸ cleared.guarded
    · split at ht <;> injection ht with ht <;> subst ht
      · exact chooseTransmit_guarded (attemptSucceeded_guarded cleared _)
      · exact chooseTransmit_guarded (attemptFailed_guarded cleared attempts)
  case replyTimeout =>
    simp only [exec, execReplyTimeout] at ht
    split at ht <;> injection ht with ht <;> subst ht
    · exact chooseTransmit_guarded (attemptFailed_guarded cleared attempts)
    · exact cleared.guarded
  case broadcastEnd =>
    simp only [exec, execBroadcastEnd] at ht
    split at ht <;> injection ht with ht <;> subst ht
    · exact chooseTransmit_guarded (afterExchange_guarded (cleared.congr rfl))
    · exact cleared.guarded
  all_goals exact absurd rfl hi

/-- Settles O16: an UNLATCH begins with the recheck as it wins the bus, and no later act of the same command changes
its locker's record. -/
theorem unlatchOnlyBehindLatchedDoor : Obligations.UnlatchOnlyBehindLatchedDoor := by
  intro c s t n q f d ha ht hx hf hkind hd
  exact exec_guarded ha c ht n q f d hx hf hkind hd

end Sys2Proof.Proofs

/-! ## How a locker moves between phases (R7, R14, R16, R18, R19, R23, R48, R49) -/

namespace Sys2Proof.Proofs

open Sys2Proof.Machine

variable {s t : State}

/-! ### A change of phase as a write of one record (R7, R35) -/

/-- A change of phase touches the records and the free lists. -/
theorem moveTo_frame (p : Phase) (n : Nat) (s : State) :
    moveTo p n s = { s with
      ltu := { s.ltu with lockers := (moveTo p n s).ltu.lockers }
      oru := { s.oru with
        freeSmall := (moveTo p n s).oru.freeSmall
        freeMedium := (moveTo p n s).oru.freeMedium
        freeLarge := (moveTo p n s).oru.freeLarge } } := by
  unfold moveTo
  dsimp only
  split
  · unfold leftFree State.setFreeList
    cases (s.locker n).cls <;> rfl
  · rfl

/-- What a phase takes with it: its own fields and no others (R7). -/
theorem leave_eq (l : Locker) :
    l.leave = { l with
      openedNoted := if l.phase = .loading ∨ l.phase = .pickup ∨ l.phase = .clearing then none else l.openedNoted
      transientTimer := if l.phase = .loading ∨ l.phase = .pickup ∨ l.phase = .clearing then none else l.transientTimer
      doorHeld := if l.phase = .loading ∨ l.phase = .pickup ∨ l.phase = .clearing then none else l.doorHeld
      clearOrigin := if l.phase = .clearing then none else l.clearOrigin
      purgeProgress := if l.phase = .purging then none else l.purgeProgress
      purgeSuspended := if l.phase = .purging then none else l.purgeSuspended
      resume := if l.phase = .offline then none else l.resume } := by
  obtain ⟨pop, cls, feed, power, fenced, k, c, kn, cn, occ, sample, age, fault, fails, phase, rest⟩ := l
  cases phase <;> rfl

/-- The phases that hold no fields of their own. -/
theorem leave_of_plain (l : Locker) (h : l.phase ∈ [.free, .reserved, .holding, .condemned, .quarantine, .service, .absent]) :
    l.leave = l := by
  simp only [List.mem_cons, List.not_mem_nil, or_false] at h
  unfold Locker.leave
  rcases h with h | h | h | h | h | h | h <;> simp [h]

/-! ### The ends of LOADING, PICKUP and CLEARING (R14, R16, R18) -/

theorem completeTransient_waits (n : Nat) (s : State)
    (h : (s.locker n).phase ∉ [.loading, .pickup, .clearing] ∨ (s.locker n).unlatchPending ≠ none ∨
      ((s.locker n).phase = .pickup ∧ (s.locker n).cDoor ≠ .latched) ∨
      ((s.locker n).phase ≠ .pickup ∧ (s.locker n).kDoor ≠ .latched)) : completeTransient n s = s := by
  unfold completeTransient
  dsimp only
  split
  · rfl
  case h_2 d hw =>
    rw [if_pos]
    rw [← Option.ne_none_iff_isSome]
    cases hp : (s.locker n).phase <;> simp only [hp, Phase.watched, reduceCtorEq, Option.some.injEq] at hw
    all_goals
      subst hw
      simpa [hp, Locker.door] using h

/-- LOADING ends once its unlatch is no longer pending and the kitchen door is LATCHED (R14). -/
theorem completeTransient_loading (n : Nat) (s : State) (hp : (s.locker n).phase = .loading)
    (hs : (s.locker n).unlatchPending = none ∧ (s.locker n).door .k = .latched) :
    completeTransient n s = completeLoading n s := by
  simp [completeTransient, hp, Phase.watched, hs]

/-- PICKUP ends once its unlatch is no longer pending and the concourse door is LATCHED (R16). -/
theorem completeTransient_pickup (n : Nat) (s : State) (hp : (s.locker n).phase = .pickup)
    (hs : (s.locker n).unlatchPending = none ∧ (s.locker n).door .c = .latched) :
    completeTransient n s = completePickup n s := by
  simp [completeTransient, hp, Phase.watched, hs]

/-- CLEARING ends once its unlatch is no longer pending and the kitchen door is LATCHED (R18). -/
theorem completeTransient_clearing (n : Nat) (s : State) (hp : (s.locker n).phase = .clearing)
    (hs : (s.locker n).unlatchPending = none ∧ (s.locker n).door .k = .latched) :
    completeTransient n s = completeClearing n s := by
  simp [completeTransient, hp, Phase.watched, hs]

theorem moveToUnlessExcluded_purging (n : Nat) (s : State) (l : Locker)
    (h : (s.locker n).heaterExcluded = l.heaterExcluded) :
    moveToUnlessExcluded .purging n s = moveTo (if l.heaterExcluded then .service else .purging) n s := by
  unfold moveToUnlessExcluded redirect
  simp [h]

theorem removeOrder_heaterExcluded (id n : Nat) (s : State) :
    ((removeOrder id s).locker n).heaterExcluded = (s.locker n).heaterExcluded := by
  rcases removeOrder_locker_keeps id n s with h | h <;> rw [h]

/-- The end of LOADING (R14). -/
theorem completeLoading_eq (n id : Nat) (s : State) (hr : (s.locker n).orderRef = some id) :
    completeLoading n s =
      if (s.locker n).openedNoted = some true ∧ (s.locker n).occupancy = .occupied then
        submit .loaded [.b1 n, .b4 id] (startHold id (moveTo .holding n s))
      else submit .loadEmpty [.b1 n, .b4 id, .b1 (if (s.locker n).openedNoted = some true then 0 else 1)]
        (moveTo .reserved n s) := by
  unfold completeLoading loadEmpty
  dsimp only
  by_cases ho : (s.locker n).openedNoted = some true
  · rw [if_pos ho]
    split
    case h_1 hc => simp [ho, hc, hr]
    case h_2 hc => simp [ho, hc, hr, Field.flag]
  · simp [ho, hr, Field.flag]

/-- The number of the attempt that is reported (R16). -/
theorem attempts_after (id : Nat) (o : Order) (s : State) (ho : s.order? id = some o) :
    (((s.modOrder id fun o => { o with attempts := satAdd 255 o.attempts 1 }).order? id).map Order.attempts).getD 0 =
      min (o.attempts + 1) 255 := by
  rw [s.modOrder_order id id (fun o => { o with attempts := satAdd 255 o.attempts 1 }) fun _ => rfl]
  simp [ho, s.order_id id o ho, satAdd]

/-- A watched door of a transient phase that is examined (R19). -/
theorem examineDoorHeld_eq (n T : Nat) (d : Door) (s : State) (hw : (s.locker n).phase.watched = some d)
    (hT : (s.locker n).transientTimer = some T) :
    examineDoorHeld n s =
      if (s.locker n).door d = .opened ∧ s.params.doorOpenLimitS * 1000 < T ∧ (s.locker n).doorHeld ≠ some true then
        submit .doorHeld [.b1 n, .b1 d.code, .orderId (s.locker n).orderRef]
          (s.modLocker n fun l => { l with doorHeld := some true })
      else s := by
  unfold examineDoorHeld doorHeldDue
  simp [hw, hT, and_assoc]

theorem examineDoorHeld_unwatched (n : Nat) (s : State) (hw : (s.locker n).phase.watched = none) :
    examineDoorHeld n s = s := by
  simp [examineDoorHeld, doorHeldDue, hw]

/-! ### Condemnation and removal (R23, R48, R49) -/

theorem condemnNotice_eq (l : Locker) :
    l.condemnNotice =
      if l.phase = .holding then { l with phase := .condemned }
      else if l.phase = .offline ∧ l.resume = some .holding then { l with resume := some .condemned }
      else l := by
  unfold Locker.condemnNotice
  by_cases h : l.phase = .holding
  · rw [if_pos h, if_pos h, Locker.enter, leave_of_plain l (by simp [h])]
    rfl
  · rw [if_neg h, if_neg h]

/-- A report taken on a state whose records are written afterwards. -/
theorem submit_setLocker (k : ReportKind) (fs : List Field) (n : Nat) (l : Locker) (s : State) :
    (submit k fs s).setLocker n l =
      { submit k fs s with ltu := { s.ltu with lockers := vset s.ltu.lockers n l } } := by
  rw [submit_eq]
  rfl

theorem removeOrder_eq (id : Nat) (o : Order) (s : State) (ho : s.order? id = some o) :
    removeOrder id s =
      { s with
        oru := { s.oru with
          orders := s.oru.orders.filter fun x => x.id != id
          codeMap := s.oru.codeMap.filter fun e => e.2 != id
          queue := s.oru.queue.filter fun i => i != id }
        ltu := match o.locker with
          | some n => { s.ltu with lockers := vset s.ltu.lockers n { s.locker n with orderRef := none } }
          | none => s.ltu } := by
  unfold removeOrder
  rw [ho]
  simp only [Option.bind_some]
  cases o.locker <;> rfl

/-- The parts of O53, by what they speak of. -/
theorem moveTo_byPhase (p : Phase) (n : Nat) (s : State) (hn : n < 48) :
    (moveTo p n s).locker n = ((s.locker n).leave).arrive p ∧ OtherLockersSame n s (moveTo p n s) :=
  ⟨moveTo_locker_same p n s hn, fun m hm => moveTo_locker_ne p n m s hm⟩

/-- The end of PICKUP of an order with the record `o` (R16). -/
theorem completePickup_eq (n id : Nat) (o : Order) (s : State) (hr : (s.locker n).orderRef = some id)
    (ho : s.order? id = some o) :
    ((s.locker n).openedNoted = some true → (s.locker n).occupancy = .empty →
      completePickup n s = moveTo (if (s.locker n).heaterExcluded then .service else .purging) n
        (removeOrder id (submit .collected [.b1 n, .b4 id, .b1 (if o.condemned.isSome then 1 else 0)] s))) ∧
    ((s.locker n).openedNoted = some true → (s.locker n).occupancy = .occupied →
      completePickup n s = moveTo (if o.condemned.isSome then .condemned else .holding) n
        (submit .pickupReturned [.b1 n, .b4 id, .b1 (min (o.attempts + 1) 255)]
          (s.modOrder id fun o => { o with attempts := satAdd 255 o.attempts 1 }))) ∧
    ((s.locker n).openedNoted ≠ some true →
      completePickup n s = moveTo (if o.condemned.isSome then .condemned else .holding) n
        (submit .pickupTimeout [.b1 n, .b4 id] s)) := by
  have hc := orderCondemned_of s _ id o hr ho
  unfold completePickup
  dsimp only
  rw [hc, hr, Option.getD_some]
  refine ⟨fun hn he => ?_, fun hn he => ?_, fun hn => ?_⟩
  · rw [if_pos hn]
    split
    case h_1 =>
      exact moveToUnlessExcluded_purging n _ _ ((removeOrder_heaterExcluded id n _).trans (by rw [submit_locker]))
    case h_2 hne => simp [he] at hne
  · rw [if_pos hn]
    split
    case h_1 hne => simp [he] at hne
    case h_2 => rw [attempts_after id o s ho]
  · rw [if_neg hn]

/-- The end of CLEARING (R18). -/
theorem completeClearing_eq (n : Nat) (origin : Phase) (s : State) (hc : (s.locker n).clearOrigin = some origin) :
    ((s.locker n).openedNoted = some true → (s.locker n).occupancy = .empty → (s.locker n).orderRef = none →
      completeClearing n s = moveTo (if (s.locker n).heaterExcluded then .service else .purging) n
        (submit .cleared [.b1 n, .b4 0] s)) ∧
    (∀ id, (s.locker n).openedNoted = some true → (s.locker n).occupancy = .empty → (s.locker n).orderRef = some id →
      completeClearing n s = moveTo (if (s.locker n).heaterExcluded then .service else .purging) n
        (removeOrder id (submit .cleared [.b1 n, .b4 id] s))) ∧
    ((s.locker n).openedNoted ≠ some true ∨ (s.locker n).occupancy = .occupied →
      completeClearing n s = moveTo origin n (submit .clearReturned
        [.b1 n, .orderId (s.locker n).orderRef, .b1 (if (s.locker n).openedNoted = some true then 0 else 1)] s)) := by
  unfold completeClearing
  dsimp only
  rw [hc, Option.getD_some]
  refine ⟨fun hn he hr => ?_, fun id hn he hr => ?_, fun h => ?_⟩
  · rw [if_pos hn, hr]
    split
    case h_1 => exact moveToUnlessExcluded_purging n _ _ (by rw [submit_locker])
    case h_2 hne => simp [he] at hne
  · rw [if_pos hn, hr]
    split
    case h_1 =>
      exact moveToUnlessExcluded_purging n _ _ ((removeOrder_heaterExcluded id n _).trans (by rw [submit_locker]))
    case h_2 hne => simp [he] at hne
  · by_cases hn : (s.locker n).openedNoted = some true
    · have he : (s.locker n).occupancy = .occupied := h.resolve_left (not_not.mpr hn)
      rw [if_pos hn]
      split
      case h_1 hne => simp [he] at hne
      case h_2 => simp [hn, Field.flag]
    · simp [hn, Field.flag]

/-- Door-held bookkeeping of a watched door (R19). -/
theorem doorHeldBookkeeping_eq (n : Nat) (before : Locker) (d : Door) (s : State)
    (hw : (s.locker n).phase.watched = some d) :
    doorHeldBookkeeping n before s =
      examineDoorHeld n
        (if (s.locker n).door d = .opened ∧ before.door d ≠ .opened then
          s.modLocker n fun l => { l with transientTimer := some 0 }
        else s) := by
  simp [doorHeldBookkeeping, hw]

/-- The first condemnation of an order (R48). -/
theorem condemn_eq (id : Nat) (c : Cause) (o : Order) (s : State) (ho : s.order? id = some o) (hk : o.condemned = none) :
    (o.locker = none → condemn id c s = submit .condemned [.b4 id, .b1 c.code, .opt1 o.locker]
      (s.modOrder id fun x => { x with condemned := some c })) ∧
    ∀ n, o.locker = some n → condemn id c s =
      (submit .condemned [.b4 id, .b1 c.code, .opt1 o.locker]
        (s.modOrder id fun x => { x with condemned := some c })).setLocker n (s.locker n).condemnNotice := by
  refine ⟨fun hl => by simp [condemn, ho, hk, hl], fun n hl => ?_⟩
  rw [condemn_placed id n c o s ho hk hl, hl, State.modLocker_eq, submit_locker]
  rfl

/-- Settles O53. -/
theorem phasesBySteps : Obligations.PhasesBySteps := by
  refine ⟨fun p n s hn => ?_, fun n s hn => ?_, fun id c s => ⟨condemn_unknown id c s, fun o ho => ⟨fun hk => ?_,
    fun hk => ⟨(condemn_eq id c o s ho hk).1, fun n hl hn => ?_⟩, removeOrder_eq id o s ho⟩⟩⟩
  · obtain ⟨hrec, hother⟩ := moveTo_byPhase p n s hn
    have hl := leave_eq (s.locker n)
    refine ⟨(s.locker n).leave, fun ht => ?_, fun ht => ?_, ?_, ?_, ?_, ?_, ?_, ?_, hother, moveTo_frame p n s,
      fun c => moveTo_freeList p n s c⟩
    · rw [hl]
      simp only [if_pos ht, and_self]
    · rw [hl]
      simp only [if_neg ht, and_self]
    · rw [hl]
    · rw [hl]
    · rw [hl]
    · rw [hl]
    · rw [hl]
    · rw [hrec]
      cases p <;> rfl
  · refine ⟨completeTransient_waits n s, fun id hp hs hr => ?_, fun id o hp hs hr ho => ?_, fun origin hp hs hc => ?_,
      fun before => ?_⟩
    · rw [completeTransient_loading n s hp hs, completeLoading_eq n id s hr]
      split
      · simp only [startHold, State.modOrder, moveTo_orders]
      · rfl
    · rw [completeTransient_pickup n s hp hs]
      exact completePickup_eq n id o s hr ho
    · rw [completeTransient_clearing n s hp hs]
      exact completeClearing_eq n origin s hc
    · refine ⟨fun hw => ?_, fun d hw => doorHeldBookkeeping_eq n before d s hw, fun d T hw hT => examineDoorHeld_eq n T d s hw hT⟩
      have hw : (s.locker n).phase.watched = none := hw
      exact ⟨by simp [doorHeldBookkeeping, hw], examineDoorHeld_unwatched n s hw⟩
  · obtain ⟨k, hk⟩ := Option.ne_none_iff_exists'.mp hk
    exact condemn_again id c k o s ho hk
  · rw [(condemn_eq id c o s ho hk).2 n hl, submit_setLocker, condemnNotice_eq]
    rfl

end Sys2Proof.Proofs

/-! ## Replies on the bank bus and the ends of exchanges (R12, R91, R92, R122 to R124, R152, R159) -/

namespace Sys2Proof.Proofs

open Sys2Proof.Machine

variable {s t : State}

/-! ### A frame and its bytes (R152) -/

theorem crcBytes_length (bytes : List Byte) : (crcBytes bytes).length = 2 := rfl

/-- A frame short enough for the bus is read back from its bytes. -/
theorem parseBusFrame_bytes (f : BusFrame) (h : f.payload.length ≤ 200) : parseBusFrame f.bytes = some f := by
  obtain ⟨addr, kind, payload⟩ := f
  simp only [BusFrame.bytes, List.cons_append, List.nil_append, parseBusFrame]
  rw [List.take_left, List.drop_left, if_pos]
  exact ⟨by rw [List.length_append, crcBytes_length], h, rfl⟩

/-- What a frame that comes whole is read as (R91; a payload of its kind: log entry 15). -/
def readFrame (n request : Nat) (f : BusFrame) : Option Reply :=
  if f.addr ≠ n then none
  else if f.kind = 0x8F then
    match f.payload with
    | [r] => (Reason.ofCode r).map .refused
    | _ => none
  else if f.kind = 0x81 ∧ request = 0x01 then (decodeObservation f.payload).map .observation
  else if f.kind = 0x83 ∧ request = 0x03 then
    match f.payload with
    | [hi, lo] => some (.item (hi * 256 + lo))
    | _ => none
  else if f.kind = 0x80 ∧ request ≠ 0x01 ∧ request ≠ 0x03 then some .ok
  else none

theorem readReply_bytes (n request : Nat) (f : BusFrame) (h : f.payload.length ≤ 200) :
    readReply n request f.bytes = readFrame n request f := by
  unfold readReply
  rw [parseBusFrame_bytes f h]
  rfl

theorem readReply_ok (n request : Nat) (h1 : request ≠ 1) (h3 : request ≠ 3) :
    readReply n request (Reply.frame n .ok).bytes = some .ok := by
  rw [readReply_bytes _ _ _ (by simp [Reply.frame])]
  simp [readFrame, Reply.frame, h1, h3]

theorem readReply_item (n v : Nat) (hv : v < 65536) : readReply n 3 (Reply.frame n (.item v)).bytes = some (.item v) := by
  rw [readReply_bytes _ _ _ (by simp [Reply.frame, Field.bytes])]
  have : v / 256 % 256 * 256 + v % 256 = v := by omega
  simp [readFrame, Reply.frame, Field.bytes, this]

theorem readReply_refused (n request : Nat) (r : Reason) :
    readReply n request (Reply.frame n (.refused r)).bytes = some (.refused r) := by
  rw [readReply_bytes _ _ _ (by simp [Reply.frame])]
  cases r <;> simp [readFrame, Reply.frame, Reason.code, Reason.ofCode]

/-! ### What follows an exchange (R96, R188) -/

/-- What is done at the end of an exchange, by the discovery and the line of the state `s` it ends in. -/
def afterwards (s v : State) : State :=
  match s.ltu.discovery with
  | some ⟨_, .reset⟩ => if s.bbm.line = .idle then startPulse v else chooseBus v
  | _ => chooseBus v

theorem afterwards_eq (s v : State) : afterwards s v = if pulseWanted s then startPulse v else chooseBus v := by
  unfold afterwards pulseWanted
  rcases s.ltu.discovery with _ | ⟨kind, stage⟩
  · rfl
  · cases stage
    · simp only [decide_eq_true_eq]
    · rfl

theorem afterExchange_afterwards (v : State) (hd : v.ltu.discovery = s.ltu.discovery) (hl : v.bbm.line = s.bbm.line) :
    afterExchange v = afterwards s v := by
  rw [afterwards_eq]
  unfold afterExchange pulseWanted
  rw [hd, hl]

/-- The exchange of a command ends (R92). -/
theorem commandEnded_afterwards (q : Nat) (o : CmdOutcome) (h : o ≠ .noReply) :
    commandEnded q o s.clearPorts =
      afterwards s (endCommand q o { s with ports := [], bbm := { s.bbm with exchange := none } }) := by
  unfold commandEnded
  dsimp only
  rw [if_neg h]
  have frame := endCommand_commands q o (clearExchange s.clearPorts)
  exact afterExchange_afterwards _ frame.discovery (by rw [frame.bbm]; rfl)

theorem commandEnded_noReply (q : Nat) :
    commandEnded q .noReply s.clearPorts =
      afterwards s (endCommand q .noReply { s with
        ports := [], bbm := { s.bbm with
          exchange := none, failedExchanges := min (s.bbm.failedExchanges + 1) 65535 } }) := by
  unfold commandEnded
  dsimp only
  rw [if_pos rfl]
  have frame := endCommand_commands q .noReply (countFailedExchange (clearExchange s.clearPorts))
  exact afterExchange_afterwards _ frame.discovery (by rw [frame.bbm]; rfl)

/-- A reply that is read while a command is on the bus (R91). -/
theorem exec_reply_command (n q a : Nat) (f : BusFrame) (r : Reply) (bytes : List Byte)
    (hx : s.bbm.exchange = some (.command n q a f)) (hr : readReply n f.kind bytes = some r) :
    exec (.replyReceived bytes) s =
      .next (chooseTransmit (afterwards s
        (endCommand q (replyOutcome r) { s with ports := [], bbm := { s.bbm with exchange := none } }))) := by
  have hx' : s.clearPorts.bbm.exchange = some (.command n q a f) := hx
  have succeeded : attemptSucceeded r s.clearPorts = commandEnded q (replyOutcome r) s.clearPorts := by
    unfold attemptSucceeded
    rw [hx']
  simp only [exec, execReplyReceived, awaited, hx', hr, succeeded]
  rw [commandEnded_afterwards]
  cases r <;> simp [replyOutcome]

/-! ### The end of a door command at LTU (R12) -/

/-- A reservation reverts exactly where the phase is still the one the command entered (R12). -/
theorem reverted_eq (s : State) (r : CmdRequest) (l : Locker) (hr : r ≠ .moduleRead) :
    l.reverted s r =
      if r.phase = some l.phase then Locker.enter (revertPhase s l) { l with unlatchPending := none }
      else { l with unlatchPending := none } := by
  unfold Locker.reverted revertPhase
  cases r <;> cases hp : l.phase <;> simp [CmdRequest.phase] at hr ⊢

/-- What LTU makes of a door command that ends with any outcome but OK, before faults and ISOLATE (R12). -/
theorem doorCommandEnd_reverts (e : Entry) (s : State) (hn : e.locker < 48) (hr : e.request ≠ .moduleRead) :
    (let v := s.modLocker e.locker fun l => { l with unlatchPending := none }
     if e.request.phase = some (v.locker e.locker).phase then moveTo (revertPhase v (v.locker e.locker)) e.locker v
     else v) = s.setLocker e.locker ((s.locker e.locker).reverted s e.request) := by
  dsimp only
  rw [State.modLocker_same _ _ _ hn, reverted_eq s e.request _ hr]
  split
  case isTrue hp =>
    have hne : (s.locker e.locker).phase ≠ .free := by
      intro hf
      have := CmdRequest.phase_mem _ _ hp
      simp [hf] at this
    rw [moveTo_of_not_free _ _ _ (by rw [State.modLocker_same _ _ _ hn]; exact hne), State.modLocker_same _ _ _ hn,
      State.modLocker_eq, setLocker_setLocker]
    rfl
  case isFalse => rfl

theorem doorCommandEnd_ok (e : Entry) (x : Option Nat) (s : State) :
    doorCommandEnd e (.ok x) s = s.modLocker e.locker fun l => { l with unlatchPending := none } := rfl

/-- What follows the reversion, by the outcome (R12, R20, R102). -/
def afterReversion (n : Nat) (o : CmdOutcome) (s : State) : State :=
  match o with
  | .refused .latchFault => doorFault n .latchFault s
  | .noReply => if s.params.isolate then goOffline n .command s else s
  | _ => s

theorem doorCommandEnd_eq (e : Entry) (o : CmdOutcome) (s : State) (hn : e.locker < 48) (hr : e.request ≠ .moduleRead)
    (ho : ∀ x, o ≠ .ok x) :
    doorCommandEnd e o s = afterReversion e.locker o (s.setLocker e.locker ((s.locker e.locker).reverted s e.request)) := by
  rw [← doorCommandEnd_reverts e s hn hr]
  unfold doorCommandEnd
  dsimp only
  split
  case h_1 x => exact absurd rfl (ho x)
  case h_2 => rfl

theorem isUnlatch_iff (r : CmdRequest) : r.isUnlatch = true ↔ r ≠ .moduleRead := by
  cases r <;> simp [CmdRequest.isUnlatch]

/-- The end of an entry's command: LTU's part, then TXU's (R92, R122). -/
theorem endCommand_entry (q : Nat) (e : Entry) (o : CmdOutcome) (s : State) (he : entryBySeq s.txu q = some e) :
    endCommand q o s = completeEntry e o (lockerCommandEnd e o s) := by
  simp only [endCommand, he, endConfirmed]

theorem lockerCommandEnd_unlatch (e : Entry) (o : CmdOutcome) (s : State) (hr : e.request ≠ .moduleRead) :
    lockerCommandEnd e o s = doorCommandEnd e o s := by
  rw [lockerCommandEnd, if_pos ((isUnlatch_iff _).mpr hr)]

theorem lockerCommandEnd_read (e : Entry) (o : CmdOutcome) (s : State) (hr : e.request = .moduleRead) :
    lockerCommandEnd e o s = if o = .noReply ∧ s.params.isolate then goOffline e.locker .command s else s := by
  rw [lockerCommandEnd, if_neg (by simp [hr, CmdRequest.isUnlatch])]

/-! ### OFFLINE (R27) -/

theorem moveTo_ltu (p : Phase) (n : Nat) (s : State) :
    (moveTo p n s).ltu = { s.ltu with lockers := (moveTo p n s).ltu.lockers } := by
  conv_lhs => rw [moveTo_frame]

/-- A locker goes OFFLINE with its resume phase. -/
theorem goOffline_eq (n : Nat) (c : OfflineCause) (s : State)
    (h : (s.locker n).phase ≠ .offline) (h' : (s.locker n).phase ≠ .absent) :
    goOffline n c s = submit .offline [.b1 n, .b1 c.code, .opt1 ((resumeOf s (s.locker n)).map Phase.code)]
      ((moveTo .offline n s).modLocker n fun l => { l with resume := resumeOf s (s.locker n) }) := by
  simp [goOffline, h, h']

/-! ### TXU's part (R122 to R124, R159) -/

theorem completeEntry_tagged (e : Entry) (o : CmdOutcome) (s : State) (tag : Nat) (ho : e.origin = .server)
    (ht : e.tag = some tag) :
    completeEntry e o s = { s with
      lki := { s.lki with answerQ := s.lki.answerQ ++
        [⟨e.request.kind, tag, (completionAnswer e o).1, (completionAnswer e o).2⟩] }
      txu := { s.txu with
        table := s.txu.table.filter fun x => x.seq != e.seq
        recent := addRecent tag s.txu.recent } } := by
  unfold completeEntry
  dsimp only
  split
  case h_1 hp => simp [ho] at hp
  case h_2 =>
    split
    case h_1 hn => simp [ht] at hn
    case h_2 x hx =>
      cases ht.symm.trans hx
      rfl

theorem completeEntry_untagged (e : Entry) (o : CmdOutcome) (s : State) (ho : e.origin = .server) (ht : e.tag = none) :
    completeEntry e o s = removeEntry e.seq s := by
  unfold completeEntry
  dsimp only
  split
  case h_1 hp => simp [ho] at hp
  case h_2 =>
    split
    case h_1 => rfl
    case h_2 x hx => simp [ht] at hx

theorem completeEntry_panel (e : Entry) (o : CmdOutcome) (s : State) (ho : e.origin = .panel) :
    completeEntry e o s = panelReleaseEnd e.locker o (removeEntry e.seq s) := by
  unfold completeEntry
  dsimp only
  split
  case h_1 => rfl
  case h_2 hp => simp [ho] at hp

theorem panelReleaseEnd_ok (n : Nat) (x : Option Nat) (s : State) :
    panelReleaseEnd n (.ok x) s =
      submit .panelPickup [.orderId (releaseOf n s), .b1 n] (display (.opened n) (dropRelease n s)) := rfl

/-- A release whose door did not open (R159). -/
theorem panelReleaseEnd_refused (n : Nat) (o : CmdOutcome) (s : State) (h : ∀ x, o ≠ .ok x) :
    panelReleaseEnd n o s =
      submit .panelRefused [.b1 (refusalOf o).1.refusalCode, .b1 (refusalOf o).2.code, .orderId (releaseOf n s), .b1 n]
        (display (refusalOf o).1 (dropRelease n s)) := by
  unfold panelReleaseEnd
  dsimp only
  split
  case h_1 x => exact absurd rfl (h x)
  case h_2 => rfl

/-! ### Posted commands (R123) -/

theorem endCommand_posted (q : Nat) (p : Posted) (o : CmdOutcome) (s : State) (hn : entryBySeq s.txu q = none)
    (hp : postedBySeq s.txu q = some p) : endCommand q o s = endPosted p o s := by
  simp only [endCommand, hn, hp]

/-- Settles O54. -/
theorem commandExchangeEnds : Obligations.CommandExchangeEnds := by
  refine ⟨fun n q a f s hx hn => ⟨fun h1 h3 => ?_, fun v hk hv => ?_, fun r => ?_, fun ha => ?_⟩,
    fun q e o s he => ⟨fun hr => ?_, fun hr hn => ⟨?_, ?_, ?_, ?_⟩⟩, fun n c s hn => ⟨fun h => ?_, fun h h' => ?_⟩,
    fun e o s => ⟨fun tag ho ht => ?_, fun ho ht => ?_, fun ho => ⟨?_, fun m mc cause hm => ?_⟩⟩,
    fun q p s hn hp => ⟨fun x => ?_, fun r => ?_, ?_, ?_⟩⟩
  · exact exec_reply_command n q a f .ok _ hx (readReply_ok n _ h1 h3)
  · exact exec_reply_command n q a f (.item v) _ hx (hk ▸ readReply_item n v hv)
  · exact exec_reply_command n q a f (.refused r) _ hx (readReply_refused n _ r)
  · have hx' : s.clearPorts.bbm.exchange = some (.command n q a f) := hx
    have failed : attemptFailed s.clearPorts = commandEnded q .noReply s.clearPorts := by
      unfold attemptFailed
      rw [hx']
      exact if_neg (by omega)
    simp only [exec, execReplyTimeout, awaited, hx', Option.isSome_some, if_true, failed]
    rw [commandEnded_noReply]
    rfl
  · rw [endCommand_entry q e o s he, lockerCommandEnd_read e o s hr]
  · rintro ⟨x, rfl⟩
    rw [endCommand_entry q e _ s he, lockerCommandEnd_unlatch e _ s hr, doorCommandEnd_ok]
    rfl
  · rintro rfl
    rw [endCommand_entry q e _ s he, lockerCommandEnd_unlatch e _ s hr, doorCommandEnd_eq e _ s hn hr (by simp)]
    rfl
  · rintro rfl
    rw [endCommand_entry q e _ s he, lockerCommandEnd_unlatch e _ s hr, doorCommandEnd_eq e _ s hn hr (by simp)]
    rfl
  · intro hok hfault hreply
    rw [endCommand_entry q e o s he, lockerCommandEnd_unlatch e o s hr, doorCommandEnd_eq e o s hn hr hok]
    unfold afterReversion
    split
    · exact absurd rfl hfault
    · exact absurd rfl hreply
    · rfl
  · simp [goOffline, h]
  · have same : (match (s.locker n).phase with
        | .loading => some .reserved
        | .pickup => some (if orderCondemned s (s.locker n) then .condemned else .holding)
        | .clearing => (s.locker n).clearOrigin
        | p => some p) = resumeOf s (s.locker n) := by
      unfold resumeOf
      cases hp : (s.locker n).phase <;> simp [hp] at h h' ⊢
    refine ⟨(moveTo .offline n s).modLocker n fun l => { l with resume := resumeOf s (s.locker n) }, ?_, ?_, ?_,
      fun m hm => by rw [State.modLocker_ne _ _ _ _ hm, moveTo_locker_ne _ _ _ _ hm]⟩
    · rw [goOffline_eq n c s h h']
      exact congrArg (fun r => submit .offline [.b1 n, .b1 c.code, .opt1 (r.map Phase.code)] _) same.symm
    · rw [State.modLocker_same _ _ _ hn]
      exact congrArg (fun r => { (moveTo .offline n s).locker n with resume := r }) same.symm
    · conv_lhs => rw [State.modLocker_eq, State.setLocker, moveTo_ltu]
      rfl
  · rw [completeEntry_tagged e o s tag ho ht]
    cases o
    case ok v =>
      by_cases hr : e.request = .moduleRead
      · simp [completionAnswer, hr, addRecent]
      · cases hd : e.door <;> simp [completionAnswer, hr, hd, addRecent, Field.opt1]
    all_goals rfl
  · exact completeEntry_untagged e o s ho ht
  · rintro ⟨x, rfl⟩
    rw [completeEntry_panel e _ s ho, panelReleaseEnd_ok]
    rfl
  · rw [completeEntry_panel e o s ho]
    cases o
    case ok | aborted => cases hm
    all_goals
      cases hm
      exact panelReleaseEnd_refused _ _ _ (by simp)
  · rw [endCommand_posted q p _ s hn hp]
    rfl
  · rw [endCommand_posted q p _ s hn hp]
    cases r <;> rfl
  · rw [endCommand_posted q p _ s hn hp]
    rfl
  · rw [endCommand_posted q p _ s hn hp]
    rfl

end Sys2Proof.Proofs

/-! ## The LAYOUT write (R1, R99, R170, R171) -/

namespace Sys2Proof.Proofs

open Sys2Proof.Machine

/-! ### The cycle after a LAYOUT write (R99) -/

theorem nextPolled_none_iff (s : State) (c : Nat) :
    nextPolled s c = none ↔ ∀ n, n < 48 → c ≤ n → (s.locker n).phase = .absent := by
  simp [nextPolled, Config.allLockers]

theorem pollOnBus_false_iff (s : State) : pollOnBus s = false ↔ ∀ n a m, s.bbm.exchange ≠ some (.poll n a m) := by
  unfold pollOnBus
  split
  case h_1 n a m h => exact ⟨fun hf => absurd hf (by simp), fun hf => absurd h (hf n a m)⟩
  case h_2 h => exact ⟨fun _ n a m => h n a m, fun _ => rfl⟩

/-- What the gap timer does as the cycle ends (R99). -/
theorem startGap_zero (s : State) (h : s.params.pollGapMs = 0) :
    startGap s = { s with bbm := { s.bbm with cycle := .running, cursor := 0, pollGap := none } } := by
  simp [startGap, h, State.withBbm]

theorem startGap_pos (s : State) (h : s.params.pollGapMs ≠ 0) :
    startGap s = { s with bbm := { s.bbm with cycle := .gap, pollGap := some (0, s.params.pollGapMs) } } := by
  simp [startGap, h, State.withBbm]

/-- A RUNNING cycle, its cursor above 0 and no poll on the bus, has no locker left to poll (R99). -/
def CycleSpent (u : State) : Prop :=
  u.bbm.cycle = .running ∧ 0 < u.bbm.cursor ∧ (∀ n a m, u.bbm.exchange ≠ some (.poll n a m)) ∧
    ∀ n, n < 48 → u.bbm.cursor ≤ n → (u.locker n).phase = .absent

theorem cycleAfterLayoutWrite_spent (u : State) (h : CycleSpent u) : cycleAfterLayoutWrite u = startGap u := by
  obtain ⟨running, moved, noPoll, absent⟩ := h
  rw [cycleAfterLayoutWrite, if_pos]
  rw [← nextPolled_none_iff] at absent
  rw [← pollOnBus_false_iff] at noPoll
  exact ⟨running, moved, noPoll, by rw [absent]; rfl⟩

theorem cycleAfterLayoutWrite_unspent (u : State) (h : ¬ CycleSpent u) : cycleAfterLayoutWrite u = u := by
  rw [cycleAfterLayoutWrite, if_neg]
  rintro ⟨running, moved, noPoll, absent⟩
  rw [Option.isNone_iff_eq_none, nextPolled_none_iff] at absent
  exact h ⟨running, moved, (pollOnBus_false_iff u).mp noPoll, absent⟩

/-! ### The offer of a freed locker touches its own record only (R43) -/

theorem becameFree_locker_ne (n m : Nat) (s : State) (h : m ≠ n) : (becameFree n s).locker m = s.locker m := by
  unfold becameFree
  dsimp only
  split
  · rfl
  · split
    · simp [placePending, join_locker_ne, h]
    · simp

/-! ### The write (R170, R171) -/

theorem boolOf_flag (b : Bool) : boolOf (if b then 1 else 0) = some b := by cases b <;> rfl

theorem boolOf_none (v : Nat) (h : 1 < v) : boolOf v = none := by
  unfold boolOf
  split
  · omega
  · omega
  · rfl

theorem SizeClass.ofCode_none (v : Nat) (h : 2 < v) : SizeClass.ofCode v = none := by
  unfold SizeClass.ofCode
  split
  · omega
  · omega
  · omega
  · rfl

theorem SizeClass.code_of_ofCode (v : Nat) (c : SizeClass) (h : SizeClass.ofCode v = some c) : c.code = v := by
  unfold SizeClass.ofCode at h
  split at h <;> cases h <;> rfl

/-- The working copy with its new entry (R170). -/
def layoutHeld (n : Nat) (e : LayoutEntry) (s : State) : State :=
  s.withWorking { s.sst.working with layout := vset s.sst.working.layout n e }

theorem writeLayout_badArgument (tag n p k f w : Nat) (s : State) (h : 47 < n ∨ 1 < p ∨ 2 < k ∨ 3 < f) :
    writeLayout tag n p k f w s = answer kTableWrite tag .badArgument [] s := by
  unfold writeLayout refuseWrite
  by_cases hn : 47 < n
  · rw [if_pos hn]
  · rw [if_neg hn]
    rcases h with h | h | h | h
    · exact absurd h hn
    · rw [boolOf_none p h]
    · rw [SizeClass.ofCode_none k h]
      split
      case h_1 _ _ _ hc => cases hc
      case h_2 => rfl
    · split
      · rw [if_pos h]
      · rfl

/-- The rated power as it is taken: 50 to 1000 W, in steps of 10 W (R170). -/
theorem clampTens_power (w : Nat) : clampTens 50 1000 w = max 50 (min w 1000) / 10 * 10 := rfl

/-- A LAYOUT write that names a position, a class and a feed is checked and then taken (R170, R171). -/
theorem writeLayout_checked (tag n cls feed power : Nat) (populated : Bool) (c : SizeClass) (s : State)
    (hn : n < 48) (hc : SizeClass.ofCode cls = some c) (hf : feed ≤ 3) :
    writeLayout tag n (if populated then 1 else 0) cls feed power s =
      refusedOr kTableWrite tag (checkLayout (s.locker n) populated) s
        (chooseBus (answer kTableWrite tag (if clampTens 50 1000 power = power then .ok else .okClamped)
          [.b1 0, .b1 n, .flag populated, .b1 cls, .b1 feed, .b2 (clampTens 50 1000 power)]
          (cycleAfterLayoutWrite (layoutAccepted n ⟨populated, c, feed, clampTens 50 1000 power⟩
            (layoutHeld n ⟨populated, c, feed, clampTens 50 1000 power⟩ s))))) := by
  unfold writeLayout
  rw [if_neg (by omega : ¬ 47 < n), boolOf_flag, hc]
  dsimp only
  rw [if_neg (by omega : ¬ 3 < feed)]
  cases hk : checkLayout (s.locker n) populated with
  | some st => rfl
  | none =>
    have status : (if decide (clampTens 50 1000 power ≠ power) then Status.okClamped else .ok) =
        if clampTens 50 1000 power = power then .ok else .okClamped := by
      by_cases hw : clampTens 50 1000 power = power <;> simp [hw]
    have body : (⟨populated, c, feed, clampTens 50 1000 power⟩ : LayoutEntry).fields =
        [.flag populated, .b1 cls, .b1 feed, .b2 (clampTens 50 1000 power)] := by
      simp [LayoutEntry.fields, SizeClass.code_of_ofCode cls c hc]
    simp only [answerWrite, status, body, refusedOr_none]
    rfl

/-- The state an accepted LAYOUT write leaves at LTU and ORU. -/
def layoutTaken (n : Nat) (e : LayoutEntry) (s : State) : State := layoutAccepted n e (layoutHeld n e s.accepted)

theorem exec_layoutWrite (tag n cls feed power : Nat) (populated : Bool) (c : SizeClass) (s : State)
    (hp : s.lki.placesHeld < 32) (hn : n < 48) (hc : SizeClass.ofCode cls = some c) (hf : feed ≤ 3) :
    exec (.tableWrite tag n (.layout (if populated then 1 else 0) cls feed power)) s = .next (chooseTransmit
      (refusedOr kTableWrite tag (checkLayout (s.locker n) populated) s.accepted
        (chooseBus (answer kTableWrite tag (if clampTens 50 1000 power = power then .ok else .okClamped)
          [.b1 0, .b1 n, .flag populated, .b1 cls, .b1 feed, .b2 (clampTens 50 1000 power)]
          (cycleAfterLayoutWrite (layoutTaken n ⟨populated, c, feed, clampTens 50 1000 power⟩ s)))))) := by
  rw [exec_served (.tableWrite tag n _) s rfl hp, ← accepted_locker s n]
  exact congrArg (fun t => Host.Outcome.next (chooseTransmit t))
    (writeLayout_checked tag n cls feed power populated c s.accepted hn hc hf)

/-! ### What it leaves of the other units -/

theorem layoutTaken_sst (n : Nat) (e : LayoutEntry) (s : State) :
    (layoutTaken n e s).sst =
      { s.sst with working := { s.sst.working with layout := vset s.sst.working.layout n e } } := by
  rw [layoutTaken, (layoutAccepted_records _ _ _).sst]
  simp [layoutHeld]

theorem layoutTaken_txu (n : Nat) (e : LayoutEntry) (s : State) : (layoutTaken n e s).txu = s.txu := by
  rw [layoutTaken, (layoutAccepted_records _ _ _).txu]
  simp [layoutHeld]

theorem layoutTaken_bbm (n : Nat) (e : LayoutEntry) (s : State) : (layoutTaken n e s).bbm = s.bbm := by
  rw [layoutTaken, (layoutAccepted_records _ _ _).bbm]
  simp [layoutHeld]

theorem layoutTaken_hta (n : Nat) (e : LayoutEntry) (s : State) : (layoutTaken n e s).hta = s.hta := by
  rw [layoutTaken, (layoutAccepted_records _ _ _).hta]
  simp [layoutHeld]

theorem layoutTaken_others (n : Nat) (e : LayoutEntry) (s : State) : OtherLockersSame n s (layoutTaken n e s) := by
  intro m hm
  unfold layoutTaken layoutAccepted
  dsimp only
  split
  · split
    · simp [layoutHeld, hm]
    · split
      · rw [becameFree_locker_ne n m _ hm]
        simp [layoutHeld, hm]
      · simp [layoutHeld, hm]
  · simp [layoutHeld, hm]

/-- A write of a FREE locker's entry with another class: off the old list, then offered (R35). -/
theorem layoutTaken_reclassed (n : Nat) (e : LayoutEntry) (s : State) (hp : (s.locker n).phase = .free)
    (he : e.populated = true) (hc : e.cls ≠ (s.locker n).cls) :
    layoutTaken n e s = becameFree n (leftFree (s.locker n).cls n
      ((layoutHeld n e s.accepted).setLocker n ((s.locker n).copyLayout e))) := by
  simp [layoutTaken, layoutAccepted, layoutHeld, Locker.layoutPhase, Locker.copyLayout, hp, he, hc]

/-- An emptied FREE position: off its list (R35). -/
theorem layoutTaken_emptied (n : Nat) (e : LayoutEntry) (s : State) (hp : (s.locker n).phase = .free)
    (he : e.populated = false) :
    layoutTaken n e s = leftFree (s.locker n).cls n
      ((layoutHeld n e s.accepted).setLocker n (((s.locker n).copyLayout e).enter .absent)) := by
  simp [layoutTaken, layoutAccepted, layoutHeld, Locker.layoutPhase, Locker.copyLayout, hp, he]

/-- Any other write changes the record alone. -/
theorem layoutTaken_kept (n : Nat) (e : LayoutEntry) (s : State)
    (h : (s.locker n).phase = .free → e.populated = true ∧ e.cls = (s.locker n).cls) :
    layoutTaken n e s =
      (layoutHeld n e s.accepted).setLocker n (((s.locker n).copyLayout e).layoutPhase e) := by
  by_cases hp : (s.locker n).phase = .free
  · obtain ⟨he, hc⟩ := h hp
    simp [layoutTaken, layoutAccepted, layoutHeld, hp, he, hc]
  · simp [layoutTaken, layoutAccepted, layoutHeld, hp]

theorem layoutTaken_kept_oru (n : Nat) (e : LayoutEntry) (s : State)
    (h : (s.locker n).phase = .free → e.populated = true ∧ e.cls = (s.locker n).cls) :
    (layoutTaken n e s).oru = s.oru := by
  rw [layoutTaken_kept n e s h]
  simp [layoutHeld]

theorem layoutTaken_kept_locker (n : Nat) (e : LayoutEntry) (s : State) (hn : n < 48)
    (h : (s.locker n).phase = .free → e.populated = true ∧ e.cls = (s.locker n).cls) :
    (layoutTaken n e s).locker n = ((s.locker n).copyLayout e).layoutPhase e := by
  rw [layoutTaken_kept n e s h, State.setLocker_same _ _ _ hn]

theorem mem_leftFree (c : SizeClass) (n m : Nat) (s : State) :
    m ∈ (leftFree c n s).freeList c ↔ m ∈ s.freeList c ∧ m ≠ n := by
  simp [leftFree, State.setFreeList_freeList]

/-- A phase without fields of its own, left for ABSENT (R7). -/
theorem enter_absent (l : Locker) (h : l.phase = .free ∨ l.phase = .service) : l.enter .absent = { l with phase := .absent } := by
  rw [Locker.enter, leave_of_plain l (by rcases h with h | h <;> simp [h])]
  rfl

/-- Settles O40. -/
theorem layoutWriteByRule : Obligations.LayoutWriteByRule := by
  refine ⟨fun u => ⟨cycleAfterLayoutWrite_unspent u, fun h hg => ?_, fun h hg => ?_⟩, ?_⟩
  · rw [cycleAfterLayoutWrite_spent u h, startGap_zero u hg]
  · rw [cycleAfterLayoutWrite_spent u h, startGap_pos u hg]
  intro tag n cls feed power populated c s hp hc hf
  have run (hn : n < 48) := exec_layoutWrite tag n cls feed power populated c s hp hn hc hf
  have taken (u : State) (hn : n < 48) (hk : checkLayout (s.locker n) populated = none)
      (hu : layoutTaken n ⟨populated, c, feed, clampTens 50 1000 power⟩ s = u) :
      exec (.tableWrite tag n (.layout (if populated then 1 else 0) cls feed power)) s =
        .next (chooseTransmit (chooseBus (answer kTableWrite tag
          (if clampTens 50 1000 power = power then .ok else .okClamped)
          [.b1 0, .b1 n, .flag populated, .b1 cls, .b1 feed, .b2 (clampTens 50 1000 power)] (cycleAfterLayoutWrite u)))) ∧
      u.sst = { s.sst with working := { s.sst.working with
        layout := vset s.sst.working.layout n ⟨populated, c, feed, clampTens 50 1000 power⟩ } } ∧
      OtherLockersSame n s u ∧ u.txu = s.txu ∧ u.bbm = s.bbm ∧ u.hta = s.hta := by
    subst hu
    refine ⟨?_, layoutTaken_sst _ _ _, layoutTaken_others _ _ _, layoutTaken_txu _ _ _, layoutTaken_bbm _ _ _,
      layoutTaken_hta _ _ _⟩
    rw [run hn, hk, refusedOr_none]
  refine ⟨fun p k f w h => ?_, fun hn h => ?_, fun hn h h' ho => ?_, fun hn h h' ho hu => ?_, fun hn h h' => ?_,
    fun hn h h' => ?_, fun hn h h' => ?_, fun hn h h' => ?_, fun hn h h' hcls => ?_⟩
  · rw [exec_served (.tableWrite tag n _) s rfl hp]
    exact congrArg (fun t => Host.Outcome.next (chooseTransmit t)) (writeLayout_badArgument tag n p k f w _ h)
  · dsimp only
    rw [run hn]
    simp only [List.mem_cons, List.not_mem_nil, or_false, not_or] at h
    simp [checkLayout, h]
  · dsimp only
    rw [run hn]
    simp [checkLayout, h, h', Option.isSome_iff_ne_none, ho]
  · dsimp only
    rw [run hn]
    simp [checkLayout, h, h', Option.isSome_iff_ne_none, ho, hu]
  · refine ⟨_, taken _ hn (by simp [checkLayout, h, h']) rfl, layoutTaken_kept_oru n _ s (by simp [h']), ?_⟩
    rw [layoutTaken_kept_locker n _ s hn (by simp [h'])]
    simp [Locker.layoutPhase, Locker.copyLayout, Locker.enter, Locker.leave, Locker.arrive, h, h', clampTens_power]
  · have kept : (s.locker n).phase = .free → populated = true ∧ c = (s.locker n).cls := by
      intro hfree
      rcases h' with h' | ⟨-, h'⟩
      · simp [h'] at hfree
      · exact ⟨h, h'⟩
    have present : (s.locker n).phase ≠ .absent := by rcases h' with h' | ⟨h', -⟩ <;> simp [h']
    have passed : checkLayout (s.locker n) populated = none := by
      rcases h' with h' | ⟨h', -⟩ <;> simp [checkLayout, h, h']
    refine ⟨_, taken _ hn passed rfl, layoutTaken_kept_oru n _ s kept, ?_⟩
    rw [layoutTaken_kept_locker n _ s hn kept]
    simp [Locker.layoutPhase, Locker.copyLayout, h, present, clampTens_power]
  · have passed : checkLayout (s.locker n) populated = none := by simp [checkLayout, h, h']
    refine ⟨_, taken _ hn passed (layoutTaken_emptied n _ s h' h), by simp [layoutHeld], fun m => ?_, ?_⟩
    · rw [mem_leftFree]
      simp [layoutHeld]
    · rw [leftFree_locker, State.setLocker_same _ _ _ hn, enter_absent _ (by simp [Locker.copyLayout, h'])]
      simp [Locker.copyLayout, h, clampTens_power]
  · have kept : (s.locker n).phase = .free → populated = true ∧ c = (s.locker n).cls := by
      rcases h' with h' | ⟨h', -⟩ <;> simp [h']
    have passed : checkLayout (s.locker n) populated = none := by
      rcases h' with h' | ⟨h', hr, hu⟩
      · simp [checkLayout, h']
      · simp [checkLayout, h', hr, hu]
    refine ⟨_, taken _ hn passed rfl, layoutTaken_kept_oru n _ s kept, ?_⟩
    rw [layoutTaken_kept_locker n _ s hn kept]
    rcases h' with h' | ⟨h', -⟩
    · simp [Locker.layoutPhase, Locker.copyLayout, h, h', clampTens_power]
    · simp [Locker.layoutPhase, Locker.copyLayout, h, h', clampTens_power, enter_absent]
  · have passed : checkLayout (s.locker n) populated = none := by simp [checkLayout, h, h']
    refine ⟨_, taken _ hn passed (layoutTaken_reclassed n _ s h' h hcls), fun m => ?_, by simp [layoutHeld],
      by simp [layoutHeld], ?_⟩
    · rw [mem_leftFree]
      simp [layoutHeld]
    · rw [leftFree_locker, State.setLocker_same _ _ _ hn]
      simp [Locker.copyLayout, h, clampTens_power]

end Sys2Proof.Proofs

/-! ## Attempts that fail, by REPLY_TIMEOUT or by a reply (R91, R92, R94, R152) -/

namespace Sys2Proof.Proofs

open Sys2Proof.Machine

variable {s t u : State}

/-! ### What the last poll measured is not touched by phases (R3, R7) -/

/-- The fields of a record that a reply or the layout sets, and the slots granted. -/
def measured (l : Locker) :
    (DoorState × DoorState × Nat × Nat × Occupancy × FaultCode) × (Option Int × Nat × Nat × Nat × Nat) :=
  ((l.kDoor, l.cDoor, l.kSeen, l.cSeen, l.occupancy, l.fault), (l.sample, l.sampleAge, l.pollFails, l.power, l.granted))

theorem enter_measured (p : Phase) (l : Locker) : measured (l.enter p) = measured l := by
  obtain ⟨-, -, -, power, kDoor, cDoor, kSeen, cSeen, sample, age, occ, fault, fails, -, -, -, granted, -, -⟩ :=
    enter_keeps p l
  simp only [measured, power, kDoor, cDoor, kSeen, cSeen, sample, age, occ, fault, fails, granted]

theorem reverted_measured (r : CmdRequest) (l : Locker) : measured (l.reverted s r) = measured l := by
  unfold Locker.reverted
  dsimp only
  split
  case h_6 => rfl
  all_goals exact enter_measured _ _

/-! ### Commands that end without a fault and without silence (R11, R12, R129, R130) -/

/-- The outcomes that only revert the reservation. -/
def CmdOutcome.Plain (o : CmdOutcome) : Prop := (∀ v, o ≠ .ok v) ∧ o ≠ .refused .latchFault ∧ o ≠ .noReply

/-- LTU's part of such an end (R12). -/
theorem lockerCommandEnd_plain (e : Entry) (o : CmdOutcome) (s : State) (ho : CmdOutcome.Plain o) :
    lockerCommandEnd e o s =
      if e.request = .moduleRead then s
      else s.setLocker e.locker ((s.locker e.locker).reverted s e.request) := by
  obtain ⟨hok, hfault, hreply⟩ := ho
  by_cases hr : e.request = .moduleRead
  · simp [lockerCommandEnd_read e o s hr, hr, hreply]
  · rw [lockerCommandEnd_unlatch e o s hr, if_neg hr]
    have reversionOnly (x : State) : afterReversion e.locker o x = x := by
      unfold afterReversion
      split
      · exact absurd rfl hfault
      · exact absurd rfl hreply
      · rfl
    by_cases hn : e.locker < 48
    · rw [doorCommandEnd_eq e o s hn hr hok, reversionOnly]
    · have hout : 48 ≤ e.locker := Nat.le_of_not_lt hn
      have noPhase : ¬ e.request.phase = some (s.locker e.locker).phase := by
        intro h
        have := CmdRequest.phase_mem _ _ h
        rw [State.locker_out s _ hout] at this
        simp [Locker.blank] at this
      rw [State.setLocker_out _ _ _ hout]
      unfold doorCommandEnd
      dsimp only
      rw [State.modLocker_eq, State.setLocker_out _ _ _ hout, if_neg noPhase]
      split
      · rfl
      · exact reversionOnly s

theorem recheck_plain (e : Entry) (s : State) (o : CmdOutcome) (h : recheck e s = some o) : CmdOutcome.Plain o := by
  unfold recheck at h
  dsimp only at h
  refine ⟨?_, ?_, recheck_ne_noReply e s o h⟩
  · rintro v rfl
    repeat' split at h
    all_goals cases h
  · rintro rfl
    repeat' split at h
    all_goals cases h

theorem panelReleaseEnd_ltu (n : Nat) (o : CmdOutcome) (s : State) : (panelReleaseEnd n o s).ltu = s.ltu := by
  unfold panelReleaseEnd
  dsimp only
  split <;> simp [reportRefused, display, dropRelease]

theorem panelReleaseEnd_oru (n : Nat) (o : CmdOutcome) (s : State) : (panelReleaseEnd n o s).oru = s.oru := by
  unfold panelReleaseEnd
  dsimp only
  split <;> simp [reportRefused, display, dropRelease]

theorem completeEntry_ltu (e : Entry) (o : CmdOutcome) (s : State) : (completeEntry e o s).ltu = s.ltu := by
  cases ho : e.origin with
  | panel => rw [completeEntry_panel e o s ho, panelReleaseEnd_ltu]; rfl
  | server =>
    cases ht : e.tag with
    | none => rw [completeEntry_untagged e o s ho ht]; rfl
    | some tag => rw [completeEntry_tagged e o s tag ho ht]

theorem completeEntry_oru (e : Entry) (o : CmdOutcome) (s : State) : (completeEntry e o s).oru = s.oru := by
  cases ho : e.origin with
  | panel => rw [completeEntry_panel e o s ho, panelReleaseEnd_oru]; rfl
  | server =>
    cases ht : e.tag with
    | none => rw [completeEntry_untagged e o s ho ht]; rfl
    | some tag => rw [completeEntry_tagged e o s tag ho ht]

theorem endPosted_ltu (p : Posted) (o : CmdOutcome) (s : State) : (endPosted p o s).ltu = s.ltu := by
  unfold endPosted
  dsimp only
  split
  case h_2 => split <;> simp [reportPostedLost, countPostedLost, removePosted]
  all_goals simp [reportPostedLost, countPostedLost, removePosted]

theorem endPosted_oru (p : Posted) (o : CmdOutcome) (s : State) : (endPosted p o s).oru = s.oru := by
  unfold endPosted
  dsimp only
  split
  case h_2 => split <;> simp [reportPostedLost, countPostedLost, removePosted]
  all_goals simp [reportPostedLost, countPostedLost, removePosted]

/-! ### What the bus's choice leaves of the orders and the records (R97) -/

/-- The orders stay, the measured fields stay, an OFFLINE locker stays OFFLINE with its resume phase. -/
def GivenAway (s t : State) : Prop :=
  t.oru = s.oru ∧ ∀ m, measured (t.locker m) = measured (s.locker m) ∧
    ((s.locker m).phase = .offline → (t.locker m).phase = .offline ∧ (t.locker m).resume = (s.locker m).resume)

theorem GivenAway.of_same (ho : t.oru = s.oru) (hl : t.ltu.lockers = s.ltu.lockers) : GivenAway s t := by
  have same (m : Nat) : t.locker m = s.locker m := by simp only [State.locker, hl]
  exact ⟨ho, fun m => ⟨by rw [same], fun h => by rw [same]; exact ⟨h, rfl⟩⟩⟩

theorem GivenAway.trans (h : GivenAway s t) (k : GivenAway t u) : GivenAway s u := by
  refine ⟨k.1.trans h.1, fun m => ⟨((k.2 m).1).trans (h.2 m).1, fun hp => ?_⟩⟩
  obtain ⟨hp', hr'⟩ := (h.2 m).2 hp
  obtain ⟨hp'', hr''⟩ := (k.2 m).2 hp'
  exact ⟨hp'', hr''.trans hr'⟩

theorem reverted_offline (r : CmdRequest) (l : Locker) (h : l.phase = .offline) :
    l.reverted s r = { l with unlatchPending := none } := by
  unfold Locker.reverted
  cases r <;> simp [h]

theorem setLocker_reverted_givenAway (n : Nat) (r : CmdRequest) (s : State) :
    GivenAway s (s.setLocker n ((s.locker n).reverted s r)) := by
  refine ⟨rfl, fun m => ?_⟩
  by_cases hm : m = n
  · subst hm
    by_cases hn : m < 48
    · rw [State.setLocker_same _ _ _ hn]
      exact ⟨reverted_measured _ _, fun h => by rw [reverted_offline r _ h]; exact ⟨h, rfl⟩⟩
    · rw [State.setLocker_out _ _ _ (Nat.le_of_not_lt hn)]
      exact ⟨rfl, fun h => ⟨h, rfl⟩⟩
  · rw [State.setLocker_ne _ _ _ _ hm]
    exact ⟨rfl, fun h => ⟨h, rfl⟩⟩

theorem lockerCommandEnd_givenAway (e : Entry) (o : CmdOutcome) (s : State) (ho : CmdOutcome.Plain o) :
    GivenAway s (lockerCommandEnd e o s) := by
  rw [lockerCommandEnd_plain e o s ho]
  split
  · exact .of_same rfl rfl
  · exact setLocker_reverted_givenAway _ _ _

theorem endCommand_givenAway (q : Nat) (o : CmdOutcome) (s : State) (ho : CmdOutcome.Plain o) :
    GivenAway s (endCommand q o s) := by
  unfold endCommand
  split
  case h_1 e _ =>
    exact (lockerCommandEnd_givenAway e o s ho).trans
      (.of_same (completeEntry_oru _ _ _) (congrArg Ltu.lockers (completeEntry_ltu _ _ _)))
  case h_2 =>
    split
    case h_1 p _ => exact .of_same (endPosted_oru _ _ _) (congrArg Ltu.lockers (endPosted_ltu _ _ _))
    case h_2 => exact .of_same rfl rfl

theorem beginCommand_givenAway (q : Nat) (s : State) : GivenAway s (beginCommand q s) := by
  have won : GivenAway s (putOnBus q (s.withBbm { s.bbm with lastWinner := .command })) := .of_same rfl rfl
  unfold beginCommand
  dsimp only
  split
  · split
    · split
      case h_1 o ho => exact won.trans (endCommand_givenAway q o _ (recheck_plain _ _ o ho))
      case h_2 => exact won.trans (.of_same rfl rfl)
    · exact won.trans (.of_same rfl rfl)
  · split
    · exact won.trans (.of_same rfl rfl)
    · exact won

theorem beginPoll_givenAway (r : PollRequest) (s : State) : GivenAway s (beginPoll r s) := by
  cases r <;> exact .of_same rfl rfl

theorem chooseBusLoop_givenAway (k : Nat) (s : State) : GivenAway s (chooseBusLoop k s) := by
  induction k generalizing s with
  | zero => exact .of_same rfl rfl
  | succ k ih =>
    have command (q : Nat) := (beginCommand_givenAway q s).trans (ih (beginCommand q s))
    unfold chooseBusLoop
    split
    case isFalse => exact .of_same rfl rfl
    case isTrue =>
      split
      · exact .of_same rfl rfl
      · split
        case h_1 q r _ _ =>
          split
          · exact beginPoll_givenAway r s
          · exact command q
        case h_2 q _ _ => exact command q
        case h_3 r _ _ => exact beginPoll_givenAway r s
        case h_4 => exact .of_same rfl rfl

theorem chooseBus_givenAway (s : State) : GivenAway s (chooseBus s) := chooseBusLoop_givenAway _ s

theorem chooseTransmit_givenAway (s : State) : GivenAway s (chooseTransmit s) :=
  .of_same (chooseTransmit_onlyLink s).oru (congrArg Ltu.lockers (chooseTransmit_onlyLink s).ltu)

theorem endOfPoll_givenAway (s : State) : GivenAway s (endOfPoll s) := by
  unfold endOfPoll startGap
  split
  · split
    · exact .of_same rfl rfl
    · exact .of_same rfl rfl
  · exact .of_same rfl rfl

/-! ### Frames that fail an attempt (R91, R152) -/

theorem crcBit_lt (r : Nat) (h : r < 65536) : crcBit r < 65536 := by
  unfold crcBit
  split
  · exact Nat.xor_lt_two_pow (n := 16) (by omega) (by omega)
  · omega

theorem crcByte_lt (r b : Nat) (h : r < 65536) : crcByte r b < 65536 := by
  have start : r ^^^ (b * 256 % 65536) < 65536 := Nat.xor_lt_two_pow (n := 16) h (by omega)
  unfold crcByte
  iterate 8 apply crcBit_lt
  exact start

theorem crc16_lt (bytes : List Byte) : crc16 bytes < 65536 := by
  have folded (r : Nat) (h : r < 65536) : bytes.foldl crcByte r < 65536 := by
    induction bytes generalizing r with
    | nil => exact h
    | cons b rest ih => exact ih _ (crcByte_lt r b h)
  exact folded 0xFFFF (by omega)

/-- Only the bytes of a frame are read as one (R152). -/
theorem parseBusFrame_some (bytes : List Byte) (f : BusFrame) (h : parseBusFrame bytes = some f) :
    f.payload.length ≤ 200 ∧ bytes = f.bytes := by
  unfold parseBusFrame at h
  split at h
  case h_2 => cases h
  case h_1 addr kind len rest =>
    dsimp only at h
    split at h
    case isFalse => cases h
    case isTrue hc =>
      obtain ⟨hlen, hmax, hcrc⟩ := hc
      injection h with h
      subst h
      have taken : (rest.take len).length = len := by rw [List.length_take]; omega
      refine ⟨by rw [taken]; exact hmax, ?_⟩
      simp only [BusFrame.bytes, taken, List.cons_append, List.nil_append] at hcrc ⊢
      rw [← hcrc, List.take_append_drop]

theorem readReply_not_frame (n k : Nat) (bytes : List Byte)
    (h : ∀ f : BusFrame, f.payload.length ≤ 200 → bytes ≠ f.bytes) : readReply n k bytes = none := by
  unfold readReply
  cases hp : parseBusFrame bytes with
  | none => rfl
  | some f =>
    obtain ⟨hlen, hb⟩ := parseBusFrame_some bytes f hp
    exact absurd hb (h f hlen)

/-- A check that is not that of the bytes before it. -/
theorem readReply_wrongCheck (n k addr kind : Nat) (payload : List Byte) (hi lo : Nat)
    (h : crc16 ([addr, kind, payload.length] ++ payload) ≠ hi * 256 + lo) :
    readReply n k ([0x96, addr, kind, payload.length] ++ payload ++ [hi, lo]) = none := by
  refine readReply_not_frame n k _ fun f _ hf => h ?_
  obtain ⟨a, c, p⟩ := f
  simp only [BusFrame.bytes, List.cons_append, List.nil_append, List.cons.injEq, true_and] at hf
  obtain ⟨rfl, rfl, hl, hf⟩ := hf
  obtain ⟨rfl, hc⟩ := List.append_inj hf hl
  have hlt := crc16_lt ([addr, kind, payload.length] ++ payload)
  simp only [crcBytes, Field.bytes, List.cons_append, List.nil_append, List.cons.injEq, and_true] at hc hlt ⊢
  omega

theorem DoorState.ofCode_none (v : Nat) (h : 2 < v) : DoorState.ofCode v = none := by
  unfold DoorState.ofCode
  split <;> simp at h ⊢

theorem Occupancy.ofCode_none (v : Nat) (h : 1 < v) : Occupancy.ofCode v = none := by
  unfold Occupancy.ofCode
  split <;> simp at h ⊢

theorem FaultCode.ofCode_none (v : Nat) (h : 3 < v) : FaultCode.ofCode v = none := by
  unfold FaultCode.ofCode
  split <;> simp at h ⊢

theorem Reason.ofCode_none (v : Nat) (h : 2 < v) : Reason.ofCode v = none := by
  unfold Reason.ofCode
  split <;> simp at h ⊢

/-- An observation has nine bytes, each in its range (R106; log entry 15). -/
theorem decodeObservation_length (p : List Byte) (h : p.length ≠ 9) : decodeObservation p = none := by
  unfold decodeObservation
  split
  · simp at h
  · rfl

theorem decodeObservation_range (t1 t0 x y kn cn o z h : Nat) (hr : 2 < x ∨ 2 < y ∨ 1 < o ∨ 3 < z ∨ 1 < h) :
    decodeObservation [t1, t0, x, y, kn, cn, o, z, h] = none := by
  unfold decodeObservation
  dsimp only
  split
  case h_2 => rfl
  case h_1 kd cd oc fc hx hy ho hz =>
    rcases hr with hr | hr | hr | hr | hr
    · rw [DoorState.ofCode_none x hr] at hx
      cases hx
    · rw [DoorState.ofCode_none y hr] at hy
      cases hy
    · rw [Occupancy.ofCode_none o hr] at ho
      cases ho
    · rw [FaultCode.ofCode_none z hr] at hz
      cases hz
    · exact if_neg (Nat.not_le.mpr hr)

/-- The kinds that answer a request of kind `k` (R91). -/
def Answers (kind k : Nat) : Prop :=
  kind = 0x8F ∨ (kind = 0x81 ∧ k = 1) ∨ (kind = 0x83 ∧ k = 3) ∨ (kind = 0x80 ∧ k ≠ 1 ∧ k ≠ 3)

theorem readFrame_wrongAddress (n k : Nat) (f : BusFrame) (h : f.addr ≠ n) : readFrame n k f = none := if_pos h

theorem readFrame_wrongKind (n k : Nat) (f : BusFrame) (h : ¬ Answers f.kind k) : readFrame n k f = none := by
  simp only [Answers, not_or] at h
  obtain ⟨h8F, h81, h83, h80⟩ := h
  by_cases ha : f.addr = n
  · rw [readFrame, if_neg (not_not_intro ha), if_neg h8F, if_neg h81, if_neg h83, if_neg h80]
  · exact readFrame_wrongAddress n k f ha

theorem readFrame_refused (n k : Nat) (f : BusFrame) (hk : f.kind = 0x8F) (h : ∀ r, r ≤ 2 → f.payload ≠ [r]) :
    readFrame n k f = none := by
  by_cases ha : f.addr = n
  · rw [readFrame, if_neg (not_not_intro ha), if_pos hk]
    split
    case h_1 r hr =>
      have big : 2 < r := by
        by_contra hle
        exact h r (Nat.le_of_not_lt hle) hr
      rw [Reason.ofCode_none r big]
      rfl
    case h_2 => rfl
  · exact readFrame_wrongAddress n k f ha

theorem readFrame_item (n k : Nat) (f : BusFrame) (hk : f.kind = 0x83) (h : f.payload.length ≠ 2) :
    readFrame n k f = none := by
  by_cases hr : k = 3
  · by_cases ha : f.addr = n
    · rw [readFrame, if_neg (not_not_intro ha), if_neg (by omega), if_neg (by omega), if_pos ⟨hk, hr⟩]
      split
      case h_1 hp => simp [hp] at h
      case h_2 => rfl
    · exact readFrame_wrongAddress n k f ha
  · exact readFrame_wrongKind n k f (by unfold Answers; omega)

theorem readFrame_observation (n k : Nat) (f : BusFrame) (hk : f.kind = 0x81) (h : decodeObservation f.payload = none) :
    readFrame n k f = none := by
  by_cases hr : k = 1
  · by_cases ha : f.addr = n
    · rw [readFrame, if_neg (not_not_intro ha), if_neg (by omega), if_pos ⟨hk, hr⟩, h]
      rfl
    · exact readFrame_wrongAddress n k f ha
  · exact readFrame_wrongKind n k f (by unfold Answers; omega)

/-! ### The attempts (R91, R92) -/

/-- While no reply is awaited, a frame and the end of a reply window change nothing (log entry 3). -/
theorem exec_unawaited (h : awaited s = none) (bytes : List Byte) :
    exec (.replyReceived bytes) s = .next { s with ports := [] } ∧ exec .replyTimeout s = .next { s with ports := [] } := by
  have h' : awaited s.clearPorts = none := h
  constructor
  · simp only [exec, execReplyReceived, h']
    rfl
  · simp only [exec, execReplyTimeout, h', Option.isSome_none]
    rfl

theorem exec_replyTimeout (h : awaited s ≠ none) :
    exec .replyTimeout s = .next (chooseTransmit (attemptFailed s.clearPorts)) := by
  have h' : (awaited s.clearPorts).isSome = true := Option.isSome_iff_ne_none.mpr h
  simp only [exec, execReplyTimeout, h', if_true]

/-- A frame that is not read fails the attempt as no reply does. -/
theorem exec_replyReceived_unread (n k : Nat) (bytes : List Byte) (h : awaited s = some (n, k))
    (hr : readReply n k bytes = none) : exec (.replyReceived bytes) s = exec .replyTimeout s := by
  have h' : awaited s.clearPorts = some (n, k) := h
  rw [exec_replyTimeout (by simp [h])]
  simp only [exec, execReplyReceived, h', hr]

theorem endOfPoll_discovery (s : State) : (endOfPoll s).ltu.discovery = s.ltu.discovery :=
  congrArg Ltu.discovery (endOfPoll_onlyCycle s).2.2.1

theorem endOfPoll_failedPolls (s : State) : (endOfPoll s).bbm.failedPolls = s.bbm.failedPolls := by
  unfold endOfPoll startGap
  split
  · split <;> rfl
  · rfl

theorem endOfPoll_sst (s : State) : (endOfPoll s).sst = s.sst := by
  unfold endOfPoll startGap
  split
  · split <;> rfl
  · rfl

theorem endOfPoll_line (s : State) : (endOfPoll s).bbm.line = s.bbm.line :=
  congrArg (fun c => c.2.2.2.1) (endOfPoll_onlyCycle s).1

/-- A failed poll ends and what waits for the bus follows (R92, R188). -/
theorem pollEnded_none (n : Nat) (m : Bool) (s : State) :
    pollEnded n none m s.clearPorts = afterwards s (endOfPoll (failedPoll n { s with
      ports := [], bbm := { s.bbm with
        exchange := none, failedPolls := min (s.bbm.failedPolls + 1) 65535 } })) := by
  have frame := failedPoll_records n (countFailedPoll (clearExchange s.clearPorts))
  refine afterExchange_afterwards (endOfPoll (failedPoll n (countFailedPoll (clearExchange s.clearPorts)))) ?_ ?_
  · rw [endOfPoll_discovery, frame.discovery]
    rfl
  · rw [endOfPoll_line, frame.bbm]
    rfl

/-- The end of a failed poll at its third attempt. -/
theorem exec_thirdFailure (n : Nat) (m : Bool) (hx : s.bbm.exchange = some (.poll n 3 m)) :
    exec .replyTimeout s = .next (chooseTransmit (afterwards s (endOfPoll (failedPoll n { s with
      ports := [], bbm := { s.bbm with
        exchange := none, failedPolls := min (s.bbm.failedPolls + 1) 65535 } })))) := by
  have hx' : s.clearPorts.bbm.exchange = some (.poll n 3 m) := hx
  have third : attemptFailed s.clearPorts = pollEnded n none m s.clearPorts := by
    unfold attemptFailed
    rw [hx']
    rfl
  rw [exec_replyTimeout (by simp [awaited, hx]), third, pollEnded_none]

/-! ### The failed poll at LTU (R5) -/

/-- The record with one more failure. -/
def oneMoreFailure (n : Nat) (s : State) : State :=
  s.setLocker n { s.locker n with pollFails := min ((s.locker n).pollFails + 1) 3 }

theorem failedPoll_eq (n : Nat) (s : State) :
    failedPoll n s =
      if (s.locker n).pollFails = 2 then goOffline n .polls (oneMoreFailure n s) else oneMoreFailure n s := by
  unfold failedPoll
  dsimp only
  by_cases h : (s.locker n).pollFails = 2
  · rw [if_pos (by omega), if_pos h]
    rfl
  · rw [if_neg (by omega), if_neg h]
    rfl

/-- Going OFFLINE keeps what was measured and the orders (R7, R27). -/
theorem goOffline_keeps (n : Nat) (c : OfflineCause) (s : State) :
    (goOffline n c s).oru.orders = s.oru.orders ∧ ∀ m, measured ((goOffline n c s).locker m) = measured (s.locker m) := by
  by_cases h : (s.locker n).phase = .offline ∨ (s.locker n).phase = .absent
  · simp [goOffline, h]
  · obtain ⟨hoff, habs⟩ := not_or.mp h
    rw [goOffline_eq n c s hoff habs]
    refine ⟨by simp, fun m => ?_⟩
    rw [submit_locker]
    by_cases hm : m = n
    · subst hm
      have hn : m < 48 := by
        by_contra hout
        exact habs (by rw [State.locker_out s m (by omega)]; rfl)
      rw [State.modLocker_same _ _ _ hn, moveTo_locker_same _ _ _ hn]
      exact enter_measured _ _
    · rw [State.modLocker_ne _ _ _ _ hm, moveTo_locker_ne _ _ _ _ hm]

theorem goOffline_locker (n : Nat) (c : OfflineCause) (s : State) (hn : n < 48)
    (h : (s.locker n).phase ≠ .offline) (h' : (s.locker n).phase ≠ .absent) :
    ((goOffline n c s).locker n).phase = .offline ∧
      ((goOffline n c s).locker n).resume = resumeOf s (s.locker n) := by
  rw [goOffline_eq n c s h h', submit_locker, State.modLocker_same _ _ _ hn, moveTo_locker_same _ _ _ hn]
  exact ⟨enter_phase _ _, rfl⟩

theorem failedPoll_orders (n : Nat) (s : State) : (failedPoll n s).oru.orders = s.oru.orders := by
  rw [failedPoll_eq]
  split
  · rw [(goOffline_keeps _ _ _).1]
    rfl
  · rfl

theorem failedPoll_measured (n : Nat) (s : State) (hn : n < 48) :
    measured ((failedPoll n s).locker n) =
      measured { s.locker n with pollFails := min ((s.locker n).pollFails + 1) 3 } := by
  rw [failedPoll_eq]
  split
  · rw [(goOffline_keeps _ _ _).2, oneMoreFailure, State.setLocker_same _ _ _ hn]
  · rw [oneMoreFailure, State.setLocker_same _ _ _ hn]

/-- The third failure in a row takes a locker OFFLINE (R5, R27). -/
theorem failedPoll_third (n : Nat) (s : State) (hn : n < 48) (h2 : (s.locker n).pollFails = 2)
    (h : (s.locker n).phase ≠ .offline) (h' : (s.locker n).phase ≠ .absent) :
    ((failedPoll n s).locker n).phase = .offline ∧
      ((failedPoll n s).locker n).resume = resumeOf s (s.locker n) := by
  have record : (oneMoreFailure n s).locker n =
      { s.locker n with pollFails := min ((s.locker n).pollFails + 1) 3 } := State.setLocker_same _ _ _ hn
  have went := goOffline_locker n .polls (oneMoreFailure n s) hn (by rw [record]; exact h) (by rw [record]; exact h')
  rw [record] at went
  rw [failedPoll_eq, if_pos h2]
  exact went

/-- Settles O51. -/
theorem failedAttemptsByCount : Obligations.FailedAttemptsByCount := by
  refine ⟨fun n s _ => failedPoll_eq n s, fun s bytes h => exec_unawaited ?_ bytes, fun s n k h => ?_,
    fun s => ⟨fun n a m hx ha => ?_, fun n q a f hx ha => ?_, fun n m hx => exec_thirdFailure n m hx,
      fun n m hx hn hd => ?_⟩⟩
  · rcases h with h | ⟨off, h⟩ <;> simp [awaited, h]
  · have asked : awaited s = some (n, k) := by
      rcases h with ⟨a, m, h | h, rfl⟩ | ⟨q, a, g, h, rfl⟩ <;> simp [awaited, h]
    have unread (bytes : List Byte) := exec_replyReceived_unread (s := s) n k bytes asked
    refine ⟨fun bytes hb => unread _ (readReply_not_frame n k bytes hb),
      fun addr kind payload hi lo hc => unread _ (readReply_wrongCheck n k addr kind payload hi lo hc), fun f hf => ?_⟩
    have unframed (hr : readFrame n k f = none) := unread f.bytes ((readReply_bytes n k f hf).trans hr)
    exact ⟨rfl, fun ha => unframed (readFrame_wrongAddress n k f ha),
      fun hk => unframed (readFrame_wrongKind n k f hk), fun hk hp => unframed (readFrame_refused n k f hk hp),
      fun hk hp => unframed (readFrame_item n k f hk hp),
      fun hk hp => unframed (readFrame_observation n k f hk (decodeObservation_length _ hp)),
      fun t1 t0 x y kn cn o z h' hk hp hr =>
        unframed (readFrame_observation n k f hk (hp ▸ decodeObservation_range t1 t0 x y kn cn o z h' hr))⟩
  · rw [exec_replyTimeout (by simp [awaited, hx])]
    have hx' : s.clearPorts.bbm.exchange = some (.poll n a m) := hx
    simp only [attemptFailed, hx', if_pos ha]
    rfl
  · rw [exec_replyTimeout (by simp [awaited, hx])]
    have hx' : s.clearPorts.bbm.exchange = some (.command n q a f) := hx
    simp only [attemptFailed, hx', if_pos ha]
    rfl
  · refine ⟨_, exec_thirdFailure n m hx, ?_⟩
    have chosen (v : State) : afterwards s v = chooseBus v := by simp [afterwards, hd]
    rw [chosen]
    set v : State := { s with
      ports := [], bbm := { s.bbm with
        exchange := none, failedPolls := min (s.bbm.failedPolls + 1) 65535 } } with hv
    have given : GivenAway (failedPoll n v) (chooseTransmit (chooseBus (endOfPoll (failedPoll n v)))) :=
      ((endOfPoll_givenAway _).trans (chooseBus_givenAway _)).trans (chooseTransmit_givenAway _)
    obtain ⟨orders, records⟩ := given
    have fields := (records n).1.trans (failedPoll_measured n v hn)
    simp only [measured, Prod.mk.injEq] at fields
    obtain ⟨⟨-, -, kSeen, -, occ, -⟩, sample, -, fails, -, -⟩ := fields
    refine ⟨?_, fails, sample, occ, kSeen, ?_, ?_, fun h2 hp => ?_⟩
    · rw [(chooseTransmit_onlyLink _).bbm, (chooseBus_bus _).failedPolls, endOfPoll_failedPolls,
        (failedPoll_records n v).bbm]
    · rw [orders, failedPoll_orders]
    · rw [(chooseTransmit_onlyLink _).sst, (chooseBus_bus _).sst, endOfPoll_sst, (failedPoll_records n v).sst]
    · simp only [List.mem_cons, List.not_mem_nil, or_false, not_or] at hp
      obtain ⟨phase, resume⟩ := failedPoll_third n v hn h2 hp.1 hp.2
      obtain ⟨hphase, hresume⟩ := (records n).2 phase
      exact ⟨hphase, hresume.trans resume⟩

end Sys2Proof.Proofs

/-! ## A good poll (R3, R4, R8, R20 to R22, R28, R91, R92, R99, R106, R152) -/

namespace Sys2Proof.Proofs

open Sys2Proof.Machine

variable {s t u : State}

/-! ### An observation and its bytes (R106, R152) -/

theorem DoorState.ofCode_code (d : DoorState) : DoorState.ofCode (d.code % 256) = some d := by cases d <;> rfl

theorem Occupancy.ofCode_code (o : Occupancy) : Occupancy.ofCode (o.code % 256) = some o := by cases o <;> rfl

theorem FaultCode.ofCode_code (f : FaultCode) : FaultCode.ofCode (f.code % 256) = some f := by cases f <;> rfl

/-- The two bytes of a temperature, absent for the probe-fault marker. -/
def sampleNumber : Option Int → Nat
  | some t => twosComplement t
  | none => 32768

theorem encodeObservation_eq (o : Observation) :
    encodeObservation o =
      [sampleNumber o.sample / 256 % 256, sampleNumber o.sample % 256, o.kDoor.code % 256, o.cDoor.code % 256,
        o.kCount % 256, o.cCount % 256, o.occupancy.code % 256, o.fault.code % 256, (if o.heaterOn then 1 else 0) % 256] := by
  unfold encodeObservation
  cases o.sample <;> rfl

theorem temperatureOf_sampleNumber (x : Option Int) (h : ∀ T, x = some T → -32767 ≤ T ∧ T ≤ 32767) :
    temperatureOf (sampleNumber x / 256 % 256 * 256 + sampleNumber x % 256) = x := by
  cases x with
  | none => rfl
  | some T =>
    obtain ⟨lo, hi⟩ := h T rfl
    have number : sampleNumber (some T) = (T % 65536).toNat := rfl
    have back : sampleNumber (some T) / 256 % 256 * 256 + sampleNumber (some T) % 256 = (T % 65536).toNat := by omega
    have notMarker : (T % 65536).toNat ≠ 32768 := by omega
    rw [back, temperatureOf, if_neg notMarker, signedOf]
    split
    · exact congrArg some (by omega)
    · exact congrArg some (by omega)

theorem decodeObservation_encode (o : Observation) (hT : ∀ T, o.sample = some T → -32767 ≤ T ∧ T ≤ 32767)
    (hk : o.kCount < 256) (hc : o.cCount < 256) : decodeObservation (encodeObservation o) = some o := by
  obtain ⟨sample, kDoor, cDoor, kCount, cCount, occupancy, fault, heaterOn⟩ := o
  rw [encodeObservation_eq]
  simp only [decodeObservation, DoorState.ofCode_code, Occupancy.ofCode_code, FaultCode.ofCode_code,
    temperatureOf_sampleNumber sample hT, Nat.mod_eq_of_lt hk, Nat.mod_eq_of_lt hc]
  cases heaterOn <;> rfl

theorem readReply_observation (n : Nat) (o : Observation) (hT : ∀ T, o.sample = some T → -32767 ≤ T ∧ T ≤ 32767)
    (hk : o.kCount < 256) (hc : o.cCount < 256) :
    readReply n 1 (Reply.frame n (.observation o)).bytes = some (.observation o) := by
  rw [readReply_bytes _ _ _ (by simp [Reply.frame, encodeObservation_eq])]
  simp [readFrame, Reply.frame, decodeObservation_encode o hT hk hc]

/-! ### The end of a poll by its reply (R92) -/

theorem exec_reply_poll (n a : Nat) (m : Bool) (r : Reply) (bytes : List Byte) (hx : s.bbm.exchange = some (.poll n a m))
    (hr : readReply n 1 bytes = some r) :
    exec (.replyReceived bytes) s = .next (chooseTransmit (attemptSucceeded r s.clearPorts)) := by
  have hx' : s.clearPorts.bbm.exchange = some (.poll n a m) := hx
  simp only [exec, execReplyReceived, awaited, hx', hr]

theorem exec_reply_observation (n a : Nat) (m : Bool) (o : Observation) (bytes : List Byte)
    (hx : s.bbm.exchange = some (.poll n a m)) (hr : readReply n 1 bytes = some (.observation o)) :
    exec (.replyReceived bytes) s =
      .next (chooseTransmit (afterwards s (endOfPoll (goodPoll n o (m && decide (s.bbm.mapState = .sent))
        { s with ports := [], bbm := { s.bbm with exchange := none } })))) := by
  have hx' : s.clearPorts.bbm.exchange = some (.poll n a m) := hx
  have succeeded : attemptSucceeded (.observation o) s.clearPorts = pollEnded n (some o) m s.clearPorts := by
    unfold attemptSucceeded
    rw [hx']
  rw [exec_reply_poll n a m _ bytes hx hr, succeeded]
  have frame := goodPoll_records n o (m && decide (s.bbm.mapState = .sent)) (clearExchange s.clearPorts)
  refine congrArg (fun v => Host.Outcome.next (chooseTransmit v)) (afterExchange_afterwards
    (endOfPoll (goodPoll n o (m && decide (s.bbm.mapState = .sent)) (clearExchange s.clearPorts))) ?_ ?_)
  · rw [endOfPoll_discovery, frame.discovery]
    rfl
  · rw [endOfPoll_line, frame.bbm]
    rfl

theorem exec_reply_pollRefused (n a : Nat) (m : Bool) (r : Reason) (hx : s.bbm.exchange = some (.poll n a m)) :
    exec (.replyReceived (Reply.frame n (.refused r)).bytes) s =
      .next (chooseTransmit (afterwards s (endOfPoll (failedPoll n { s with
        ports := [], bbm := { s.bbm with
          exchange := none, failedPolls := min (s.bbm.failedPolls + 1) 65535 } })))) := by
  have hx' : s.clearPorts.bbm.exchange = some (.poll n a m) := hx
  have succeeded : attemptSucceeded (.refused r) s.clearPorts = pollEnded n none m s.clearPorts := by
    unfold attemptSucceeded
    rw [hx']
  rw [exec_reply_poll n a m _ _ hx (readReply_refused n 1 r), succeeded, pollEnded_none]

/-! ### The steps of R8 keep what the reply measured -/

/-- Every record keeps its measured fields. -/
def MeasuresKept (s t : State) : Prop := ∀ m, measured (t.locker m) = measured (s.locker m)

theorem MeasuresKept.refl (s : State) : MeasuresKept s s := fun _ => rfl

theorem MeasuresKept.trans (h : MeasuresKept s t) (k : MeasuresKept t u) : MeasuresKept s u :=
  fun m => (k m).trans (h m)

theorem MeasuresKept.of_locker (h : ∀ m, t.locker m = s.locker m) : MeasuresKept s t := fun m => by rw [h]

theorem setLocker_measures (n : Nat) (l : Locker) (s : State) (h : measured l = measured (s.locker n)) :
    MeasuresKept s (s.setLocker n l) := by
  intro m
  by_cases hm : m = n
  · subst hm
    by_cases hn : m < 48
    · rw [State.setLocker_same _ _ _ hn, h]
    · rw [State.setLocker_out _ _ _ (Nat.le_of_not_lt hn)]
  · rw [State.setLocker_ne _ _ _ _ hm]

theorem submit_measures (k : ReportKind) (fs : List Field) (s : State) : MeasuresKept s (submit k fs s) :=
  .of_locker fun m => submit_locker k fs s m

theorem moveTo_measures (p : Phase) (n : Nat) (s : State) : MeasuresKept s (moveTo p n s) := by
  have set := setLocker_measures n ((s.locker n).enter p) s (enter_measured p _)
  unfold moveTo
  dsimp only
  split
  · exact set.trans (.of_locker fun m => by simp)
  · exact set

theorem condemnNotice_measured (l : Locker) : measured l.condemnNotice = measured l := by
  unfold Locker.condemnNotice
  split
  · exact enter_measured _ _
  · split <;> rfl

theorem condemn_measures (id : Nat) (c : Cause) (s : State) : MeasuresKept s (condemn id c s) := by
  intro m
  rcases condemn_locker id c s m with h | ⟨h, -⟩
  · rw [h]
  · rw [h, condemnNotice_measured]

theorem removeOrder_measures (id : Nat) (s : State) : MeasuresKept s (removeOrder id s) := by
  intro m
  rcases removeOrder_locker_keeps id m s with h | h
  · rw [h]
  · rw [h]
    rfl

theorem quarantine_measures (n : Nat) (s : State) : MeasuresKept s (quarantine n s) := by
  have moved := moveTo_measures .quarantine n s
  unfold quarantine
  dsimp only
  split
  case h_1 id _ =>
    exact ((moved.trans (condemn_measures id .lost _)).trans (removeOrder_measures id _)).trans (submit_measures _ _ _)
  case h_2 => exact moved.trans (submit_measures _ _ _)

theorem doorFault_measures (n : Nat) (f : Finding) (s : State) : MeasuresKept s (doorFault n f s) := by
  have moved := (moveTo_measures .service n s).trans
    (submit_measures .doorFault [.b1 n, .b1 f.code, .orderId (s.locker n).orderRef] _)
  unfold doorFault
  dsimp only
  split
  · exact .refl s
  · split
    · exact moved.trans (condemn_measures _ _ _)
    · exact moved

theorem setExcluded_measures (n : Nat) (s : State) : MeasuresKept s (setExcluded n s) := by
  unfold setExcluded
  split
  · exact .refl s
  · exact (setLocker_measures n { s.locker n with heaterExcluded := true } s rfl).trans (submit_measures _ _ _)

theorem heaterCheck_measures (n : Nat) (on mark : Bool) (s : State) : MeasuresKept s (heaterCheck n on mark s) := by
  unfold heaterCheck
  split
  · dsimp only
    split
    · exact (setExcluded_measures n s).trans (moveTo_measures _ _ _)
    · exact setExcluded_measures n s
  · exact .refl s

theorem faultChecks_measures (n : Nat) (on mark : Bool) (s : State) : MeasuresKept s (faultChecks n on mark s) := by
  unfold faultChecks
  dsimp only
  split
  · exact (doorFault_measures n _ s).trans (heaterCheck_measures n on mark _)
  · exact heaterCheck_measures n on mark s

theorem placePending_measures (o : Order) (n : Nat) (s : State) : MeasuresKept s (placePending o n s) := by
  have joined : MeasuresKept s (join o.id n s) := by
    intro m
    unfold join
    refine (setLocker_measures n _ _ ?_ m).trans ?_
    · exact enter_measured .reserved _
    · simp
  exact joined.trans (submit_measures _ _ _)

theorem becameFree_measures (n : Nat) (s : State) : MeasuresKept s (becameFree n s) := by
  unfold becameFree
  dsimp only
  split
  · exact .refl s
  · split
    · exact placePending_measures _ n s
    · exact .of_locker fun m => by simp

theorem announceFree_measures (n : Nat) (s : State) : MeasuresKept s (announceFree n s) := by
  unfold announceFree
  split
  · exact becameFree_measures n s
  · exact .refl s

theorem resolveOffline_measures (n : Nat) (s : State) : MeasuresKept s (resolveOffline n s) := by
  unfold resolveOffline moveToUnlessExcluded
  dsimp only
  split
  · exact .refl s
  · split
    · split
      · exact ((moveTo_measures _ n s).trans (submit_measures _ _ _)).trans (announceFree_measures n _)
      · exact quarantine_measures n s
    · split
      · exact (moveTo_measures _ n s).trans (submit_measures _ _ _)
      · exact quarantine_measures n s

theorem modOrder_measures (id : Nat) (f : Order → Order) (s : State) : MeasuresKept s (s.modOrder id f) :=
  .of_locker fun m => State.modOrder_locker s id f m

theorem completeLoading_measures (n : Nat) (s : State) : MeasuresKept s (completeLoading n s) := by
  have empty (x : Bool) (id : Nat) : MeasuresKept s (loadEmpty n id x s) :=
    (moveTo_measures _ n s).trans (submit_measures _ _ _)
  unfold completeLoading
  dsimp only
  split
  · split
    · exact ((moveTo_measures _ n s).trans (modOrder_measures _ _ _)).trans (submit_measures _ _ _)
    · exact empty _ _
  · exact empty _ _

theorem completePickup_measures (n : Nat) (s : State) : MeasuresKept s (completePickup n s) := by
  unfold completePickup moveToUnlessExcluded
  dsimp only
  split
  · split
    · exact ((submit_measures _ _ s).trans (removeOrder_measures _ _)).trans (moveTo_measures _ n _)
    · exact ((modOrder_measures _ _ s).trans (submit_measures _ _ _)).trans (moveTo_measures _ n _)
  · exact (submit_measures _ _ s).trans (moveTo_measures _ n _)

theorem completeClearing_measures (n : Nat) (s : State) : MeasuresKept s (completeClearing n s) := by
  have returned (fs : List Field) (p : Phase) : MeasuresKept s (moveTo p n (submit .clearReturned fs s)) :=
    (submit_measures _ _ s).trans (moveTo_measures _ n _)
  unfold completeClearing moveToUnlessExcluded
  dsimp only
  split
  · split
    · split
      · exact ((submit_measures _ _ s).trans (removeOrder_measures _ _)).trans (moveTo_measures _ n _)
      · exact (submit_measures _ _ s).trans (moveTo_measures _ n _)
    · exact returned _ _
  · exact returned _ _

theorem completeTransient_measures (n : Nat) (s : State) : MeasuresKept s (completeTransient n s) := by
  unfold completeTransient
  dsimp only
  split
  · exact .refl s
  · split
    · exact .refl s
    · split
      · exact completeLoading_measures n s
      · exact completePickup_measures n s
      · exact completeClearing_measures n s
      · exact .refl s

theorem occupancyCheck_measures (n : Nat) (s : State) : MeasuresKept s (occupancyCheck n s) := by
  unfold occupancyCheck
  dsimp only
  split
  · split
    · exact quarantine_measures n s
    · exact .refl s
  · exact .refl s

theorem examineDoorHeld_measures (n : Nat) (s : State) : MeasuresKept s (examineDoorHeld n s) := by
  unfold examineDoorHeld
  dsimp only
  split
  · exact (setLocker_measures n { s.locker n with doorHeld := some true } s rfl).trans (submit_measures _ _ _)
  · exact .refl s

theorem doorHeldBookkeeping_measures (n : Nat) (before : Locker) (s : State) :
    MeasuresKept s (doorHeldBookkeeping n before s) := by
  unfold doorHeldBookkeeping
  dsimp only
  split
  · exact .refl s
  · split
    · exact (setLocker_measures n { s.locker n with transientTimer := some 0 } s rfl).trans (examineDoorHeld_measures n _)
    · exact examineDoorHeld_measures n s

theorem ifStill_measures (p : Phase) (n : Nat) (f : State → State) (s : State) (h : ∀ x, MeasuresKept x (f x)) :
    MeasuresKept s (ifStill p n f s) := by
  unfold ifStill
  split
  · exact h s
  · exact .refl s

theorem goodPoll_measures (n : Nat) (o : Observation) (mark : Bool) (s : State) :
    MeasuresKept (s.modLocker n (Locker.observe o)) (goodPoll n o mark s) := by
  unfold goodPoll
  dsimp only
  exact (((faultChecks_measures n _ mark _).trans (ifStill_measures _ n _ _ (resolveOffline_measures n))).trans
    (ifStill_measures _ n _ _ (completeTransient_measures n))).trans
    ((ifStill_measures _ n _ _ (occupancyCheck_measures n)).trans (doorHeldBookkeeping_measures n _ _))

/-! ### The reply in the record (R3, R4) -/

/-- Whether a reply shows that the watched door was opened (R4). -/
def showsOpened (o : Observation) (l : Locker) : Bool :=
  match l.phase with
  | .loading | .clearing => decide (o.kDoor = .opened) || decide ((o.kCount + 256 - l.kSeen) % 256 ≠ 0)
  | .pickup => decide (o.cDoor = .opened) || decide ((o.cCount + 256 - l.cSeen) % 256 ≠ 0)
  | _ => false

theorem observe_eq (o : Observation) (l : Locker) :
    l.observe o = { l with
      kDoor := o.kDoor, cDoor := o.cDoor, kSeen := o.kCount, cSeen := o.cCount, occupancy := o.occupancy
      fault := o.fault, sample := o.sample.bind fun T => if -400 ≤ T ∧ T ≤ 1500 then some T else none
      sampleAge := 0, pollFails := 0
      openedNoted := if showsOpened o l = true ∧ l.unlatchPending = none then some true else l.openedNoted } := by
  have pending : l.unlatchPending.isNone = decide (l.unlatchPending = none) := by cases l.unlatchPending <;> rfl
  unfold Locker.observe showsOpened
  cases hp : l.phase <;> simp [Phase.watched, countMoved, pending]

/-! ### The steps of R8 -/

/-- Whether an occupancy agrees with a phase (R22, R28). -/
theorem agrees_iff (p : Phase) (o : Occupancy) :
    p.agrees o = true ↔ (p ∈ [.free, .reserved, .purging] → o = .empty) ∧ (p ∈ [.holding, .condemned] → o = .occupied) := by
  cases p <;> cases o <;> simp [Phase.agrees, Phase.expects]

theorem doorFinding_code (l : Locker) :
    (doorFinding l).map Finding.code =
      if l.kDoor ≠ .latched ∧ l.cDoor ≠ .latched then some 0
      else if l.fault = .latchFault then some 1
      else if l.fault = .occupancyFault then some 2
      else none := by
  simp only [doorFinding, apply_ite (Option.map Finding.code)]
  rfl

theorem doorFault_eq (n : Nat) (f : Finding) (s : State) (ha : (s.locker n).phase ≠ .absent)
    (hs : (s.locker n).phase ≠ .service) :
    ((s.locker n).orderRef = none → doorFault n f s =
      submit .doorFault [.b1 n, .b1 f.code, .orderId (s.locker n).orderRef] (moveTo .service n s)) ∧
    ∀ id, (s.locker n).orderRef = some id → doorFault n f s = condemn id .fault
      (submit .doorFault [.b1 n, .b1 f.code, .orderId (s.locker n).orderRef] (moveTo .service n s)) := by
  constructor
  · intro h
    simp [doorFault, ha, hs, h]
  · intro id h
    simp [doorFault, ha, hs, h]

theorem heaterFinding_iff (l : Locker) (on mark : Bool) :
    heaterFinding l on mark = true ↔ l.fault = .heaterFault ∨ (on = true ∧ mark = true ∧ l.granted = 0) := by
  simp [heaterFinding, and_assoc]

/-- The record with the heater excluded flag set (R21). -/
def excludedRecord (n : Nat) (s : State) : State := s.setLocker n { s.locker n with heaterExcluded := true }

theorem setExcluded_clear (n : Nat) (s : State) (h : (s.locker n).heaterExcluded = false) :
    setExcluded n s = submit .moduleFault [.b1 n, .b1 2] (excludedRecord n s) := by
  simp [setExcluded, h, excludedRecord, State.modLocker_eq, FaultCode.code]

theorem heaterCheck_none (n : Nat) (on mark : Bool) (s : State)
    (h : ¬ heaterFinding (s.locker n) on mark = true ∨ (s.locker n).heaterExcluded = true) :
    heaterCheck n on mark s = s := by
  rw [heaterCheck, if_neg]
  rintro ⟨found, clear⟩
  rcases h with h | h
  · exact h found
  · simp [clear] at h

theorem heaterCheck_found (n : Nat) (on mark : Bool) (s : State) (hn : n < 48)
    (h : heaterFinding (s.locker n) on mark = true) (hx : (s.locker n).heaterExcluded = false) :
    heaterCheck n on mark s =
      if (s.locker n).phase = .free ∨ (s.locker n).phase = .purging then
        moveTo .service n (submit .moduleFault [.b1 n, .b1 2] (excludedRecord n s))
      else submit .moduleFault [.b1 n, .b1 2] (excludedRecord n s) := by
  have same : ((excludedRecord n s).locker n).phase = (s.locker n).phase := by
    rw [excludedRecord, State.setLocker_same _ _ _ hn]
  rw [heaterCheck, if_pos ⟨h, hx⟩, setExcluded_clear n s hx]
  dsimp only
  rw [submit_locker, same]

/-- A resume phase that agrees with the occupancy is entered, or SERVICE in its place (R21, R28). -/
theorem resolveOffline_agrees (n : Nat) (p : Phase) (s : State) (hn : n < 48) (h : (s.locker n).phase = .offline)
    (hr : (s.locker n).resume = some p) (ha : p.agrees (s.locker n).occupancy = true) :
    resolveOffline n s =
      if redirect (s.locker n) p = .free then
        becameFree n (submit .online [.b1 n, .b1 (redirect (s.locker n) p).code] (moveTo (redirect (s.locker n) p) n s))
      else submit .online [.b1 n, .b1 (redirect (s.locker n) p).code] (moveTo (redirect (s.locker n) p) n s) := by
  have entered : ((moveTo (redirect (s.locker n) p) n s).locker n).phase = redirect (s.locker n) p := by
    rw [moveTo_locker_same _ _ _ hn, enter_phase]
  simp only [resolveOffline, h, hr, ha, moveToUnlessExcluded, announceFree, submit_locker, entered]
  rfl

theorem resolveOffline_empty (n : Nat) (s : State) (hn : n < 48) (h : (s.locker n).phase = .offline)
    (hr : (s.locker n).resume = none) (ho : (s.locker n).occupancy = .empty) :
    resolveOffline n s = submit .online [.b1 n, .b1 (redirect (s.locker n) .purging).code]
      (moveTo (redirect (s.locker n) .purging) n s) := by
  have entered : ((moveTo (redirect (s.locker n) .purging) n s).locker n).phase = redirect (s.locker n) .purging := by
    rw [moveTo_locker_same _ _ _ hn, enter_phase]
  simp only [resolveOffline, h, hr, ho, moveToUnlessExcluded, entered]
  rfl

theorem resolveOffline_quarantine (n : Nat) (s : State) (h : (s.locker n).phase = .offline)
    (hd : ((s.locker n).resume = none ∧ (s.locker n).occupancy = .occupied) ∨
      ∃ p, (s.locker n).resume = some p ∧ p.agrees (s.locker n).occupancy = false) :
    resolveOffline n s = quarantine n s := by
  rcases hd with ⟨hr, ho⟩ | ⟨p, hr, ha⟩
  · simp [resolveOffline, h, hr, ho]
  · simp [resolveOffline, h, hr, ha]

theorem occupancyCheck_eq (n : Nat) (s : State) :
    occupancyCheck n s =
      if bothLatched (s.locker n) = true ∧ (s.locker n).phase.agrees (s.locker n).occupancy = false then quarantine n s
      else s := by
  unfold occupancyCheck Phase.agrees
  dsimp only
  cases (s.locker n).phase.expects <;> simp

theorem bothLatched_iff (l : Locker) : bothLatched l = true ↔ l.kDoor = .latched ∧ l.cDoor = .latched := by
  simp [bothLatched]

/-- The order of a locker that enters QUARANTINE is withdrawn (R22, R49). -/
theorem quarantine_eq (n : Nat) (s : State) :
    ((s.locker n).orderRef = none →
      quarantine n s = submit .quarantined [.b1 n, .b4 0] (moveTo .quarantine n s)) ∧
    ∀ id, (s.locker n).orderRef = some id →
      quarantine n s =
        submit .quarantined [.b1 n, .b4 id] (removeOrder id (condemn id .lost (moveTo .quarantine n s))) := by
  constructor
  · intro h
    simp [quarantine, h, Field.orderId]
  · intro id h
    simp [quarantine, h, withdrawLost, Field.orderId]

theorem endOfPoll_left (s : State)
    (h : s.bbm.cycle ≠ .running ∨ ∃ n, n < 48 ∧ s.bbm.cursor ≤ n ∧ (s.locker n).phase ≠ .absent) : endOfPoll s = s := by
  rw [endOfPoll, if_neg]
  rintro ⟨running, none⟩
  rw [Option.isNone_iff_eq_none, nextPolled_none_iff] at none
  rcases h with h | ⟨n, hn, hc, hp⟩
  · exact h running
  · exact hp (none n hn hc)

theorem endOfPoll_ends (s : State) (hc : s.bbm.cycle = .running)
    (h : ¬ ∃ n, n < 48 ∧ s.bbm.cursor ≤ n ∧ (s.locker n).phase ≠ .absent) : endOfPoll s = startGap s := by
  have none : nextPolled s s.bbm.cursor = none := by
    rw [nextPolled_none_iff]
    intro n hn hle
    by_contra hp
    exact h ⟨n, hn, hle, hp⟩
  rw [endOfPoll, if_pos ⟨hc, by rw [none]; rfl⟩]

/-- The door fault check of a reply, by its finding (R20). -/
def doorChecked (n : Nat) (found : Option Finding) (s : State) : State :=
  match found with
  | some f => doorFault n f s
  | none => s

theorem faultChecks_eq (n : Nat) (o : Observation) (mark : Bool) (s : State) (hn : n < 48) :
    faultChecks n o.heaterOn mark (s.modLocker n (Locker.observe o)) =
      heaterCheck n o.heaterOn mark
        (doorChecked n (doorFinding ((s.locker n).observe o)) (s.modLocker n (Locker.observe o))) := by
  rw [← State.modLocker_same s n (Locker.observe o) hn]
  unfold faultChecks
  cases doorFinding ((s.modLocker n (Locker.observe o)).locker n) <;> rfl

/-- What a good poll of a bank at rest leaves of the record (R3, R8). -/
theorem goodPoll_choose_measured (n : Nat) (o : Observation) (mark : Bool) (s : State) (hn : n < 48) :
    measured ((chooseTransmit (chooseBus (endOfPoll (goodPoll n o mark s)))).locker n) =
      measured ((s.locker n).observe o) := by
  have given : GivenAway (goodPoll n o mark s) (chooseTransmit (chooseBus (endOfPoll (goodPoll n o mark s)))) :=
    ((endOfPoll_givenAway _).trans (chooseBus_givenAway _)).trans (chooseTransmit_givenAway _)
  rw [(given.2 n).1, goodPoll_measures n o mark s n, State.modLocker_same _ _ _ hn]

theorem endOfPoll_hta (s : State) : (endOfPoll s).hta = s.hta := by
  unfold endOfPoll startGap
  split
  · split <;> rfl
  · rfl

theorem endOfPoll_hau (s : State) : (endOfPoll s).hau = s.hau := by
  unfold endOfPoll startGap
  split
  · split <;> rfl
  · rfl

/-- Settles O52. -/
theorem goodPollTakesTheSteps : Obligations.GoodPollTakesTheSteps := by
  refine ⟨fun n a m o s hn hx hT hk hc => ?_, fun n a m r s _ hx => exec_reply_pollRefused n a m r hx, observe_eq,
    fun n o mark s hn => ?_, fun n s hn => ?_, fun s => ⟨endOfPoll_left s, fun hc h => ?_⟩⟩
  · refine ⟨_, exec_reply_observation n a m o _ hx (readReply_observation n o hT hk hc), rfl, fun hd => ?_⟩
    have chosen (v : State) : afterwards s v = chooseBus v := by simp [afterwards, hd]
    rw [chosen]
    set v : State := { s with ports := [], bbm := { s.bbm with exchange := none } }
    have frame := goodPoll_records n o (m && decide (s.bbm.mapState = .sent)) v
    have fields := goodPoll_choose_measured n o (m && decide (s.bbm.mapState = .sent)) v hn
    simp only [measured, Prod.mk.injEq, observe_eq] at fields
    obtain ⟨⟨kDoor, cDoor, kSeen, cSeen, occ, fault⟩, sample, age, fails, power, granted⟩ := fields
    refine ⟨kDoor, cDoor, occ, fault, kSeen, cSeen, age, fails, sample, power, granted, ?_, ?_, ?_, ?_⟩
    · rw [(chooseTransmit_onlyLink _).bbm, (chooseBus_bus _).failedPolls, endOfPoll_failedPolls, frame.bbm]
    · rw [(chooseTransmit_onlyLink _).sst, (chooseBus_bus _).sst, endOfPoll_sst, frame.sst]
    · rw [(chooseTransmit_onlyLink _).hta, (chooseBus_bus _).hta, endOfPoll_hta, frame.hta]
    · rw [(chooseTransmit_onlyLink _).hau, (chooseBus_bus _).hau, endOfPoll_hau, frame.hau]
  · dsimp only
    rw [goodPoll, faultChecks_eq n o mark s hn]
    rfl
  · have found (on mark : Bool) := heaterFinding_iff (s.locker n) on mark
    have agree (p : Phase) := agrees_iff p (s.locker n).occupancy
    obtain ⟨quarantineEmpty, quarantineOrder⟩ := quarantine_eq n s
    refine ⟨doorFinding_code _, fun f h => by simp [doorFault, h], fun f ha hs => doorFault_eq n f s ha hs,
      fun on mark => ⟨fun h => ?_, fun h hx => ?_⟩, fun h => by simp [resolveOffline, h],
      resolveOffline_empty n s hn, fun p h hr ha => ?_, fun h => ?_, fun hl ha => ?_, fun h => ?_,
      quarantineEmpty, quarantineOrder⟩
    · exact heaterCheck_none n on mark s (by rwa [found])
    · exact heaterCheck_found n on mark s hn ((found on mark).mpr h) hx
    · exact resolveOffline_agrees n p s hn h hr ((agree p).mpr ha)
    · rcases h with ⟨h, hr, ho⟩ | ⟨p, h, hr, ha⟩
      · exact resolveOffline_quarantine n s h (.inl ⟨hr, ho⟩)
      · exact resolveOffline_quarantine n s h (.inr ⟨p, hr, by rwa [← Bool.not_eq_true, agree]⟩)
    · rw [occupancyCheck_eq, if_pos ⟨(bothLatched_iff _).mpr hl, by rwa [← Bool.not_eq_true, agree]⟩]
    · rw [occupancyCheck_eq, if_neg]
      rintro ⟨hl, ha⟩
      rcases h with h | h
      · exact h ((bothLatched_iff _).mp hl)
      · simp [(agree _).mpr h] at ha
  · rw [endOfPoll_ends s hc h]
    by_cases hg : s.params.pollGapMs = 0
    · rw [startGap_zero s hg, if_pos hg, if_pos hg, if_pos hg]
    · rw [startGap_pos s hg, if_neg hg, if_neg hg, if_neg hg]

end Sys2Proof.Proofs

/-! ## Who gets the free bus (R11, R95 to R99, R114, R120, R152, R153, R189) -/

namespace Sys2Proof.Proofs

open Sys2Proof.Machine

variable {s t u : State}

/-! ### The oldest command (R114) -/

/-- How much younger the number `r` is than `q`. -/
def younger (q r : Nat) : Nat := (r + 65536 - q) % 65536

/-- All numbers lie in one window that starts at `q`. -/
def Window (q : Nat) (rs : List Nat) : Prop := ∀ r ∈ rs, r < 65536 ∧ younger q r < 32768

theorem olderSeq_iff_younger_le (q a c : Nat) (hq : q < 65536) (ha : a < 65536 ∧ younger q a < 32768)
    (hc : c < 65536 ∧ younger q c < 32768) : olderSeq a c = true ↔ younger q a ≤ younger q c := by
  simp only [olderSeq, younger, decide_eq_true_eq] at *
  omega

/-- Of the numbers of a window, `pickOlder` keeps one that none precedes. -/
theorem foldl_pickOlder_least (q : Nat) (hq : q < 65536) (rs : List Nat) (best x : Nat)
    (hw : Window q (best :: rs)) (h : rs.foldl pickOlder (some best) = some x) :
    ∀ r ∈ best :: rs, younger q x ≤ younger q r := by
  induction rs generalizing best with
  | nil =>
    cases h
    simp
  | cons a rest ih =>
    have hbest := hw best (by simp)
    have ha := hw a (by simp)
    have hrest (r : Nat) (hr : r ∈ rest) := hw r (by simp [hr])
    have older := olderSeq_iff_younger_le q a best hq ha hbest
    simp only [List.foldl_cons, pickOlder] at h
    by_cases hab : olderSeq a best = true
    · rw [if_pos hab] at h
      have least := ih a (fun r hr => hw r (by simp at hr ⊢; tauto)) h
      intro r hr
      simp only [List.mem_cons] at hr
      rcases hr with rfl | rfl | hr
      · exact (least a (by simp)).trans (older.mp hab)
      · exact least _ (by simp)
      · exact least r (by simp [hr])
    · rw [if_neg hab] at h
      have least := ih best (fun r hr => hw r (by simp at hr ⊢; tauto)) h
      intro r hr
      simp only [List.mem_cons] at hr
      rcases hr with rfl | rfl | hr
      · exact least _ (by simp)
      · exact (least best (by simp)).trans (Nat.le_of_not_le fun h => hab (older.mpr h))
      · exact least r (by simp [hr])

/-- The number a window starts at is the oldest. -/
theorem foldl_pickOlder_window (q : Nat) (rs : List Nat) (hq : q ∈ rs) (hw : Window q rs) :
    rs.foldl pickOlder none = some q := by
  have hq' := (hw q hq).1
  cases rs with
  | nil => simp at hq
  | cons a rest =>
    change rest.foldl pickOlder (some a) = some q
    cases h : rest.foldl pickOlder (some a) with
    | none =>
      have := foldl_pickOlder_isSome rest (some a) rfl
      simp [h] at this
    | some x =>
      have hx : x ∈ a :: rest := by
        rcases foldl_pickOlder_mem rest (some a) x h with hb | hr
        · cases hb
          simp
        · simp [hr]
      have hlt := (hw x hx).1
      have least := foldl_pickOlder_least q hq' rest a x hw h q hq
      simp only [younger] at least
      congr 1
      omega

/-! ### How many rounds the choice takes (log entry 7) -/

/-- The commands TXU holds. -/
def held (x : Txu) : Nat := x.table.length + x.posted.length

theorem dispatchHead_held (x : Txu) (q : Nat) (h : dispatchHead x = some q) :
    (∃ e, entryBySeq x q = some e) ∨ (entryBySeq x q = none ∧ ∃ p, postedBySeq x q = some p) := by
  have hq : q ∈ waitingSeqs x := by
    rcases foldl_pickOlder_mem _ _ _ h with h | h
    · cases h
    · exact h
  cases he : entryBySeq x q with
  | some e => exact .inl ⟨e, rfl⟩
  | none =>
    rw [entryBySeq_none] at he
    rcases (mem_waitingSeqs x q).mp hq with ⟨e, hm, -, hs⟩ | ⟨p, hm, -, hs⟩
    · exact absurd hs (he e hm)
    · refine .inr ⟨rfl, Option.isSome_iff_exists.mp ?_⟩
      rw [Option.isSome_iff_ne_none, ne_eq, postedBySeq_none]
      exact fun hn => hn p hm hs

theorem endCommand_held (q : Nat) (e : Entry) (o : CmdOutcome) (s : State) (he : entryBySeq s.txu q = some e) :
    held (endCommand q o s).txu < held s.txu := by
  have table : (endCommand q o s).txu.table = s.txu.table.filter fun x => x.seq != q := endCommand_table q o s
  have posted : (endCommand q o s).txu.posted = s.txu.posted := by
    simp only [endCommand, he]
    exact endConfirmed_posted e o s
  have fewer : (s.txu.table.filter fun x => x.seq != q).length < s.txu.table.length := by
    rw [List.length_filter_lt_length_iff_exists]
    exact ⟨e, entryBySeq_mem _ _ _ he, by simp [entryBySeq_seq _ _ _ he]⟩
  unfold held
  rw [table, posted]
  omega

/-- The command that wins, as it stands ON_BUS. -/
def won (q : Nat) (s : State) : State := putOnBus q (s.withBbm { s.bbm with lastWinner := .command })

theorem entryBySeq_won (q : Nat) (s : State) :
    entryBySeq (won q s).txu q = (entryBySeq s.txu q).map fun e => { e with stage := .onBus } := by
  have same : ((fun e : Entry => e.seq == q) ∘ fun e : Entry => if e.seq == q then { e with stage := .onBus } else e) =
      fun e => e.seq == q := by
    funext e
    by_cases h : e.seq = q <;> simp [h]
  change (s.txu.table.map _).find? _ = (s.txu.table.find? _).map _
  rw [List.find?_map, same]
  cases h : s.txu.table.find? fun e => e.seq == q with
  | none => rfl
  | some e =>
    have hs : e.seq = q := by simpa using List.find?_some h
    simp [hs]

theorem postedBySeq_won (q : Nat) (s : State) :
    postedBySeq (won q s).txu q = (postedBySeq s.txu q).map fun p => { p with stage := .onBus } := by
  have same : ((fun p : Posted => p.seq == q) ∘ fun p : Posted => if p.seq == q then { p with stage := .onBus } else p) =
      fun p => p.seq == q := by
    funext p
    by_cases h : p.seq = q <;> simp [h]
  change (s.txu.posted.map _).find? _ = (s.txu.posted.find? _).map _
  rw [List.find?_map, same]
  cases h : s.txu.posted.find? fun p => p.seq == q with
  | none => rfl
  | some p =>
    have hs : p.seq = q := by simpa using List.find?_some h
    simp [hs]

theorem won_held (q : Nat) (s : State) : held (won q s).txu = held s.txu := by
  simp [held, won, putOnBus]

/-- A winning entry is sent, or fails its recheck and ends (R11, R97). -/
theorem beginCommand_entry (q : Nat) (e : Entry) (s : State) (he : entryBySeq s.txu q = some e) :
    beginCommand q s =
      if e.request = .moduleRead ∨ recheck e s = none then
        beginExchange e.locker q (entryFrame s.params.unlatchWindowS e) (won q s)
      else endCommand q ((recheck e s).getD .offline) (won q s) := by
  have found : entryBySeq (won q s).txu q = some { e with stage := .onBus } := by rw [entryBySeq_won, he]; rfl
  unfold beginCommand
  change (match entryBySeq (won q s).txu q with | some e => _ | none => _) = _
  rw [found]
  have same : recheck { e with stage := .onBus } (won q s) = recheck e s := rfl
  have frame : entryFrame s.params.unlatchWindowS { e with stage := .onBus } = entryFrame s.params.unlatchWindowS e := rfl
  by_cases hr : e.request = .moduleRead
  · rw [if_pos (.inl hr)]
    dsimp only
    rw [if_neg (by simp [hr, CmdRequest.isUnlatch])]
    rfl
  · dsimp only
    rw [if_pos ((isUnlatch_iff _).mpr hr)]
    change (match recheck { e with stage := .onBus } (won q s) with | some o => _ | none => _) = _
    rw [same]
    cases hk : recheck e s with
    | none =>
      rw [if_pos (.inr rfl)]
      rfl
    | some o =>
      rw [if_neg (by simp [hr])]
      rfl

theorem beginCommand_posted (q : Nat) (p : Posted) (s : State) (he : entryBySeq s.txu q = none)
    (hp : postedBySeq s.txu q = some p) :
    beginCommand q s = beginExchange p.locker q (postedFrame p) (won q s) := by
  have none : entryBySeq (won q s).txu q = none := by rw [entryBySeq_won, he]; rfl
  have found : postedBySeq (won q s).txu q = some { p with stage := .onBus } := by rw [postedBySeq_won, hp]; rfl
  simp only [won] at none found
  simp only [beginCommand, none, found]
  rfl

/-- A command that wins is on the bus, or there is one command less. -/
theorem beginCommand_progress (q : Nat) (s : State) (h : dispatchHead s.txu = some q) :
    (beginCommand q s).bbm.exchange ≠ none ∨ held (beginCommand q s).txu < held s.txu := by
  rcases dispatchHead_held _ _ h with ⟨e, he⟩ | ⟨he, p, hp⟩
  · rw [beginCommand_entry q e s he]
    split
    · exact .inl (by simp [beginExchange, State.emit])
    · refine .inr ?_
      rw [← won_held q s]
      exact endCommand_held q { e with stage := .onBus } _ _ (by rw [entryBySeq_won, he]; rfl)
  · rw [beginCommand_posted q p s he hp]
    exact .inl (by simp [beginExchange, State.emit])

/-- One round of the choice on a free bus. -/
theorem chooseBusLoop_free (k : Nat) (s : State) (hx : s.bbm.exchange = none) (hl : s.bbm.line = .idle) :
    (s.bbm.mapState = .waiting → chooseBusLoop (k + 1) s = beginBroadcast s) ∧
    (s.bbm.mapState ≠ .waiting → dispatchHead s.txu = none → pollRequest s = none → chooseBusLoop (k + 1) s = s) ∧
    (∀ r, s.bbm.mapState ≠ .waiting → pollRequest s = some r →
      dispatchHead s.txu = none ∨ s.bbm.lastWinner = .command → chooseBusLoop (k + 1) s = beginPoll r s) ∧
    ∀ q, s.bbm.mapState ≠ .waiting → dispatchHead s.txu = some q →
      pollRequest s = none ∨ s.bbm.lastWinner = .poll →
      chooseBusLoop (k + 1) s = chooseBusLoop k (beginCommand q s) := by
  have free : busFree s = true := by simp [busFree, hx, hl]
  refine ⟨fun hm => ?_, fun hm hd hp => ?_, fun r hm hp h => ?_, fun q hm hd h => ?_⟩
  · rw [chooseBusLoop, if_pos free, if_pos hm]
  · rw [chooseBusLoop, if_pos free, if_neg hm, hd, hp]
  · rw [chooseBusLoop, if_pos free, if_neg hm, hp]
    rcases h with h | h
    · rw [h]
    · cases dispatchHead s.txu with
      | none => rfl
      | some q => exact if_pos h
  · rw [chooseBusLoop, if_pos free, if_neg hm, hd]
    rcases h with h | h
    · rw [h]
    · cases pollRequest s with
      | none => rfl
      | some r => exact if_neg (by simp [h])

/-- As many rounds as there are commands, and one more, always reach a winner: further ones change nothing. -/
theorem chooseBusLoop_enough (k : Nat) (s : State) (h : held s.txu < k) :
    chooseBusLoop k s = chooseBusLoop (k + 1) s := by
  induction k generalizing s with
  | zero => omega
  | succ k ih =>
    by_cases hfree : s.bbm.exchange = none ∧ s.bbm.line = .idle
    · obtain ⟨hx, hl⟩ := hfree
      obtain ⟨map, rest, poll, command⟩ := chooseBusLoop_free k s hx hl
      obtain ⟨map', rest', poll', command'⟩ := chooseBusLoop_free (k + 1) s hx hl
      by_cases hm : s.bbm.mapState = .waiting
      · rw [map hm, map' hm]
      · have commandRounds (q : Nat) (hd : dispatchHead s.txu = some q)
            (hp : pollRequest s = none ∨ s.bbm.lastWinner = .poll) :
            chooseBusLoop (k + 1) s = chooseBusLoop (k + 1 + 1) s := by
          rw [command q hm hd hp, command' q hm hd hp]
          rcases beginCommand_progress q s hd with hx' | hless
          · rw [chooseBusLoop_of_exchange _ hx', chooseBusLoop_of_exchange _ hx']
          · exact ih _ (by omega)
        cases hd : dispatchHead s.txu with
        | none =>
          cases hp : pollRequest s with
          | none => rw [rest hm hd hp, rest' hm hd hp]
          | some r => rw [poll r hm hp (.inl hd), poll' r hm hp (.inl hd)]
        | some q =>
          cases hp : pollRequest s with
          | none => exact commandRounds q hd (.inl hp)
          | some r =>
            cases hw : s.bbm.lastWinner with
            | command => rw [poll r hm hp (.inr hw), poll' r hm hp (.inr hw)]
            | poll => exact commandRounds q hd (.inr hw)
    · have busy : busFree s = false := by
        rw [Bool.eq_false_iff]
        simpa [busFree] using hfree
      simp [chooseBusLoop, busy]

theorem chooseBusLoop_eq_chooseBus (k : Nat) (s : State) (h : held s.txu < k) : chooseBusLoop k s = chooseBus s := by
  have rounds (j : Nat) : chooseBusLoop (held s.txu + 1 + j) s = chooseBus s := by
    induction j with
    | zero => rfl
    | succ j ih => rw [← Nat.add_assoc, ← chooseBusLoop_enough _ s (by omega), ih]
  obtain ⟨j, rfl⟩ := Nat.exists_eq_add_of_le h
  exact rounds j

/-! ### What waits as the poll requester (R99, R189) -/

theorem nextPolled_some (s : State) (c n : Nat) (hn : n < 48) (hc : c ≤ n) (hp : (s.locker n).phase ≠ .absent)
    (hl : ∀ j, c ≤ j → j < n → (s.locker j).phase = .absent) : nextPolled s c = some n := by
  rw [nextPolled, Config.allLockers, List.find?_range_eq_some]
  refine ⟨by simp [hc, hp], by simpa using hn, fun j hj => ?_⟩
  by_cases hcj : c ≤ j
  · simp [hl j hcj hj]
  · simp [hcj]

theorem nextProbed_some (s : State) (c n : Nat) (hn : n < 48) (hc : c ≤ n) (hp : (s.locker n).populated = true)
    (hs : (s.locker n).phase ≠ .service)
    (hl : ∀ j, c ≤ j → j < n → (s.locker j).populated = false ∨ (s.locker j).phase = .service) :
    nextProbed s c = some n := by
  rw [nextProbed, Config.allLockers, List.find?_range_eq_some]
  refine ⟨by simp [hc, hp, hs], by simpa using hn, fun j hj => ?_⟩
  by_cases hcj : c ≤ j
  · rcases hl j hcj hj with h | h <;> simp [h]
  · simp [hcj]

/-! ### The bytes of the map (R153) -/

theorem foldl_ite_add (P : Nat → Bool) (f : Nat → Nat) (is : List Nat) (x : Nat) :
    is.foldl (fun acc i => if P i then acc + f i else acc) x = x + (is.map fun i => if P i then f i else 0).sum := by
  induction is generalizing x with
  | nil => simp
  | cons i rest ih =>
    rw [List.foldl_cons, ih, List.map_cons, List.sum_cons]
    split <;> omega

theorem slotByte_eq (slots : List Nat) (base : Nat) :
    slotByte slots base = ((List.range 8).map fun i => if base + i < 20 ∧ base + i ∈ slots then 2 ^ i else 0).sum := by
  unfold slotByte
  rw [foldl_ite_add, Nat.zero_add]
  refine congrArg List.sum (List.map_congr_left fun i _ => ?_)
  have same : (slots.contains (base + i) && decide (base + i < 20)) = true ↔ base + i < 20 ∧ base + i ∈ slots := by
    simp [and_comm]
  simp only [same]

theorem heatMapFrame_eq (off : Nat) (map : Vector (List Nat) 48) :
    heatMapFrame off map =
      ⟨0xFF, 0x07, [off / 256 % 256, off % 256] ++ (List.range 48).flatMap fun n => [0, 8, 16].map fun base =>
        ((List.range 8).map fun i => if base + i < 20 ∧ base + i ∈ vget map n [] then 2 ^ i else 0).sum⟩ := by
  unfold heatMapFrame slotBytes
  simp only [slotByte_eq]
  rfl

/-! ### The recheck (R11) -/

theorem recheck_passes (e : Entry) (d : Door) (p : Phase) (s : State) (hd : e.door = some d)
    (he : e.request.phase.getD .service = p) (hp : (s.locker e.locker).phase = p)
    (hc : ¬ (d = .c ∧ orderCondemned s (s.locker e.locker) = true))
    (hl : (s.locker e.locker).door d.other = .latched) : recheck e s = none := by
  have online : e.request.phase.getD .service ≠ .offline := by cases e.request <;> simp [CmdRequest.phase]
  have off : (s.locker e.locker).phase ≠ .offline := hp ▸ he ▸ online
  simp only [recheck, hd, Option.getD_some, he]
  rw [if_neg off, if_neg (not_not_intro hp), if_neg hc, if_neg (not_not_intro hl)]

/-- The outcome of a recheck that fails. -/
theorem recheck_fails (e : Entry) (d : Door) (p : Phase) (s : State) (hd : e.door = some d)
    (he : e.request.phase.getD .service = p)
    (h : (s.locker e.locker).phase ≠ p ∨
      (d = .c ∧ orderCondemned s (s.locker e.locker) = true) ∨ (s.locker e.locker).door d.other ≠ .latched) :
    recheck e s = some
      (if (s.locker e.locker).phase = .offline then .offline
      else if (s.locker e.locker).phase ≠ p then .wrongPhase
      else if d = .c ∧ orderCondemned s (s.locker e.locker) = true then .tooLate
      else .interlock) := by
  simp only [recheck, hd, Option.getD_some, he]
  split
  · rfl
  · split
    · rfl
    · split
      · rfl
      · rw [if_pos]
        tauto

theorem entryFrame_eq (window : Nat) (e : Entry) :
    entryFrame window e =
      if e.request = .moduleRead then ⟨e.locker, 0x03, [e.item.getD 0 % 256]⟩
      else ⟨e.locker, 0x02, [((e.door.map Door.code).getD 0) % 256, window % 256]⟩ := by
  unfold entryFrame
  cases e.request <;> rfl

/-- A command that is sent is the winner. -/
theorem chooseBus_command (q : Nat) (s : State) (hx : s.bbm.exchange = none) (hl : s.bbm.line = .idle)
    (hm : s.bbm.mapState ≠ .waiting) (hd : dispatchHead s.txu = some q)
    (hp : pollRequest s = none ∨ s.bbm.lastWinner = .poll) : chooseBus s = chooseBusLoop (held s.txu) (beginCommand q s) :=
  (chooseBusLoop_free _ s hx hl).2.2.2 q hm hd hp

theorem chooseBusLoop_beginExchange (k n q : Nat) (f : BusFrame) (s : State) :
    chooseBusLoop k (beginExchange n q f s) = beginExchange n q f s :=
  chooseBusLoop_of_exchange k (by simp [beginExchange, State.emit])

/-- Settles O50. -/
theorem busChoice : Obligations.BusChoice := by
  intro s
  refine ⟨(chooseBus_bus s).onlyBusSide, ⟨foldl_pickOlder_none _, fun q hq hw => foldl_pickOlder_window q _ hq hw⟩,
    fun h => chooseBus_busy s ?_, fun p => ?_, heatMapFrame_eq, fun n hd hc hn hle hp hl => ?_,
    fun n k hd hpr hn hle hp hs hl => ?_, fun hd hc => ?_, fun hx hline => ?_⟩
  · rw [Bool.eq_false_iff]
    simp only [busFree, ne_eq, Bool.and_eq_true, Option.isNone_iff_eq_none, decide_eq_true_eq]
    tauto
  · unfold postedFrame
    cases p.content <;> rfl
  · simp [pollRequest, hd, hc, nextPolled_some s s.bbm.cursor n hn hle hp hl]
  · simp [pollRequest, hd, hpr, nextProbed_some s s.ltu.probeCursor n hn hle hp hs hl]
  · simp [pollRequest, hd, hc]
  · obtain ⟨map, rest, poll, -⟩ := chooseBusLoop_free (held s.txu) s hx hline
    refine ⟨map, rest, fun n hm hp h => poll (.poll n) hm hp h, fun q p hm hd he hp hr => ?_,
      fun n hm hp h => poll (.probe n) hm hp h, fun q e hm hd he hr => ?_⟩
    · rw [chooseBus_command q s hx hline hm hd hr, beginCommand_posted q p s he hp, chooseBusLoop_beginExchange]
      rfl
    · dsimp only
      have sent (h : e.request = .moduleRead ∨ recheck e s = none) :
          chooseBus s = beginExchange e.locker q (entryFrame s.params.unlatchWindowS e) (won q s) := by
        rw [chooseBus_command q s hx hline hm hd hr, beginCommand_entry q e s he, if_pos h, chooseBusLoop_beginExchange]
      rw [← entryFrame_eq]
      refine ⟨fun hread => sent (.inl hread), fun d hread hdoor => ⟨fun hp hc hl => ?_, fun o ho h => ?_⟩⟩
      · exact sent (.inr (recheck_passes e d _ s hdoor (by cases e.request <;> rfl) hp hc hl))
      · have fails : recheck e s = some o := by
          rw [ho]
          exact recheck_fails e d _ s hdoor (by cases e.request <;> rfl) h
        have less := endCommand_held q { e with stage := .onBus } o (won q s) (by rw [entryBySeq_won, he]; rfl)
        rw [won_held] at less
        rw [chooseBus_command q s hx hline hm hd hr, beginCommand_entry q e s he, if_neg (by simp [hread, fails]),
          fails, Option.getD_some]
        exact chooseBusLoop_eq_chooseBus _ _ less

end Sys2Proof.Proofs

/-! ## The fence and the pending sweep (R2, R36, R37, R40, R41, R175, R179) -/

namespace Sys2Proof.Proofs

open Sys2Proof.Machine

variable {s t u : State}

/-! ### Allocation (R40) -/

theorem allocate_head (s : State) (c : SizeClass) (n : Nat) (rest : List Nat) (h : s.freeList c = n :: rest) :
    allocate s c = some n := by
  simp [allocate, h]

theorem allocate_larger (s : State) (c : SizeClass) (h : s.freeList c = []) (hu : s.params.upsize = true) :
    allocate s c = c.larger.findSome? fun k => (s.freeList k).head? := by
  simp [allocate, h, hu]

theorem allocate_own (s : State) (c : SizeClass) (h : s.freeList c = []) (hu : s.params.upsize = false) :
    allocate s c = none := by
  simp [allocate, h, hu]

/-- No locker for a class: its own list is empty, and under UPSIZE every larger one (R40). -/
theorem allocate_none_iff (s : State) (c : SizeClass) :
    allocate s c = none ↔
      s.freeList c = [] ∧ (s.params.upsize = true → ∀ k ∈ c.larger, s.freeList k = []) := by
  cases hl : s.freeList c with
  | cons n rest => simp [allocate_head s c n rest hl]
  | nil =>
    cases hu : s.params.upsize with
    | false => simp [allocate_own s c hl hu]
    | true => simp [allocate_larger s c hl hu]

/-- Of the larger classes the smallest with a free locker is taken (R40). -/
theorem allocate_first_larger (s : State) (c k : SizeClass) (n : Nat) (rest : List Nat) (h : s.freeList c = [])
    (hu : s.params.upsize = true) (hk : k ∈ c.larger) (hn : s.freeList k = n :: rest)
    (hj : ∀ j ∈ c.larger, j.code < k.code → s.freeList j = []) : allocate s c = some n := by
  rw [allocate_larger s c h hu]
  cases c with
  | large => simp [SizeClass.larger] at hk
  | medium =>
    simp only [SizeClass.larger, List.mem_singleton] at hk
    subst hk
    simp [SizeClass.larger, hn]
  | small =>
    simp only [SizeClass.larger, List.mem_cons, List.not_mem_nil, or_false] at hk
    rcases hk with rfl | rfl
    · simp [SizeClass.larger, hn]
    · have medium : s.freeList .medium = [] := hj .medium (by simp [SizeClass.larger]) (by decide)
      simp [SizeClass.larger, hn, medium]

/-! ### The sweep (R37) -/

/-- One order of the queue: placed if it finds a locker (R37, R41). -/
def sweepOne (u : State) (id : Nat) : State :=
  match u.order? id with
  | none => u
  | some o =>
    match allocate u o.cls with
    | none => u
    | some n => placePending o n u

theorem sweepOver_eq (ids : List Nat) (s : State) : sweepOver ids s = ids.foldl sweepOne s := by
  induction ids generalizing s with
  | nil => rfl
  | cons id rest ih =>
    rw [List.foldl_cons, sweepOver, sweepOne]
    cases s.order? id with
    | none => exact ih s
    | some o =>
      dsimp only
      cases allocate s o.cls with
      | none => exact ih s
      | some n => exact ih _

/-- A turn of the sweep places an order or changes nothing. -/
theorem sweepOne_cases (u : State) (id : Nat) :
    (sweepOne u id = u ∧ ∀ o, u.order? id = some o → allocate u o.cls = none) ∨
      ∃ o n, u.order? id = some o ∧ sweepOne u id = placePending o n u := by
  unfold sweepOne
  cases ho : u.order? id with
  | none => exact .inl ⟨rfl, fun o h => by cases h⟩
  | some o =>
    dsimp only
    cases ha : allocate u o.cls with
    | none =>
      refine .inl ⟨rfl, fun x h => ?_⟩
      cases h
      exact ha
    | some n => exact .inr ⟨o, n, rfl, rfl⟩

theorem placePending_orders (o : Order) (n : Nat) (s : State) :
    (placePending o n s).oru.orders =
      s.oru.orders.map fun x => if x.id == o.id then { x with status := .placed n 0 false } else x := by
  simp [placePending, join_orders]

theorem placePending_freeList (o : Order) (n : Nat) (s : State) (c : SizeClass) :
    (placePending o n s).freeList c =
      if c = (s.locker n).cls then (s.freeList c).filter (fun m => m != n) else s.freeList c := by
  simp [placePending, join_freeList]

/-- What a turn leaves: no new locker is free, no new order waits, the ids stay. -/
def Swept (s t : State) : Prop :=
  t.params = s.params ∧ (∀ c, ∀ m ∈ t.freeList c, m ∈ s.freeList c) ∧
    t.oru.orders.map Order.id = s.oru.orders.map Order.id ∧
    ∀ o ∈ t.oru.orders, o.isPending = true → o ∈ s.oru.orders

theorem Swept.refl (s : State) : Swept s s := ⟨rfl, fun _ _ h => h, rfl, fun _ h _ => h⟩

theorem Swept.trans (h : Swept s t) (k : Swept t u) : Swept s u := by
  obtain ⟨hp, hf, hi, ho⟩ := h
  obtain ⟨kp, kf, ki, ko⟩ := k
  exact ⟨kp.trans hp, fun c m hm => hf c m (kf c m hm), ki.trans hi, fun o hm hw => ho o (ko o hm hw) hw⟩

theorem placePending_swept (o : Order) (n : Nat) (s : State) : Swept s (placePending o n s) := by
  refine ⟨(placePending_records o n s).params, fun c m hm => ?_, ?_, fun x hx hw => ?_⟩
  · rw [placePending_freeList] at hm
    split at hm
    · exact List.mem_of_mem_filter hm
    · exact hm
  · rw [placePending_orders, List.map_map]
    refine List.map_congr_left fun x _ => ?_
    simp only [Function.comp_apply]
    split <;> rfl
  · rw [placePending_orders] at hx
    obtain ⟨y, hy, hyx⟩ := List.mem_map.mp hx
    split at hyx
    · simp [← hyx, Order.isPending] at hw
    · exact hyx ▸ hy

theorem sweepOne_swept (u : State) (id : Nat) : Swept u (sweepOne u id) := by
  rcases sweepOne_cases u id with ⟨h, -⟩ | ⟨o, n, -, h⟩
  · rw [h]
    exact .refl u
  · rw [h]
    exact placePending_swept o n u

theorem foldl_sweepOne_swept (ids : List Nat) (s : State) : Swept s (ids.foldl sweepOne s) := by
  induction ids generalizing s with
  | nil => exact .refl s
  | cons id rest ih => exact (sweepOne_swept s id).trans (ih _)

theorem Swept.allocate_none (h : Swept s t) (c : SizeClass) (ha : allocate s c = none) : allocate t c = none := by
  obtain ⟨hp, hf, -, -⟩ := h
  have empty (k : SizeClass) (hk : s.freeList k = []) : t.freeList k = [] := by
    rw [List.eq_nil_iff_forall_not_mem]
    intro m hm
    have := hf k m hm
    simp [hk] at this
  rw [allocate_none_iff] at ha ⊢
  rw [hp]
  exact ⟨empty c ha.1, fun hu k hk => empty k (ha.2 hu k hk)⟩

theorem order?_of_mem (s : State) (o : Order) (hi : (s.oru.orders.map Order.id).Nodup) (ho : o ∈ s.oru.orders) :
    s.order? o.id = some o := by
  cases hx : s.order? o.id with
  | none =>
    have := List.find?_eq_none.mp hx o ho
    simp at this
  | some x => rw [List.inj_on_of_nodup_map hi (s.order_mem _ _ hx) ho (s.order_id _ _ hx)]

/-- An order that still waits after its turn finds no locker (R37). -/
theorem sweepOne_settles (u : State) (o : Order) (hi : (u.oru.orders.map Order.id).Nodup)
    (ho : o ∈ (sweepOne u o.id).oru.orders) (hw : o.isPending = true) : allocate (sweepOne u o.id) o.cls = none := by
  have mem : o ∈ u.oru.orders := (sweepOne_swept u o.id).2.2.2 o ho hw
  have found := order?_of_mem u o hi mem
  rcases sweepOne_cases u o.id with ⟨h, ha⟩ | ⟨x, n, hx, h⟩
  · rw [h]
    exact ha o found
  · rw [h, placePending_orders] at ho
    obtain ⟨y, -, hy⟩ := List.mem_map.mp ho
    have same : x = o := by
      rw [found] at hx
      exact (Option.some.inj hx).symm
    subst same
    split at hy
    case isTrue => simp [← hy, Order.isPending] at hw
    case isFalse hne => simp [hy] at hne

theorem foldl_sweepOne_settles (ids : List Nat) (s : State) (o : Order) (hi : (s.oru.orders.map Order.id).Nodup)
    (ho : o ∈ (ids.foldl sweepOne s).oru.orders) (hw : o.isPending = true) (hm : o.id ∈ ids) :
    allocate (ids.foldl sweepOne s) o.cls = none := by
  induction ids generalizing s with
  | nil => simp at hm
  | cons id rest ih =>
    have turn := sweepOne_swept s id
    have later := foldl_sweepOne_swept rest (sweepOne s id)
    have hi' : ((sweepOne s id).oru.orders.map Order.id).Nodup := turn.2.2.1 ▸ hi
    by_cases hid : o.id = id
    · subst hid
      exact later.allocate_none _ (sweepOne_settles s o hi (later.2.2.2 o ho hw) hw)
    · exact ih _ hi' ho ((List.mem_cons.mp hm).resolve_left hid)

/-! ### The lists after a recomputation (R36) -/

theorem foldl_leftFree_freeList (ns : List Nat) (s : State) (c : SizeClass) :
    (ns.foldl (fun s n => leftFree (s.locker n).cls n s) s).freeList c =
      (s.freeList c).filter fun m => !(ns.contains m && decide ((s.locker m).cls = c)) := by
  induction ns generalizing s with
  | nil => simp
  | cons n rest ih =>
    rw [List.foldl_cons, ih]
    simp only [leftFree, State.setFreeList_freeList]
    by_cases hc : c = (s.locker n).cls
    · subst hc
      rw [if_pos rfl, List.filter_filter]
      refine List.filter_congr fun m _ => ?_
      by_cases hm : m = n
      · simp [hm]
      · simp [hm]
    · rw [if_neg hc]
      refine List.filter_congr fun m _ => ?_
      by_cases hm : m = n
      · subst hm
        simp [Ne.symm hc]
      · simp [hm]

theorem foldl_appendFree_freeList (ns : List Nat) (s : State) (c : SizeClass) :
    (ns.foldl (fun s n => appendFree (s.locker n).cls n s) s).freeList c =
      s.freeList c ++ ns.filter fun m => decide ((s.locker m).cls = c) := by
  induction ns generalizing s with
  | nil => simp
  | cons n rest ih =>
    rw [List.foldl_cons, ih]
    simp only [appendFree, State.setFreeList_freeList]
    by_cases hc : c = (s.locker n).cls
    · subst hc
      simp
    · simp [hc, Ne.symm hc]

/-- What changes of free lists leave alone. -/
def ListsOnly (s t : State) : Prop :=
  t = { s with oru := { s.oru with
    freeSmall := t.oru.freeSmall, freeMedium := t.oru.freeMedium, freeLarge := t.oru.freeLarge } }

theorem ListsOnly.trans (h : ListsOnly s t) (k : ListsOnly t u) : ListsOnly s u := by
  unfold ListsOnly at *
  rw [k, h]

theorem setFreeList_listsOnly (c : SizeClass) (q : List Nat) (s : State) : ListsOnly s (s.setFreeList c q) := by
  cases c <;> rfl

theorem foldl_listsOnly (f : State → Nat → State) (hf : ∀ s n, ListsOnly s (f s n)) (ns : List Nat) (s : State) :
    ListsOnly s (ns.foldl f s) := by
  induction ns generalizing s with
  | nil => rfl
  | cons n rest ih => exact (hf s n).trans (ih _)

/-- The lockers whose place in the lists a recomputation changes: FREE, and fenced otherwise than before. -/
def newly (becomes : Bool) (s : State) : List Nat :=
  Config.allLockers.filter fun n =>
    decide ((s.locker n).phase = .free) && decide ((s.locker n).fenced ≠ becomes) &&
      decide (fenceCovers s.params n = becomes)

/-- The records with their fenced field recomputed (R2). -/
def refenced (s : State) : State :=
  { s with ltu := { s.ltu with lockers := vinit 48 fun n => { s.locker n with fenced := fenceCovers s.params n } } }

/-- The recomputation before the sweep (R36). -/
def fenceMoved (s : State) : State :=
  (newly false s).foldl (fun s n => appendFree (s.locker n).cls n s)
    ((newly true s).foldl (fun s n => leftFree (s.locker n).cls n s) (refenced s))

theorem fenceMoved_listsOnly (s : State) : ListsOnly (refenced s) (fenceMoved s) :=
  (foldl_listsOnly _ (fun _ _ => setFreeList_listsOnly _ _ _) _ _).trans
    (foldl_listsOnly _ (fun _ _ => setFreeList_listsOnly _ _ _) _ _)

theorem fenceMoved_locker (s : State) (n : Nat) (hn : n < 48) :
    (fenceMoved s).locker n = { s.locker n with fenced := fenceCovers s.params n } := by
  rw [fenceMoved_listsOnly s]
  exact vget_vinit _ _ _ _ hn

theorem fenceMoved_queue (s : State) : (fenceMoved s).oru.queue = s.oru.queue := by
  rw [fenceMoved_listsOnly s]
  rfl

theorem recomputeFence_eq (s : State) :
    recomputeFence s =
      if newly false s ≠ [] ∧ s.oru.queue ≠ [] then pendingSweep (fenceMoved s) else fenceMoved s := by
  rw [← fenceMoved_queue s]
  rfl

/-- With exact lists, those after a recomputation are exact too, newcomers last (R35, R36). -/
theorem fenceMoved_freeList (s : State) (h : s.FreeListsExact) (c : SizeClass) :
    (fenceMoved s).freeList c =
      (s.freeList c).filter (fun n => !fenceCovers s.params n) ++
        Config.allLockers.filter fun n =>
          decide ((s.locker n).phase = .free) && (s.locker n).fenced && !fenceCovers s.params n &&
            decide ((s.locker n).cls = c) := by
  have cls (n : Nat) (hn : n < 48) : ((refenced s).locker n).cls = (s.locker n).cls := by
    rw [show (refenced s).locker n = { s.locker n with fenced := fenceCovers s.params n } from vget_vinit _ _ _ _ hn]
  have left (n : Nat) : (((newly true s).foldl (fun s n => leftFree (s.locker n).cls n s) (refenced s)).locker n) =
      (refenced s).locker n := by
    rw [foldl_listsOnly (fun s n => leftFree (s.locker n).cls n s) (fun _ _ => setFreeList_listsOnly _ _ _)]
    rfl
  rw [fenceMoved, foldl_appendFree_freeList, foldl_leftFree_freeList]
  congr 1
  · refine List.filter_congr fun n hn => ?_
    obtain ⟨hp, hf, hc⟩ := (h.1 c n).mp hn
    have hlt : n < 48 := by
      by_contra hout
      rw [State.locker_out s n (by omega)] at hp
      cases hp
    have same := cls n hlt
    simp [newly, Config.allLockers, hlt, hp, hf, hc, same]
  · rw [show newly false s = Config.allLockers.filter _ from rfl, List.filter_filter]
    refine List.filter_congr fun n hn => ?_
    have hlt : n < 48 := by simpa [Config.allLockers] using hn
    rw [left, cls n hlt]
    cases (s.locker n).fenced <;> cases fenceCovers s.params n <;> simp [Bool.and_comm]

/-! ### The write of a fence parameter (R175, R179) -/

theorem fenceCovers_eq (q : Params) (n : Nat) :
    fenceCovers q n =
      ((if q.fenceHigh then decide (48 - q.fenceCount ≤ n) else decide (n < q.fenceCount)) != q.fenceInvert) := by
  unfold fenceCovers
  cases q.fenceInvert <;> simp

/-- The parameters after the write of a fence parameter. -/
theorem Params.write_fence (q : Params) (p w : Nat) (hp : p = 13 ∨ p = 14 ∨ p = 15) :
    q.write p w = { q with
      fenceHigh := if p = 13 then decide (w = 1) else q.fenceHigh
      fenceCount := if p = 14 then w else q.fenceCount
      fenceInvert := if p = 15 then decide (w = 1) else q.fenceInvert } := by
  rcases hp with rfl | rfl | rfl <;> rfl

theorem acceptedValue_fence (p v : Nat) (hp : (p = 13 ∧ v ≤ 1) ∨ p = 14 ∨ (p = 15 ∧ v ≤ 1)) :
    acceptedValue p v = some (if p = 14 then min v 48 else v) := by
  rcases hp with ⟨rfl, hv⟩ | rfl | ⟨rfl, hv⟩
  · simp [acceptedValue, hv]
  · simp [acceptedValue, clamp]
  · simp [acceptedValue, hv]

/-- A written parameter reads back as it was taken. -/
theorem paramBody_fence (p w : Nat) (q : Params) (s : State) (hs : s.params = q.write p w)
    (hw : (p = 13 ∧ w ≤ 1) ∨ p = 14 ∨ (p = 15 ∧ w ≤ 1)) : paramBody s p = [.b1 p, .b1 w] := by
  have bit (h : w ≤ 1) : (if decide (w = 1) then 1 else 0) = w := by
    have : w = 0 ∨ w = 1 := by omega
    rcases this with rfl | rfl <;> rfl
  rcases hw with ⟨rfl, hw⟩ | rfl | ⟨rfl, hw⟩
  · simpa [paramBody, paramField, paramValue, hs, Params.write, paramBytes] using bit hw
  · simp [paramBody, paramField, paramValue, hs, Params.write, paramBytes]
  · simpa [paramBody, paramField, paramValue, hs, Params.write, paramBytes] using bit hw

theorem serveParamSet_fence (tag p v w : Nat) (s : State) (hv : acceptedValue p v = some w)
    (hw : (p = 13 ∧ w ≤ 1) ∨ p = 14 ∨ (p = 15 ∧ w ≤ 1)) :
    serveParamSet tag p v s =
      answer kParamSet tag (if w = v then .ok else .okClamped) [.b1 p, .b1 w]
        (recomputeFence (s.setParams (s.params.write p w))) := by
  have acts : paramActs p s.params.upsize (s.setParams (s.params.write p w)) =
      recomputeFence (s.setParams (s.params.write p w)) := by
    rcases hw with ⟨rfl, -⟩ | rfl | ⟨rfl, -⟩ <;> rfl
  have notStrict : p ≠ 16 := by omega
  have body : paramBody (recomputeFence (s.setParams (s.params.write p w))) p = [.b1 p, .b1 w] :=
    paramBody_fence p w s.params _ ((recomputeFence_records _).params.trans (State.setParams_params _ _)) hw
  unfold serveParamSet
  rw [hv]
  dsimp only
  rw [if_neg notStrict, acts, body]

/-- The accepted state with a fence parameter written. -/
theorem accepted_setParams_exact (q : Params) (s : State) (h : s.FreeListsExact) :
    (s.accepted.setParams q).FreeListsExact := by
  simpa [State.FreeListsExact] using h

/-- The lockers that join a list, by class. -/
theorem newly_false_eq_nil (s : State) (f : SizeClass → List Nat)
    (hf : ∀ c n, n ∈ f c ↔ n ∈ newly false s ∧ (s.locker n).cls = c) :
    newly false s ≠ [] ↔ f .small ++ f .medium ++ f .large ≠ [] := by
  rw [ne_eq, ne_eq, not_iff_not, List.append_eq_nil_iff, List.append_eq_nil_iff]
  simp only [List.eq_nil_iff_forall_not_mem, hf]
  constructor
  · exact fun h => ⟨⟨fun n hn => h n hn.1, fun n hn => h n hn.1⟩, fun n hn => h n hn.1⟩
  · rintro ⟨⟨small, medium⟩, large⟩ n hn
    cases hc : (s.locker n).cls with
    | small => exact small n ⟨hn, hc⟩
    | medium => exact medium n ⟨hn, hc⟩
    | large => exact large n ⟨hn, hc⟩

/-- Settles O43. -/
theorem fenceWriteRecomputes : Obligations.FenceWriteRecomputes := by
  refine ⟨fun tag p v s hp hexact hpv => ?_, fun s => ?_, fun o n age s hst hn => ?_, fun s c => ⟨fun n rest h => ?_,
    fun h hu => ?_, fun k n rest h hu hk hn hj => ?_, fun h hl => ?_⟩, fun s o hcons _ ho hw => ?_⟩
  · intro w q covers joins
    have hw : (p = 13 ∧ w ≤ 1) ∨ p = 14 ∨ (p = 15 ∧ w ≤ 1) := by
      rcases hpv with ⟨rfl, hv⟩ | rfl | ⟨rfl, hv⟩
      · exact .inl ⟨rfl, by simpa [w] using hv⟩
      · exact .inr (.inl rfl)
      · exact .inr (.inr ⟨rfl, by simpa [w] using hv⟩)
    have written : s.accepted.params.write p w = q := by
      rw [Params.write_fence _ p w (by omega), (accepted_onlyLink s).params]
    set x := s.accepted.setParams q with hx
    have params : x.params = q := State.setParams_params _ _
    have exact' : x.FreeListsExact := accepted_setParams_exact q s hexact
    have locker (n : Nat) : x.locker n = s.locker n := by simp [hx]
    have covered (n : Nat) : fenceCovers x.params n = covers n := by rw [params, fenceCovers_eq]
    have joined (c : SizeClass) : joins c = Config.allLockers.filter fun n =>
        decide ((x.locker n).phase = .free) && (x.locker n).fenced && !fenceCovers x.params n &&
          decide ((x.locker n).cls = c) := by
      simp only [joins, locker, covered]
      rfl
    have meet : newly false x ≠ [] ↔ joins .small ++ joins .medium ++ joins .large ≠ [] := by
      refine newly_false_eq_nil x joins fun c n => ?_
      simp only [joined, newly, List.mem_filter]
      cases (x.locker n).fenced <;> cases fenceCovers x.params n <;> simp [and_assoc]
    have run : exec (.paramSet tag p v) s = .next (chooseTransmit (serveParamSet tag p v s.accepted)) :=
      exec_served (.paramSet tag p v) s rfl hp
    have queue : x.oru.queue = s.oru.queue := by simp [hx]
    have frame := fenceMoved_listsOnly x
    refine ⟨fenceMoved x, ?_, ?_, ?_, fun n hn => ?_, fun c => ?_⟩
    · rw [run, serveParamSet_fence tag p v w _ (acceptedValue_fence p v hpv) hw, written, ← hx, recomputeFence_eq,
        queue]
      exact congrArg (fun y => Host.Outcome.next (chooseTransmit (answer kParamSet tag _ _ y)))
        (if_congr ((and_congr meet Iff.rfl).trans and_comm) rfl rfl)
    · have link := accepted_onlyLink s
      have records : (fenceMoved x).ltu = (refenced x).ltu := by rw [frame]
      conv_lhs => rw [frame]
      rw [records, ← link.sst, ← link.oru, ← link.ltu]
      rfl
    · rw [frame]
      exact params
    · rw [fenceMoved_locker x n hn, locker, covered]
    · rw [fenceMoved_freeList x exact' c, joined]
      simp only [covered]
      congr 1
      simp [hx]
  · exact sweepOver_eq s.oru.queue s
  · dsimp only
    refine ⟨join o.id n s, ?_, (join_records _ _ _).onlyRecords, join_lki _ _ _, join_orders _ _ _, join_queue _ _ _,
      join_codeMap _ _ _, join_freeList _ _ _, fun m hm => join_locker_ne _ _ _ _ hm, fun hf => ?_⟩
    · simp only [placePending, hst]
    · rw [join_locker_same _ _ _ hn, Locker.reserve, Locker.enter, leave_of_plain _ (by simp [hf])]
      rfl
  · exact allocate_head s c n rest h
  · exact allocate_own s c h hu
  · exact allocate_first_larger s c k n rest h hu hk hn hj
  · exact (allocate_none_iff s c).mpr ⟨h, fun _ => hl⟩
  · obtain ⟨-, ids, -, queue⟩ := hcons
    have swept : pendingSweep s = s.oru.queue.foldl sweepOne s := sweepOver_eq _ _
    rw [swept] at ho ⊢
    refine foldl_sweepOne_settles s.oru.queue s o ids ho hw ?_
    rw [queue]
    exact List.mem_map_of_mem (List.mem_filter.mpr ⟨(foldl_sweepOne_swept _ _).2.2.2 o ho hw, hw⟩)

end Sys2Proof.Proofs

/-! ## Commands that end together, and RESTART (R12, R114, R129, R130, R148, R159, R200) -/

namespace Sys2Proof.Proofs

open Sys2Proof.Machine

variable {s t u : State}

/-! ### The WAITING entries, oldest first (R114) -/

theorem inSeqOrder_subset (k : Nat) (qs : List Nat) (q : Nat) (h : q ∈ inSeqOrder k qs) : q ∈ qs := by
  induction k generalizing qs with
  | zero => simp [inSeqOrder] at h
  | succ k ih =>
    unfold inSeqOrder at h
    split at h
    case h_1 => simp at h
    case h_2 r hr =>
      rcases List.mem_cons.mp h with rfl | h
      · exact (foldl_pickOlder_mem _ _ _ hr).resolve_left (by simp)
      · exact List.mem_of_mem_filter (ih _ h)

theorem inSeqOrder_nodup (k : Nat) (qs : List Nat) : (inSeqOrder k qs).Nodup := by
  induction k generalizing qs with
  | zero => simp [inSeqOrder]
  | succ k ih =>
    unfold inSeqOrder
    split
    · simp
    · refine List.nodup_cons.mpr ⟨fun h => ?_, ih _⟩
      simpa using List.of_mem_filter (inSeqOrder_subset _ _ _ h)

theorem waitingEntrySeqs_found (x : Txu) (q : Nat) (h : q ∈ waitingEntrySeqs x) : ∃ e, entryBySeq x q = some e := by
  obtain ⟨e, he, -, hs⟩ := (mem_waitingEntrySeqs x q).mp h
  rw [← Option.isSome_iff_exists, Option.isSome_iff_ne_none, ne_eq, entryBySeq_none]
  exact fun hn => hn e he hs

theorem mem_waitingInOrder (x : Txu) (e : Entry) (h : e ∈ x.waitingInOrder) :
    e.seq ∈ waitingEntrySeqs x ∧ entryBySeq x e.seq = some e := by
  obtain ⟨q, hq, he⟩ := List.mem_filterMap.mp h
  rw [entryBySeq_seq _ _ _ he]
  exact ⟨hq, he⟩

theorem waitingInOrder_seq (x : Txu) (q : Nat) :
    (∃ e ∈ x.waitingInOrder, e.seq = q) ↔ ∃ e ∈ x.table, e.stage = .waiting ∧ e.seq = q := by
  rw [← mem_waitingEntrySeqs]
  constructor
  · rintro ⟨e, he, rfl⟩
    exact (mem_waitingInOrder x e he).1
  · intro hq
    obtain ⟨e, he⟩ := waitingEntrySeqs_found x q hq
    exact ⟨e, List.mem_filterMap.mpr ⟨q, hq, he⟩, entryBySeq_seq _ _ _ he⟩

theorem inSeqOrder_perm (k : Nat) (qs : List Nat) (hk : qs.length ≤ k) (h : qs.Nodup) : (inSeqOrder k qs).Perm qs := by
  refine (List.perm_ext_iff_of_nodup (inSeqOrder_nodup k qs) h).mpr fun q => ?_
  exact inSeqOrder_mem k qs q hk

/-- Within a window the order is by age: no later number precedes an earlier one. -/
theorem inSeqOrder_pairwise (k : Nat) (qs : List Nat) (base : Nat) (hb : base < 65536) (hw : Window base qs) :
    (inSeqOrder k qs).Pairwise fun x y => younger x y < 32768 := by
  induction k generalizing qs with
  | zero => simp [inSeqOrder]
  | succ k ih =>
    unfold inSeqOrder
    split
    case h_1 => simp
    case h_2 q hq =>
      have mem : q ∈ qs := (foldl_pickOlder_mem _ _ _ hq).resolve_left (by simp)
      have least (r : Nat) (hr : r ∈ qs) : younger base q ≤ younger base r := by
        cases qs with
        | nil => simp at hr
        | cons a rest => exact foldl_pickOlder_least base hb rest a q hw hq r hr
      refine List.pairwise_cons.mpr ⟨fun r hr => ?_, ih _ fun r hr => hw r (List.mem_of_mem_filter hr)⟩
      have hr := List.mem_of_mem_filter (inSeqOrder_subset _ _ _ hr)
      have hq' := hw q mem
      have hr' := hw r hr
      have := least r hr
      simp only [younger] at *
      omega

theorem waitingSeqs_window (x : Txu) (base : Nat)
    (h : ∀ e ∈ x.table, ∃ d, d < 32768 ∧ e.seq = (base + d) % 65536) :
    Window (base % 65536) ((x.table.filter fun e => decide (e.stage = .waiting)).map Entry.seq) := by
  intro r hr
  obtain ⟨e, he, rfl⟩ := List.mem_map.mp hr
  obtain ⟨d, hd, hs⟩ := h e (List.mem_of_mem_filter he)
  simp only [younger, hs]
  omega

/-- The WAITING entries come once each and oldest first, their numbers in one window (R114). -/
theorem waitingInOrder_sorted (x : Txu) (hn : (x.table.map Entry.seq).Nodup)
    (hw : ∃ base, ∀ e ∈ x.table, ∃ d, d < 32768 ∧ e.seq = (base + d) % 65536) :
    x.waitingInOrder.Perm (x.table.filter fun e => decide (e.stage = .waiting)) ∧
      x.waitingInOrder.Pairwise fun e f => (f.seq + 65536 - e.seq) % 65536 < 32768 := by
  obtain ⟨base, hw⟩ := hw
  have window := waitingSeqs_window x base hw
  have waiting : ((x.table.filter fun e => decide (e.stage = .waiting)).map Entry.seq).Nodup :=
    hn.sublist (List.filter_sublist.map _)
  have found (e : Entry) (he : e ∈ x.table) : entryBySeq x e.seq = some e := by
    cases hx : entryBySeq x e.seq with
    | none => exact absurd rfl ((entryBySeq_none _ _).mp hx e he)
    | some y =>
      rw [List.inj_on_of_nodup_map hn (entryBySeq_mem _ _ _ hx) he (entryBySeq_seq _ _ _ hx)]
  have back : ((x.table.filter fun e => decide (e.stage = .waiting)).map Entry.seq).filterMap (entryBySeq x) =
      x.table.filter fun e => decide (e.stage = .waiting) := by
    rw [List.filterMap_map]
    have each : ∀ e ∈ x.table.filter fun e => decide (e.stage = .waiting), (entryBySeq x ∘ Entry.seq) e = some e :=
      fun e he => found e (List.mem_of_mem_filter he)
    rw [List.filterMap_congr each, List.filterMap_some]
  constructor
  · refine ((inSeqOrder_perm _ _ le_rfl waiting).filterMap (entryBySeq x)).trans ?_
    rw [back]
  · unfold Txu.waitingInOrder
    rw [List.pairwise_filterMap]
    refine (inSeqOrder_pairwise _ _ _ (by omega) window).imp fun {p q} h e he f hf => ?_
    rw [entryBySeq_seq _ _ _ he, entryBySeq_seq _ _ _ hf]
    exact h

/-! ### A fold over sequence numbers is a fold over their entries -/

/-- Each turn takes its own number out of the table and leaves the other entries. -/
theorem foldl_bySeq (f : State → Nat → State) (g : State → Entry → State)
    (hf : ∀ s q e, entryBySeq s.txu q = some e → f s q = g s e)
    (hg : ∀ s e, (g s e).txu.table = s.txu.table.filter fun x => x.seq != e.seq)
    (qs : List Nat) (s : State) (once : qs.Nodup) (found : ∀ q ∈ qs, ∃ e, entryBySeq s.txu q = some e) :
    qs.foldl f s = (qs.filterMap (entryBySeq s.txu)).foldl g s := by
  induction qs generalizing s with
  | nil => rfl
  | cons q rest ih =>
    obtain ⟨hq, once⟩ := List.nodup_cons.mp once
    obtain ⟨e, he⟩ := found q (by simp)
    have hs := entryBySeq_seq _ _ _ he
    have others (r : Nat) (hr : r ∈ rest) : entryBySeq (g s e).txu r = entryBySeq s.txu r := by
      have hne : r ≠ q := fun h => hq (h ▸ hr)
      unfold entryBySeq
      rw [hg, List.find?_filter]
      congr 1
      funext x
      by_cases hx : x.seq = r
      · simp [hx, hs, hne]
      · simp [hx]
    rw [List.foldl_cons, List.filterMap_cons_some he, List.foldl_cons, hf s q e he, ih (g s e) once fun r hr => by
      rw [others r hr]; exact found r (by simp [hr])]
    rw [List.filterMap_congr others]

/-! ### What ends without a fault does, entry by entry (R12, R159) -/

/-- One entry ends with a plain outcome: LTU's part, the entry out of the table, BUSY at the panel for a release. -/
structure PlainEnd (o : CmdOutcome) (g : State → Entry → State) : Prop where
  ltu : ∀ s e, (g s e).ltu = (lockerCommandEnd e o s).ltu
  oru : ∀ s e, (g s e).oru = s.oru
  table : ∀ s e, (g s e).txu.table = s.txu.table.filter fun x => x.seq != e.seq
  ports : ∀ s e, (g s e).ports = s.ports ++ if e.origin = .panel then [.display .busy] else []
  pni : ∀ s e, (g s e).pni = { s.pni with
    releases := s.pni.releases.filter fun r => !decide (e.origin = .panel) || e.locker != r.1 }

variable {o : CmdOutcome} {g : State → Entry → State}

theorem PlainEnd.foldl_oru (h : PlainEnd o g) (es : List Entry) (s : State) : (es.foldl g s).oru = s.oru := by
  induction es generalizing s with
  | nil => rfl
  | cons e rest ih => rw [List.foldl_cons, ih, h.oru]

theorem PlainEnd.foldl_table (h : PlainEnd o g) (es : List Entry) (s : State) :
    (es.foldl g s).txu.table = s.txu.table.filter fun x => es.all fun e => e.seq != x.seq := by
  induction es generalizing s with
  | nil => simp
  | cons e rest ih =>
    rw [List.foldl_cons, ih, h.table, List.filter_filter]
    refine List.filter_congr fun x _ => ?_
    rw [List.all_cons, Bool.and_comm, bne_comm]

theorem PlainEnd.foldl_ports (h : PlainEnd o g) (es : List Entry) (s : State) :
    (es.foldl g s).ports =
      s.ports ++ (es.filter fun e => decide (e.origin = .panel)).map fun _ => .display .busy := by
  induction es generalizing s with
  | nil => simp
  | cons e rest ih =>
    rw [List.foldl_cons, ih, h.ports]
    by_cases hp : e.origin = .panel <;> simp [hp]

theorem PlainEnd.foldl_pni (h : PlainEnd o g) (es : List Entry) (s : State) :
    (es.foldl g s).pni = { s.pni with
      releases := s.pni.releases.filter fun r =>
        (es.filter fun e => decide (e.origin = .panel)).all fun e => e.locker != r.1 } := by
  induction es generalizing s with
  | nil => simp
  | cons e rest ih =>
    rw [List.foldl_cons, ih, h.pni]
    simp only [List.filter_filter]
    congr 1
    refine List.filter_congr fun r _ => ?_
    by_cases hp : e.origin = .panel
    · simp [hp, Bool.and_comm]
    · simp [hp]

theorem PlainEnd.locker_ltu (h : PlainEnd o g) (s : State) (e : Entry) (m : Nat) :
    (g s e).locker m = (lockerCommandEnd e o s).locker m := by
  simp only [State.locker, h.ltu]

theorem PlainEnd.foldl_ltu (h : PlainEnd o g) (es : List Entry) (s : State) :
    (es.foldl g s).ltu = { s.ltu with lockers := (es.foldl g s).ltu.lockers } := by
  induction es generalizing s with
  | nil => rfl
  | cons e rest ih =>
    rw [List.foldl_cons]
    conv_lhs => rw [ih, h.ltu, (congrArg State.ltu (lockerCommandEnd_records e o s)).trans rfl]

/-- The orders alone decide what a reservation reverts to. -/
theorem reverted_congr (r : CmdRequest) (l : Locker) (h : t.oru = s.oru) : l.reverted t r = l.reverted s r := by
  have found : t.order? = s.order? := by
    funext id
    simp only [State.order?, h]
  have cond : orderCondemned t l = orderCondemned s l := by simp only [orderCondemned, heldOrder, found]
  unfold Locker.reverted
  simp only [cond]

/-- The door unlatches of a locker among some entries. -/
def unlatchesOf (n : Nat) (es : List Entry) : List Entry :=
  es.filter fun e => decide (e.locker = n) && decide (e.request ≠ .moduleRead)

theorem PlainEnd.locker_other (h : PlainEnd o g) (ho : CmdOutcome.Plain o) (s : State) (e : Entry) (n : Nat)
    (hn : ¬ (e.locker = n ∧ e.request ≠ .moduleRead)) : (g s e).locker n = s.locker n := by
  rw [h.locker_ltu, lockerCommandEnd_plain e o s ho]
  split
  case isTrue => rfl
  case isFalse hr =>
    refine State.setLocker_ne _ _ _ _ fun hm => ?_
    exact hn ⟨hm.symm, hr⟩

theorem PlainEnd.locker_own (h : PlainEnd o g) (ho : CmdOutcome.Plain o) (s : State) (e : Entry) (hn : e.locker < 48)
    (hr : e.request ≠ .moduleRead) : (g s e).locker e.locker = (s.locker e.locker).reverted s e.request := by
  rw [h.locker_ltu, lockerCommandEnd_plain e o s ho, if_neg hr, State.setLocker_same _ _ _ hn]

/-- A locker with no door unlatch among the entries keeps its record; with one, the reservation reverts. -/
theorem PlainEnd.foldl_locker (h : PlainEnd o g) (ho : CmdOutcome.Plain o) (es : List Entry) (s : State) (n : Nat)
    (hn : n < 48) :
    (unlatchesOf n es = [] → (es.foldl g s).locker n = s.locker n) ∧
      ∀ e, unlatchesOf n es = [e] → (es.foldl g s).locker n = (s.locker n).reverted s e.request := by
  induction es generalizing s with
  | nil => exact ⟨fun _ => rfl, fun e he => by cases he⟩
  | cons e rest ih =>
    obtain ⟨alone, single⟩ := ih (g s e)
    rw [List.foldl_cons]
    by_cases hu : e.locker = n ∧ e.request ≠ .moduleRead
    · obtain ⟨rfl, hr⟩ := hu
      have cons : unlatchesOf e.locker (e :: rest) = e :: unlatchesOf e.locker rest := by simp [unlatchesOf, hr]
      rw [cons]
      refine ⟨fun he => (by cases he), fun f hf => ?_⟩
      injection hf with hef hrest
      subst hef
      rw [alone hrest, h.locker_own ho s e hn hr]
    · have skip : unlatchesOf n (e :: rest) = unlatchesOf n rest := by
        unfold unlatchesOf
        exact List.filter_cons_of_neg (by simpa using hu)
      have same := h.locker_other ho s e n hu
      rw [skip]
      refine ⟨fun hf => (alone hf).trans same, fun f hf => ?_⟩
      rw [single f hf, same, reverted_congr _ _ (h.oru s e)]

/-! ### The discards of a RESTART (R130, R200) -/

/-- A WAITING entry is discarded. -/
def discardFound (s : State) (e : Entry) : State :=
  if e.origin = .panel then display .busy (dropRelease e.locker (removeEntry e.seq (lockerCommandEnd e .discarded s)))
  else removeEntry e.seq (lockerCommandEnd e .discarded s)

theorem discardEntry_found (s : State) (q : Nat) (e : Entry) (he : entryBySeq s.txu q = some e) :
    discardEntry s q = discardFound s e := by
  unfold discardEntry discardFound
  rw [he, ← entryBySeq_seq _ _ _ he]
  dsimp only
  cases e.origin <;> rfl

theorem discarded_plain : CmdOutcome.Plain .discarded := ⟨by simp, by simp, by simp⟩

theorem lockerCommandEnd_plain_oru (e : Entry) (s : State) (ho : CmdOutcome.Plain o) :
    (lockerCommandEnd e o s).oru = s.oru := by
  rw [lockerCommandEnd_plain e o s ho]
  split <;> rfl

theorem lockerCommandEnd_plain_lki (e : Entry) (s : State) (ho : CmdOutcome.Plain o) :
    (lockerCommandEnd e o s).lki = s.lki := by
  rw [lockerCommandEnd_plain e o s ho]
  split <;> rfl

theorem discardFound_plainEnd : PlainEnd .discarded discardFound := by
  constructor <;> intro s e <;> have frame := lockerCommandEnd_records e .discarded s
  · unfold discardFound
    split <;> rfl
  · rw [← lockerCommandEnd_plain_oru e s discarded_plain]
    unfold discardFound
    split <;> rfl
  · rw [← frame.txu]
    unfold discardFound
    split <;> rfl
  · rw [← frame.ports]
    unfold discardFound
    split
    · rfl
    · simp [removeEntry]
  · rw [← frame.pni]
    unfold discardFound
    split
    case isTrue h =>
      simp only [display, dropRelease, removeEntry, State.emit, State.withTxu, h, decide_true, Bool.not_true,
        Bool.false_or, bne_comm]
    case isFalse h => simp [removeEntry, h]

/-- What a discard leaves of the link interface and of TXU. -/
theorem discardFound_lki (s : State) (e : Entry) : (discardFound s e).lki = s.lki := by
  rw [← lockerCommandEnd_plain_lki e s discarded_plain]
  unfold discardFound
  split <;> rfl

theorem discardFound_txu (s : State) (e : Entry) :
    (discardFound s e).txu = { s.txu with table := s.txu.table.filter fun x => x.seq != e.seq } := by
  rw [← (lockerCommandEnd_records e .discarded s).txu]
  unfold discardFound
  split <;> rfl

theorem foldl_discardFound_lki (es : List Entry) (s : State) : (es.foldl discardFound s).lki = s.lki := by
  induction es generalizing s with
  | nil => rfl
  | cons e rest ih => rw [List.foldl_cons, ih, discardFound_lki]

theorem foldl_discardFound_txu (es : List Entry) (s : State) :
    (es.foldl discardFound s).txu =
      { s.txu with table := s.txu.table.filter fun x => es.all fun e => e.seq != x.seq } := by
  rw [← discardFound_plainEnd.foldl_table es s]
  induction es generalizing s with
  | nil => rfl
  | cons e rest ih =>
    rw [List.foldl_cons]
    conv_lhs => rw [ih, discardFound_txu]

theorem foldl_discardEntry (s : State) :
    (waitingEntrySeqs s.txu).foldl discardEntry s = s.txu.waitingInOrder.foldl discardFound s :=
  foldl_bySeq discardEntry discardFound discardEntry_found discardFound_plainEnd.table _ s (inSeqOrder_nodup _ _)
    (waitingEntrySeqs_found s.txu)

end Sys2Proof.Proofs

/-! ## RESTART (R12, R114, R130, R148, R159, R200) -/

namespace Sys2Proof.Proofs

open Sys2Proof.Machine

variable {s t u : State}

/-! ### Reports into a queue with room -/

/-- Lost reports are reported into an empty queue (R144, R148). -/
theorem submitReportsLost_empty (s : State) (h : s.lki.reportQ = []) :
    submitReportsLost s = s.withLki { s.lki with
      reportQ := if s.lki.lostReports = 0 then [] else [⟨.reportsLost, s.uptime, 0, [.b2 s.lki.lostReports]⟩]
      lostReports := 0 } := by
  unfold submitReportsLost
  by_cases hl : s.lki.lostReports = 0
  · rw [if_pos hl, if_pos hl, ← h]
    conv_lhs => rw [show s = s.withLki { s.lki with lostReports := s.lki.lostReports } from rfl, hl]
  · rw [if_neg hl, if_neg hl, submit_room _ _ _ rfl (by simp [h])]
    simp [State.withLki, h]

/-- The report of a discarded release (R163). -/
def discardReport (uptime : Nat) (r : Option Nat × Nat) : Report :=
  ⟨.panelRefused, uptime, 0, [.b1 2, .b1 14, .orderId r.1, .b1 r.2]⟩

theorem reportDiscarded_room (rs : List (Option Nat × Nat)) (s : State) (h : s.lki.reportQ.length + rs.length ≤ 32) :
    reportDiscarded rs s = s.withLki { s.lki with
      reportQ := s.lki.reportQ ++ if s.params.reportMask.testBit 3 then rs.map (discardReport s.uptime) else [] } := by
  induction rs generalizing s with
  | nil => simp [reportDiscarded, State.withLki]
  | cons r rest ih =>
    have step : reportDiscarded (r :: rest) s =
        reportDiscarded rest (submit .panelRefused [.b1 2, .b1 14, .orderId r.1, .b1 r.2] s) := rfl
    have group : groupEnabled s.params ReportKind.panelRefused.group = s.params.reportMask.testBit 3 := rfl
    rw [List.length_cons] at h
    rw [step]
    by_cases on : s.params.reportMask.testBit 3 = true
    · rw [submit_room .panelRefused _ s (group.trans on) (by omega), ih _ (by simp; omega)]
      simp only [State.withLki_params, State.withLki_uptime, State.withLki_lki, on, if_true, List.map_cons,
        List.append_assoc, List.singleton_append, discardReport]
      rfl
    · rw [submit_masked .panelRefused _ s (group.trans (by simpa using on)), ih _ (by omega)]
      simp [on]

/-! ### What RESTART discards -/

theorem inSeqOrder_length (k : Nat) (qs : List Nat) : (inSeqOrder k qs).length ≤ k := by
  induction k generalizing qs with
  | zero => simp [inSeqOrder]
  | succ k ih =>
    unfold inSeqOrder
    split
    · simp
    · rw [List.length_cons]
      exact Nat.succ_le_succ (ih _)

theorem waitingInOrder_length (x : Txu) : x.waitingInOrder.length ≤ x.table.length := by
  refine (List.length_filterMap_le _ _).trans ((inSeqOrder_length _ _).trans ?_)
  rw [List.length_map]
  exact List.length_filter_le _ _

/-- The panel releases that wait, with their order ids (R154). -/
theorem discardedReleases_eq (s : State) :
    discardedReleases s =
      (s.txu.waitingInOrder.filter fun e => decide (e.origin = .panel)).map fun e => (s.releaseFor e, e.locker) := by
  have each (es : List Entry) : (es.filterMap fun e : Entry =>
      if e.origin = .panel then some (s.releaseFor e, e.locker) else none) =
      (es.filter fun e => decide (e.origin = .panel)).map fun e => (s.releaseFor e, e.locker) := by
    induction es with
    | nil => rfl
    | cons e rest ih =>
      by_cases hp : e.origin = .panel
      · simp [hp, ih]
      · simp [hp, ih]
  rw [← each, Txu.waitingInOrder, List.filterMap_filterMap]
  rfl

/-- The state in which TXU has discarded what waits (R130). -/
theorem restartCommands_eq (s : State) :
    restartCommands s =
      (s.txu.waitingInOrder.foldl discardFound s).withTxu { s.txu with
        table := (s.txu.table.filter fun x => s.txu.waitingInOrder.all fun e => e.seq != x.seq).map
          fun e => { e with tag := none }
        posted := s.txu.posted.filter fun p => decide (p.stage = .onBus)
        postedLost := min (s.txu.postedLost + (s.txu.posted.filter fun p => decide (p.stage = .waiting)).length) 65535
        recent := [] } := by
  have onBus : (fun p : Posted => decide (p.stage ≠ .waiting)) = fun p => decide (p.stage = .onBus) := by
    funext p
    cases p.stage <;> rfl
  unfold restartCommands discardPosted
  rw [foldl_discardEntry, onBus]
  simp only [foldl_discardFound_txu]
  rfl

theorem powerOnDiscovering_false (s : State) (h : ∀ x, s.ltu.discovery ≠ some ⟨.powerOn, x⟩) :
    powerOnDiscovering s = false := by
  unfold powerOnDiscovering
  split
  case h_1 x hx => exact absurd hx (h x)
  case h_2 => rfl

/-- The answer of a RESTART goes out first, REPORTS_LOST and the refusals wait (R148, R200). -/
theorem chooseTransmit_restart (tag : Nat) (rs : List (Option Nat × Nat)) (v : State) (ha : v.lki.answerQ = [])
    (hr : v.lki.reportQ = []) (htx : v.lki.tx = none) (hi : v.lki.island = false) (hp : v.lki.placesHeld = 1)
    (room : rs.length ≤ 31) :
    chooseTransmit (reportDiscarded rs (submitReportsLost (answer kRestart tag .ok [] v))) =
      { v with
        ports := v.ports ++ [.link (.answer ⟨kRestart, tag, .ok, []⟩)]
        lki := { v.lki with
          tx := some (.answer ⟨kRestart, tag, .ok, []⟩), answerQ := [], placesHeld := 0, lostReports := 0
          reportQ :=
            (if v.lki.lostReports = 0 then [] else [⟨.reportsLost, v.uptime, 0, [.b2 v.lki.lostReports]⟩]) ++
              if v.params.reportMask.testBit 3 then rs.map (discardReport v.uptime) else [] } } := by
  have lost := submitReportsLost_empty (answer kRestart tag .ok [] v) hr
  have short : (submitReportsLost (answer kRestart tag .ok [] v)).lki.reportQ.length + rs.length ≤ 32 := by
    rw [lost]
    simp only [State.withLki]
    split <;> simp <;> omega
  rw [reportDiscarded_room rs _ short, lost]
  refine (chooseTransmit_answer _ ⟨kRestart, tag, .ok, []⟩ [] ?_ ?_ ?_).trans ?_
  · exact htx
  · exact hi
  · simp [answer, ha]
  · simp only [State.withLki, State.emit, answer, hp]
    rfl

/-- The reports lost so far and the cleared ones. -/
def restartLost (s : State) : Nat := min (s.accepted.lki.lostReports + s.accepted.lki.reportQ.length) 65535

/-- The entries that wait have been discarded. -/
def restartDiscarded (s : State) : State :=
  s.txu.waitingInOrder.foldl discardFound (s.accepted.withLki (restartLink s.accepted.lki))

/-- The refusals of the discarded panel releases (R159). -/
def restartRefusals (s : State) : List Report :=
  (s.txu.waitingInOrder.filter fun e => decide (e.origin = .panel)).map fun e =>
    discardReport s.uptime (s.releaseFor e, e.locker)

/-- The state after a RESTART. -/
def restarted (tag : Nat) (s : State) : State :=
  { restartDiscarded s with
    ports := (restartDiscarded s).ports ++ [.link (.answer ⟨kRestart, tag, .ok, []⟩)]
    txu := { s.txu with
        table := (s.txu.table.filter fun x => s.txu.waitingInOrder.all fun e => e.seq != x.seq).map
          fun e => { e with tag := none }
        posted := s.txu.posted.filter fun p => decide (p.stage = .onBus)
        postedLost := min (s.txu.postedLost + (s.txu.posted.filter fun p => decide (p.stage = .waiting)).length) 65535
        recent := [] }
    lki := { restartLink s.accepted.lki with
      tx := some (.answer ⟨kRestart, tag, .ok, []⟩), answerQ := [], placesHeld := 0, lostReports := 0
      reportQ :=
        (if restartLost s = 0 then [] else [⟨.reportsLost, s.uptime, 0, [.b2 (restartLost s)]⟩]) ++
          if s.params.reportMask.testBit 3 then restartRefusals s else [] } }

theorem discardFound_commands (s : State) (e : Entry) : CommandsOnly s (discardFound s e) := by
  have reverts := (lockerCommandEnd_records e .discarded s).commands.trans (removeEntry_commands e.seq _)
  unfold discardFound
  split
  · exact (reverts.trans (dropRelease_commands e.locker _)).trans (display_commands .busy _)
  · exact reverts

/-- Outside the link interface, TXU, the panel, and the records only the reversions act. -/
structure RestartKeeps (s t : State) : Prop where
  params : t.params = s.params
  upMs : t.upMs = s.upMs
  bbm : t.bbm = s.bbm
  hta : t.hta = s.hta
  hau : t.hau = s.hau
  sst : t.sst = s.sst

theorem restartDiscarded_frame (s : State) : RestartKeeps s (restartDiscarded s) := by
  have link := accepted_onlyLink s
  have frame := CommandsOnly.foldl discardFound discardFound_commands s.txu.waitingInOrder
    (s.accepted.withLki (restartLink s.accepted.lki))
  exact ⟨frame.params.trans link.params, frame.upMs.trans link.upMs, frame.bbm.trans link.bbm,
    frame.hta.trans link.hta, frame.hau.trans link.hau, frame.sst.trans link.sst⟩

theorem exec_restart (tag : Nat) (s : State) (hp : s.lki.placesHeld < 32) (ht : s.txu.table.length ≤ 8)
    (hd : ∀ x, s.ltu.discovery ≠ some ⟨.powerOn, x⟩) : exec (.restart tag) s = .next (restarted tag s) := by
  have link := accepted_onlyLink s
  have notPowerOn : powerOnDiscovering s.accepted = false := powerOnDiscovering_false _ (by rw [link.ltu]; exact hd)
  have releases : discardedReleases s.accepted =
      (s.txu.waitingInOrder.filter fun e => decide (e.origin = .panel)).map fun e => (s.releaseFor e, e.locker) := by
    rw [discardedReleases_eq, link.txu]
    simp only [State.releaseFor, link.pni]
  have few : (discardedReleases s.accepted).length ≤ 31 := by
    rw [releases, List.length_map]
    have := (List.length_filter_le (fun e => decide (e.origin = .panel)) s.txu.waitingInOrder).trans
      (waitingInOrder_length s.txu)
    omega
  have commands := restartCommands_eq (s.accepted.withLki (restartLink s.accepted.lki))
  simp only [State.withLki_txu, link.txu] at commands
  have lki : (restartDiscarded s).lki = restartLink s.accepted.lki := foldl_discardFound_lki _ _
  have params : (restartDiscarded s).params = s.params := (restartDiscarded_frame s).params
  have uptime : (restartDiscarded s).uptime = s.uptime := by
    simp only [State.uptime, State.uptimeSeconds, (restartDiscarded_frame s).upMs]
  rw [exec_served (.restart tag) s rfl hp]
  change Host.Outcome.next (chooseTransmit (serveRestart tag s.accepted)) = _
  unfold serveRestart
  rw [notPowerOn]
  dsimp only
  rw [if_neg (by simp), commands]
  change Host.Outcome.next (chooseTransmit (reportDiscarded _ (submitReportsLost (answer kRestart tag .ok []
    ((restartDiscarded s).withTxu _))))) = _
  rw [chooseTransmit_restart tag _ _ (by rw [State.withTxu_lki, lki]; rfl) (by rw [State.withTxu_lki, lki]; rfl)
    (by rw [State.withTxu_lki, lki]; rfl) (by rw [State.withTxu_lki, lki]; rfl) (by rw [State.withTxu_lki, lki]; rfl) few]
  simp only [State.withTxu_lki, State.withTxu_params, State.withTxu_uptime, lki, params, uptime, releases, List.map_map]
  rfl

/-! ### What is left of the other units -/

/-- Nothing that waits is left in the table. -/
theorem not_discarded_onBus (x : Txu) (e : Entry) (he : e ∈ x.table)
    (h : (x.waitingInOrder.all fun d => d.seq != e.seq) = true) : e.stage = .onBus := by
  cases hs : e.stage with
  | onBus => rfl
  | waiting =>
    obtain ⟨d, hd, hde⟩ := (waitingInOrder_seq x e.seq).mpr ⟨e, he, hs, rfl⟩
    have := List.all_eq_true.mp h d hd
    simp [hde] at this

/-- Settles O24. -/
theorem restartClearsTheLink : Obligations.RestartClearsTheLink := by
  refine ⟨fun tag s hp ht hd => ?_, fun t hn hw => waitingInOrder_sorted t hn hw⟩
  have link := accepted_onlyLink s
  have plain := discardFound_plainEnd
  have ltu := plain.foldl_ltu s.txu.waitingInOrder (s.accepted.withLki (restartLink s.accepted.lki))
  have locker := plain.foldl_locker discarded_plain s.txu.waitingInOrder (s.accepted.withLki (restartLink s.accepted.lki))
  have frame := restartDiscarded_frame s
  refine ⟨restarted tag s, exec_restart tag s hp ht hd, ?_, rfl, rfl, rfl, ?_, rfl, rfl, rfl, rfl, rfl, rfl, ?_, ?_,
    ?_, rfl, rfl, rfl, rfl, rfl, rfl, frame.sst, frame.hta, frame.hau, frame.bbm, ?_, frame.upMs, ?_, ?_, ?_⟩
  · exact congrArg (· ++ _) ((plain.foldl_ports _ _).trans (by simp [State.withLki]))
  · simp only [restarted, restartRefusals, discardReport]
    rfl
  · exact congrArg (fun x => x.lki.errors) (heard_eq s)
  · exact congrArg (fun x => x.lki.islandEntries) (heard_eq s)
  · intro e he
    obtain ⟨x, hx, rfl⟩ := List.mem_map.mp he
    obtain ⟨hm, hall⟩ := List.mem_filter.mp hx
    exact ⟨not_discarded_onBus s.txu x hm hall, rfl⟩
  · exact (plain.foldl_oru _ _).trans link.oru
  · refine ltu.trans ?_
    rw [State.withLki_ltu, link.ltu]
    rfl
  · refine (plain.foldl_pni _ _).trans ?_
    rw [State.withLki_pni, link.pni]
  · intro n hn
    obtain ⟨alone, single⟩ := locker n hn
    rw [State.withLki_locker, accepted_locker] at alone single
    refine ⟨alone, fun e he => (single e he).trans (reverted_congr _ _ ?_)⟩
    rw [State.withLki_oru, link.oru]

end Sys2Proof.Proofs

/-! ## The reset pulse, BANK_RESET and RESCAN at their acceptance (R12, R109, R114, R127, R129, R159, R188, R196) -/

namespace Sys2Proof.Proofs

open Sys2Proof.Machine

variable {s t u : State}

/-! ### One confirmed command ends with BANK_RESET (R129) -/

/-- An entry ends with BANK_RESET. -/
def bankEnd (s : State) (e : Entry) : State := endConfirmed e .bankReset s

theorem bankReset_plain : CmdOutcome.Plain .bankReset := ⟨by simp, by simp, by simp⟩

theorem bankEnd_eq (s : State) (e : Entry) : bankEnd s e = completeEntry e .bankReset (lockerCommandEnd e .bankReset s) := rfl

/-- A panel release that a bank reset ends (R159). -/
theorem completeEntry_panelReset (e : Entry) (s : State) (ho : e.origin = .panel) :
    completeEntry e .bankReset s =
      submit .panelRefused [.b1 2, .b1 13, .orderId (s.releaseFor e), .b1 e.locker]
        (display .busy (dropRelease e.locker (removeEntry e.seq s))) := by
  rw [completeEntry_panel e _ s ho, panelReleaseEnd_refused _ _ _ (by simp)]
  rfl

theorem completeEntry_ports_reset (e : Entry) (s : State) :
    (completeEntry e .bankReset s).ports = s.ports ++ if e.origin = .panel then [.display .busy] else [] := by
  cases ho : e.origin with
  | panel =>
    rw [completeEntry_panelReset e s ho, submit_eq]
    rfl
  | server =>
    cases ht : e.tag with
    | none => simp [completeEntry_untagged e _ s ho ht, removeEntry]
    | some tag => simp [completeEntry_tagged e _ s tag ho ht]

theorem completeEntry_pni_reset (e : Entry) (s : State) :
    (completeEntry e .bankReset s).pni = { s.pni with
      releases := s.pni.releases.filter fun r => !decide (e.origin = .panel) || e.locker != r.1 } := by
  cases ho : e.origin with
  | panel =>
    rw [completeEntry_panelReset e s ho]
    simp [display, dropRelease, removeEntry, State.emit, bne_comm]
  | server =>
    cases ht : e.tag with
    | none => simp [completeEntry_untagged e _ s ho ht, removeEntry]
    | some tag => simp [completeEntry_tagged e _ s tag ho ht]

theorem bankEnd_plainEnd : PlainEnd .bankReset bankEnd := by
  constructor <;> intro s e <;> have frame := lockerCommandEnd_records e .bankReset s
  · exact completeEntry_ltu _ _ _
  · exact (completeEntry_oru _ _ _).trans (lockerCommandEnd_plain_oru e s bankReset_plain)
  · exact endConfirmed_table e .bankReset s
  · rw [bankEnd_eq, completeEntry_ports_reset, frame.ports]
  · rw [bankEnd_eq, completeEntry_pni_reset, frame.pni]

theorem bankEnd_commands (s : State) (e : Entry) : CommandsOnly s (bankEnd s e) := endConfirmed_commands e .bankReset s

/-- The answer of an entry, if it has one (R122). -/
def resetAnswer (e : Entry) : Option Answer :=
  if e.origin = .server then e.tag.map fun x => ⟨e.request.kind, x, .bankReset, [.b1 e.locker]⟩ else none

/-- The recent completions after an entry has ended (R124). -/
def recentAfter (r : List Nat) (e : Entry) : List Nat :=
  match e.origin, e.tag with
  | .server, some x => addRecent x r
  | _, _ => r

theorem bankEnd_answerQ (s : State) (e : Entry) :
    (bankEnd s e).lki.answerQ = s.lki.answerQ ++ (resetAnswer e).toList := by
  rw [← lockerCommandEnd_plain_lki e s bankReset_plain, bankEnd_eq]
  cases ho : e.origin with
  | panel =>
    rw [completeEntry_panelReset e _ ho, submit_eq]
    simp [resetAnswer, ho, display, dropRelease, removeEntry, State.emit]
  | server =>
    cases ht : e.tag with
    | none => simp [completeEntry_untagged e _ _ ho ht, resetAnswer, ho, ht, removeEntry]
    | some tag => simp [completeEntry_tagged e _ _ tag ho ht, resetAnswer, ho, ht, completionAnswer]

theorem bankEnd_txu (s : State) (e : Entry) :
    (bankEnd s e).txu = { s.txu with
      table := s.txu.table.filter fun x => x.seq != e.seq, recent := recentAfter s.txu.recent e } := by
  rw [← (lockerCommandEnd_records e .bankReset s).txu, bankEnd_eq]
  cases ho : e.origin with
  | panel =>
    rw [completeEntry_panelReset e _ ho]
    simp [recentAfter, ho, display, dropRelease, removeEntry, State.emit]
  | server =>
    cases ht : e.tag with
    | none => simp [completeEntry_untagged e _ _ ho ht, recentAfter, ho, ht, removeEntry]
    | some tag => simp [completeEntry_tagged e _ _ tag ho ht, recentAfter, ho, ht]

/-- The report of a panel release that a bank reset ends (R163). -/
def resetReport (s : State) (e : Entry) : Report :=
  ⟨.panelRefused, s.uptime, 0, [.b1 2, .b1 13, .orderId (s.releaseFor e), .b1 e.locker]⟩

theorem bankEnd_reportQ_server (s : State) (e : Entry) (ho : e.origin = .server) :
    (bankEnd s e).lki.reportQ = s.lki.reportQ := by
  rw [← lockerCommandEnd_plain_lki e s bankReset_plain, bankEnd_eq]
  cases ht : e.tag with
  | none => rw [completeEntry_untagged e _ _ ho ht]; rfl
  | some tag => rw [completeEntry_tagged e _ _ tag ho ht]

/-- A refusal is reported where the panel's reports are enabled and there is room (R142, R163). -/
theorem submit_panelRefused_reportQ (fs : List Field) (v : State) (room : v.lki.reportQ.length < 32) :
    (submit .panelRefused fs v).lki.reportQ =
      v.lki.reportQ ++ if v.params.reportMask.testBit 3 then [⟨.panelRefused, v.uptime, 0, fs⟩] else [] := by
  have group : groupEnabled v.params ReportKind.panelRefused.group = v.params.reportMask.testBit 3 := rfl
  by_cases on : v.params.reportMask.testBit 3 = true
  · rw [submit_room .panelRefused fs v (group.trans on) room, if_pos on, State.withLki_lki]
  · rw [submit_masked .panelRefused fs v (group.trans (by simpa using on)), if_neg on, List.append_nil]

theorem bankEnd_reportQ_panel (s : State) (e : Entry) (ho : e.origin = .panel) (room : s.lki.reportQ.length < 32) :
    (bankEnd s e).lki.reportQ =
      s.lki.reportQ ++ if s.params.reportMask.testBit 3 then [resetReport s e] else [] := by
  have frame := lockerCommandEnd_records e .bankReset s
  have lki := lockerCommandEnd_plain_lki e s bankReset_plain
  have release : (lockerCommandEnd e .bankReset s).releaseFor e = s.releaseFor e := by
    simp only [State.releaseFor, frame.pni]
  rw [bankEnd_eq, completeEntry_panelReset e _ ho, submit_panelRefused_reportQ]
  · simp only [resetReport, ← frame.params, ← frame.uptime, ← release, ← lki]
    rfl
  · exact (congrArg (fun x => x.reportQ.length < 32) lki).mpr room

/-! ### Some of them end, one after the other -/

theorem foldl_bankEnd_commands (es : List Entry) (s : State) : CommandsOnly s (es.foldl bankEnd s) :=
  CommandsOnly.foldl bankEnd bankEnd_commands es s

theorem foldl_bankEnd_answerQ (es : List Entry) (s : State) :
    (es.foldl bankEnd s).lki.answerQ = s.lki.answerQ ++ es.filterMap resetAnswer := by
  induction es generalizing s with
  | nil => simp
  | cons e rest ih =>
    rw [List.foldl_cons, ih, bankEnd_answerQ, List.append_assoc]
    cases h : resetAnswer e <;> simp [h]

theorem foldl_bankEnd_txu (es : List Entry) (s : State) :
    (es.foldl bankEnd s).txu = { s.txu with
      table := s.txu.table.filter fun x => es.all fun e => e.seq != x.seq
      recent := es.foldl recentAfter s.txu.recent } := by
  rw [← bankEnd_plainEnd.foldl_table es s]
  induction es generalizing s with
  | nil => rfl
  | cons e rest ih =>
    rw [List.foldl_cons]
    conv_lhs => rw [ih, bankEnd_txu]
    rfl

/-- Another locker's release is still outstanding. -/
theorem bankEnd_releaseFor (s : State) (e f : Entry) (h : e.origin = .panel → f.locker ≠ e.locker) :
    (bankEnd s e).releaseFor f = s.releaseFor f := by
  unfold State.releaseFor
  rw [bankEnd_plainEnd.pni, List.find?_filter]
  congr 2
  funext r
  by_cases hr : r.1 = f.locker
  · by_cases ho : e.origin = .panel
    · have := h ho
      simp [hr, ho, Ne.symm this]
    · simp [hr, ho]
  · simp [hr]

/-- With room in the queue, and no two releases of one locker, each release is reported (R159, R163). -/
theorem foldl_bankEnd_reportQ (es : List Entry) (s : State)
    (once : ((es.filter fun e => decide (e.origin = .panel)).map Entry.locker).Nodup)
    (room : s.lki.reportQ.length + (es.filter fun e => decide (e.origin = .panel)).length ≤ 32) :
    (es.foldl bankEnd s).lki.reportQ = s.lki.reportQ ++
      if s.params.reportMask.testBit 3 then
        (es.filter fun e => decide (e.origin = .panel)).map (resetReport s) else [] := by
  induction es generalizing s with
  | nil => simp
  | cons e rest ih =>
    have frame := bankEnd_commands s e
    have uptime : (bankEnd s e).uptime = s.uptime := by simp only [State.uptime, State.uptimeSeconds, frame.upMs]
    have later (h : ∀ f ∈ rest.filter fun e => decide (e.origin = .panel), e.origin = .panel → f.locker ≠ e.locker) :
        (rest.filter fun e => decide (e.origin = .panel)).map (resetReport (bankEnd s e)) =
          (rest.filter fun e => decide (e.origin = .panel)).map (resetReport s) :=
      List.map_congr_left fun f hf => by simp only [resetReport, uptime, bankEnd_releaseFor s e f (h f hf)]
    rw [List.foldl_cons]
    cases ho : e.origin with
    | server =>
      have skip : (e :: rest).filter (fun e => decide (e.origin = .panel)) =
          rest.filter fun e => decide (e.origin = .panel) := by simp [ho]
      rw [skip] at once room ⊢
      have same := bankEnd_reportQ_server s e ho
      rw [ih (bankEnd s e) once (by rw [same]; exact room), same, frame.params, later (by simp [ho])]
    | panel =>
      have take : (e :: rest).filter (fun e => decide (e.origin = .panel)) =
          e :: rest.filter fun e => decide (e.origin = .panel) := by simp [ho]
      rw [take] at once room ⊢
      rw [List.map_cons, List.nodup_cons] at once
      rw [List.length_cons] at room
      have more := bankEnd_reportQ_panel s e ho (by omega)
      have others : ∀ f ∈ rest.filter fun e => decide (e.origin = .panel), e.origin = .panel → f.locker ≠ e.locker :=
        fun f hf _ h => once.1 (h ▸ List.mem_map_of_mem hf)
      have room' : (bankEnd s e).lki.reportQ.length +
          (rest.filter fun e => decide (e.origin = .panel)).length ≤ 32 := by
        rw [more, List.length_append]
        split <;> simp <;> omega
      rw [ih (bankEnd s e) once.2 room', more, frame.params, later others]
      by_cases on : s.params.reportMask.testBit 3 = true <;> simp [on]

/-- A locker outside the transient phases loses its pending unlatch at most. -/
theorem foldl_bankEnd_settled (es : List Entry) (s : State) (n : Nat)
    (h : (s.locker n).phase ∉ [.loading, .pickup, .clearing]) :
    (es.foldl bankEnd s).locker n =
      { s.locker n with unlatchPending := ((es.foldl bankEnd s).locker n).unlatchPending } := by
  induction es generalizing s with
  | nil => rfl
  | cons e rest ih =>
    have one : (bankEnd s e).locker n =
        { s.locker n with unlatchPending := ((bankEnd s e).locker n).unlatchPending } := by
      by_cases hu : e.locker = n ∧ e.request ≠ .moduleRead
      · obtain ⟨rfl, hr⟩ := hu
        by_cases hn : e.locker < 48
        · rw [bankEnd_plainEnd.locker_own bankReset_plain s e hn hr, reverted_eq s _ _ hr,
            if_neg fun hp => h (CmdRequest.phase_mem _ _ hp)]
        · rw [State.locker_out _ _ (Nat.le_of_not_lt hn), State.locker_out _ _ (Nat.le_of_not_lt hn)]
      · rw [bankEnd_plainEnd.locker_other bankReset_plain s e n hu]
    rw [List.foldl_cons]
    conv_lhs => rw [ih (bankEnd s e) (by rw [one]; exact h), one]

/-! ### The bus plays no part in it -/

theorem submit_withBbm (k : ReportKind) (fs : List Field) (s : State) (x : Bbm) :
    submit k fs (s.withBbm x) = (submit k fs s).withBbm x := by
  by_cases h : groupEnabled s.params k.group = true
  · simp only [submit, submitTagged, State.withBbm_params, h, if_true]
    rfl
  · rw [submit_masked k fs s (by simpa using h), submit_masked k fs _ (by simpa using h)]

theorem bankEnd_withBbm (s : State) (e : Entry) (x : Bbm) : bankEnd (s.withBbm x) e = (bankEnd s e).withBbm x := by
  have locker : lockerCommandEnd e .bankReset (s.withBbm x) = (lockerCommandEnd e .bankReset s).withBbm x := by
    rw [lockerCommandEnd_plain e _ _ bankReset_plain, lockerCommandEnd_plain e _ _ bankReset_plain]
    split <;> rfl
  rw [bankEnd_eq, bankEnd_eq, locker]
  generalize lockerCommandEnd e .bankReset s = v
  cases ho : e.origin with
  | panel =>
    rw [completeEntry_panelReset e _ ho, completeEntry_panelReset e _ ho]
    exact submit_withBbm _ _ (display .busy (dropRelease e.locker (removeEntry e.seq v))) x
  | server =>
    cases ht : e.tag with
    | none =>
      rw [completeEntry_untagged e _ _ ho ht, completeEntry_untagged e _ _ ho ht]
      rfl
    | some tag =>
      rw [completeEntry_tagged e _ _ tag ho ht, completeEntry_tagged e _ _ tag ho ht]
      rfl

theorem foldl_bankEnd_withBbm (es : List Entry) (s : State) (x : Bbm) :
    es.foldl bankEnd (s.withBbm x) = (es.foldl bankEnd s).withBbm x := by
  induction es generalizing s with
  | nil => rfl
  | cons e rest ih => rw [List.foldl_cons, List.foldl_cons, bankEnd_withBbm, ih]

/-! ### The exchange that is cut off (R109) -/

/-- The entry on the bus, if a confirmed command is. -/
def cutEntries (s : State) : List Entry :=
  match s.bbm.exchange with
  | some (.command _ q _ _) => (entryBySeq s.txu q).toList
  | _ => []

/-- The posted command on the bus, if one is. -/
def cutPosted (s : State) : List Posted :=
  match s.bbm.exchange with
  | some (.command _ q _ _) => if (cutEntries s).isEmpty then (postedBySeq s.txu q).toList else []
  | _ => []

/-- The probe in flight, if the exchange does not end it. -/
def cutProbing (s : State) : Option Nat :=
  match s.bbm.exchange with
  | some (.probe ..) => none
  | _ => s.ltu.probing

/-- All of the cut off but the end of a confirmed command. -/
def cutRest (s : State) : State :=
  { s with
    bbm := { s.bbm with exchange := none }
    ltu := { s.ltu with probing := cutProbing s }
    txu := { s.txu with
      posted := s.txu.posted.filter fun p => (cutPosted s).all fun x => x.seq != p.seq
      postedLost := (cutPosted s).foldl (fun n _ => satAdd 65535 n 1) s.txu.postedLost } }

theorem cutRest_unposted (s : State) (hp : cutPosted s = []) (hb : cutProbing s = s.ltu.probing) :
    cutRest s = clearExchange s := by
  simp [cutRest, hp, hb, clearExchange, State.withBbm]

/-- A poll, a probe or a broadcast is dropped (R109). -/
theorem cutOff_dropped (s : State) (h : ∀ n q a f, s.bbm.exchange ≠ some (.command n q a f)) :
    cutOff s = cutRest s ∧ cutEntries s = [] := by
  cases hx : s.bbm.exchange with
  | none =>
    have cleared : clearExchange s = s := by
      unfold clearExchange
      rw [← hx]
      rfl
    have posted : cutPosted s = [] := by simp only [cutPosted, hx]
    have probing : cutProbing s = s.ltu.probing := by simp only [cutProbing, hx]
    refine ⟨?_, by simp only [cutEntries, hx]⟩
    rw [cutRest_unposted s posted probing, cleared]
    simp only [cutOff, hx]
  | some x =>
    cases x with
    | command n q a f => exact absurd hx (h n q a f)
    | poll | probe | broadcast => simp [cutOff, cutRest, cutEntries, cutPosted, cutProbing, hx, State.withBbm]

theorem cutOff_eq (s : State) : cutOff s = (cutEntries s).foldl bankEnd (cutRest s) := by
  by_cases h : ∀ n q a f, s.bbm.exchange ≠ some (.command n q a f)
  · rw [(cutOff_dropped s h).1, (cutOff_dropped s h).2]
    rfl
  · simp only [ne_eq, not_forall, not_not] at h
    obtain ⟨n, q, a, f, hx⟩ := h
    have probing : cutProbing s = s.ltu.probing := by simp only [cutProbing, hx]
    have entries : cutEntries s = (entryBySeq s.txu q).toList := by simp only [cutEntries, hx]
    have ends : cutOff s = endCommand q .bankReset (clearExchange s) := by
      unfold cutOff
      rw [hx]
      rfl
    rw [ends, entries]
    cases he : entryBySeq s.txu q with
    | some e =>
      have posted : cutPosted s = [] := by simp [cutPosted, hx, entries, he]
      rw [cutRest_unposted s posted probing]
      exact endCommand_entry q e .bankReset (clearExchange s) he
    | none =>
      have posted : cutPosted s = (postedBySeq s.txu q).toList := by simp [cutPosted, hx, entries, he]
      change endCommand q .bankReset (clearExchange s) = cutRest s
      cases hp : postedBySeq s.txu q with
      | none =>
        rw [cutRest_unposted s (by rw [posted, hp]; rfl) probing]
        simp only [endCommand, clearExchange, State.withBbm_txu, he, hp]
      | some p =>
        rw [endCommand_posted q p .bankReset (clearExchange s) he hp]
        simp [cutRest, posted, hp, probing, endPosted, countPostedLost, removePosted, clearExchange, State.withBbm,
          State.withTxu, bne_comm]

/-! ### The pulse (R109, R129, R196) -/

/-- The entries the cut off leaves. -/
def leftEntries (s : State) : List Entry := s.txu.table.filter fun e => (cutEntries s).all fun x => x.seq != e.seq

/-- The entries that end with BANK_RESET: the one on the bus, then those that wait, oldest first (R114). -/
def endedEntries (s : State) : List Entry :=
  cutEntries s ++ Txu.waitingInOrder { s.txu with table := leftEntries s }

theorem waitingInOrder_congr (x y : Txu) (h : x.table = y.table) : x.waitingInOrder = y.waitingInOrder := by
  unfold Txu.waitingInOrder waitingEntrySeqs
  have same : entryBySeq x = entryBySeq y := by
    funext q
    simp only [entryBySeq, h]
  rw [h, same]

/-- The bus in PULSE, before TXU and LTU act. -/
def pulseBase (s : State) : State := (cutRest s).withBbm { busAtPulse s.bbm with exchange := none }

theorem txuBankReset_eq (s : State) : txuBankReset s = discardPosted (s.txu.waitingInOrder.foldl bankEnd s) := by
  have fold := foldl_bySeq (fun s q => endCommand q .bankReset s) bankEnd
    (fun s q e he => by simp only [endCommand, he]; rfl) bankEnd_plainEnd.table _ s (inSeqOrder_nodup _ _)
    (waitingEntrySeqs_found s.txu)
  unfold txuBankReset
  rw [show (waitingEntrySeqs s.txu).foldl _ s = _ from fold]
  rfl

theorem pulsed_eq (s : State) : pulsed s = (discardPosted ((endedEntries s).foldl bankEnd (pulseBase s))).resetNotice := by
  have cut : (cutOff s).withBbm (busAtPulse (cutOff s).bbm) = (cutEntries s).foldl bankEnd (pulseBase s) := by
    rw [pulseBase, foldl_bankEnd_withBbm, ← cutOff_eq, cutOff_bbm]
    rfl
  have table : ((cutEntries s).foldl bankEnd (pulseBase s)).txu.table = leftEntries s :=
    bankEnd_plainEnd.foldl_table _ _
  unfold pulsed endedEntries
  rw [cut, txuBankReset_eq, List.foldl_append,
    waitingInOrder_congr _ { s.txu with table := leftEntries s } table]

/-- The confirmed commands have ended. -/
def confirmedEnded (s : State) : State := (endedEntries s).foldl bankEnd (pulseBase s)

/-- A record at the reset notice, with the transient phases named (R196). -/
theorem afterBankReset_eq (l : Locker) :
    l.afterBankReset = { l with
      pollFails := 0, kSeen := 0, cSeen := 0, unlatchPending := none
      openedNoted := if l.phase ∈ [.loading, .pickup, .clearing] then some true else l.openedNoted } := by
  unfold Locker.afterBankReset
  cases l.phase <;> simp [Phase.transient, Phase.watched]

theorem pulsed_locker (s : State) (n : Nat) (hn : n < 48) :
    (pulsed s).locker n = ((confirmedEnded s).locker n).afterBankReset := by
  rw [pulsed_eq]
  exact vget_vinit _ _ _ _ hn

theorem foldl_satAdd (ps : List Posted) (x y : Nat) :
    satAdd 65535 (ps.foldl (fun n _ => satAdd 65535 n 1) x) y = min (x + ps.length + y) 65535 := by
  induction ps generalizing x with
  | nil => simp [satAdd]
  | cons p rest ih =>
    rw [List.foldl_cons, ih, List.length_cons]
    simp only [satAdd]
    omega

end Sys2Proof.Proofs

/-! ## Setting the bank aside, the reset pulse and who asks for it (R127, R129, R188, R194, R196) -/

namespace Sys2Proof.Proofs

open Sys2Proof.Machine

variable {s t u : State}

/-! ### One locker is set aside (R188) -/

/-- A record set aside: OFFLINE with no resume phase, unless ABSENT or SERVICE (R7, R188). -/
def asideRecord (l : Locker) : Locker :=
  let transient : Bool := decide (l.phase ∈ [.loading, .pickup, .clearing])
  if l.phase ∈ [.absent, .service] then l
  else
    { l with
      phase := .offline, resume := none
      openedNoted := if transient then none else l.openedNoted
      transientTimer := if transient then none else l.transientTimer
      doorHeld := if transient then none else l.doorHeld
      clearOrigin := if l.phase = .clearing then none else l.clearOrigin
      purgeProgress := if l.phase = .purging then none else l.purgeProgress
      purgeSuspended := if l.phase = .purging then none else l.purgeSuspended }

theorem asideRecord_kept (l : Locker) (h : l.phase = .absent ∨ l.phase = .service) : asideRecord l = l :=
  if_pos (by simpa using h)

theorem asideRecord_moved (l : Locker) (h : ¬ (l.phase = .absent ∨ l.phase = .service)) :
    asideRecord l = l.enter .offline := by
  rw [asideRecord, if_neg (by simpa using h), Locker.enter, leave_eq]
  simp [Locker.arrive]

theorem setAside_locker_same (n : Nat) (s : State) (hn : n < 48) :
    (setAside n s).locker n = asideRecord (s.locker n) := by
  unfold setAside
  dsimp only
  split
  case isTrue h => rw [asideRecord_kept _ h]
  case isFalse h => rw [asideRecord_moved _ h, moveTo_locker_same _ _ _ hn]

theorem setAside_locker_ne (n m : Nat) (s : State) (h : m ≠ n) : (setAside n s).locker m = s.locker m := by
  unfold setAside
  dsimp only
  split
  · rfl
  · exact moveTo_locker_ne _ _ _ _ h

/-- What setting aside leaves alone: all but records and free lists. -/
def RecordsAndLists (s t : State) : Prop :=
  t = { s with
    ltu := { s.ltu with lockers := t.ltu.lockers }
    oru := { s.oru with
      freeSmall := t.oru.freeSmall, freeMedium := t.oru.freeMedium, freeLarge := t.oru.freeLarge } }

theorem RecordsAndLists.trans (h : RecordsAndLists s t) (k : RecordsAndLists t u) : RecordsAndLists s u := by
  unfold RecordsAndLists at *
  rw [k, h]

theorem setAside_frame (n : Nat) (s : State) : RecordsAndLists s (setAside n s) := by
  unfold setAside
  dsimp only
  split
  · rfl
  · exact moveTo_frame _ _ _

/-- A FREE locker leaves its list (R35). -/
theorem setAside_freeList (n : Nat) (s : State) (c : SizeClass) :
    (setAside n s).freeList c =
      (s.freeList c).filter fun m => !(decide (m = n) && decide ((s.locker n).phase = .free ∧ (s.locker n).cls = c)) := by
  have unmoved (h : ¬ ((s.locker n).phase = .free ∧ (s.locker n).cls = c)) :
      (s.freeList c).filter (fun m => !(decide (m = n) && decide ((s.locker n).phase = .free ∧ (s.locker n).cls = c))) =
        s.freeList c := by simp only [decide_eq_false h, Bool.and_false, Bool.not_false, List.filter_true]
  by_cases hf : (s.locker n).phase = .free
  · have moved : setAside n s = leftFree (s.locker n).cls n (s.setLocker n ((s.locker n).enter .offline)) := by
      simp [setAside, moveTo, hf]
    rw [moved, leftFree, State.setFreeList_freeList]
    split
    case isTrue hc =>
      subst hc
      refine List.filter_congr fun m _ => ?_
      simp [hf, bne, beq_eq_decide]
    case isFalse hc => exact (unmoved fun h => hc h.2.symm).symm
  · rw [unmoved fun h => hf h.1]
    unfold setAside moveTo
    dsimp only
    rw [if_neg hf]
    split <;> rfl

/-! ### The whole bank is set aside (R188) -/

theorem foldl_setAside (ns : List Nat) (s : State) : RecordsAndLists s (ns.foldl (fun s n => setAside n s) s) := by
  induction ns generalizing s with
  | nil => rfl
  | cons n rest ih => exact (setAside_frame n s).trans (ih _)

theorem setAsideAll_frame (s : State) : RecordsAndLists s (setAsideAll s) := foldl_setAside _ s

theorem asideRecord_idem (l : Locker) : asideRecord (asideRecord l) = asideRecord l := by
  by_cases h : l.phase = .absent ∨ l.phase = .service
  · rw [asideRecord_kept _ h, asideRecord_kept _ h]
  · have : (asideRecord l).phase = .offline := by rw [asideRecord_moved _ h, enter_phase]
    rw [asideRecord_moved (asideRecord l) (by simp [this]), asideRecord_moved _ h]
    simp [Locker.enter, Locker.leave, Locker.arrive]

theorem foldl_setAside_locker (ns : List Nat) (s : State) (n : Nat) (hn : n < 48) :
    (ns.foldl (fun s n => setAside n s) s).locker n = if n ∈ ns then asideRecord (s.locker n) else s.locker n := by
  induction ns generalizing s with
  | nil => rfl
  | cons m rest ih =>
    rw [List.foldl_cons, ih]
    by_cases hm : n = m
    · subst hm
      rw [setAside_locker_same _ _ hn, asideRecord_idem]
      simp
    · simp [setAside_locker_ne _ _ _ hm, hm]

theorem setAsideAll_locker (s : State) (n : Nat) (hn : n < 48) :
    (setAsideAll s).locker n = asideRecord (s.locker n) := by
  rw [setAsideAll, foldl_setAside_locker _ _ _ hn, if_pos (by simpa [Config.allLockers] using hn)]

/-- The lists hold FREE lockers of their class, of the bank's positions. -/
def ListsFree (s : State) : Prop :=
  ∀ c, ∀ n ∈ s.freeList c, n < 48 ∧ (s.locker n).phase = .free ∧ (s.locker n).cls = c

theorem setAside_listed (n : Nat) (s : State) (h : ListsFree s) (c : SizeClass) (m : Nat)
    (hm : m ∈ (setAside n s).freeList c) : m ∈ s.freeList c ∧ m ≠ n := by
  rw [setAside_freeList, List.mem_filter] at hm
  obtain ⟨listed, left⟩ := hm
  refine ⟨listed, fun same => ?_⟩
  subst same
  simp [(h c m listed).2] at left

theorem setAside_listsFree (n : Nat) (s : State) (h : ListsFree s) : ListsFree (setAside n s) := by
  intro c m hm
  obtain ⟨listed, hne⟩ := setAside_listed n s h c m hm
  rw [setAside_locker_ne _ _ _ hne]
  exact h c m listed

theorem foldl_setAside_listed (ns : List Nat) (s : State) (h : ListsFree s) (c : SizeClass) (m : Nat)
    (hm : m ∈ (ns.foldl (fun s n => setAside n s) s).freeList c) : m ∈ s.freeList c ∧ m ∉ ns := by
  induction ns generalizing s with
  | nil => exact ⟨hm, List.not_mem_nil⟩
  | cons n rest ih =>
    obtain ⟨listed, unset⟩ := ih _ (setAside_listsFree n s h) hm
    obtain ⟨listed, hne⟩ := setAside_listed n s h c m listed
    exact ⟨listed, fun k => (List.mem_cons.mp k).elim hne unset⟩

/-- No locker of a bank set aside is listed (R188). -/
theorem setAsideAll_freeList (s : State) (h : ListsFree s) (c : SizeClass) : (setAsideAll s).freeList c = [] := by
  refine List.eq_nil_iff_forall_not_mem.mpr fun m hm => ?_
  obtain ⟨listed, unset⟩ := foldl_setAside_listed _ s h c m hm
  exact unset (by simpa [Config.allLockers] using (h c m listed).1)

theorem FreeListsExact.listsFree (h : s.FreeListsExact) : ListsFree s := by
  intro c n hn
  obtain ⟨free, -, cls⟩ := (h.1 c n).mp hn
  refine ⟨?_, free, cls⟩
  by_contra hout
  rw [State.locker_out s n (by omega)] at free
  cases free

/-! ### The records and lists at the pulse (R129, R196) -/

theorem pulsed_oru (s : State) : (pulsed s).oru = s.oru := by
  rw [pulsed_eq]
  exact (bankEnd_plainEnd.foldl_oru (endedEntries s) (pulseBase s)).trans rfl

/-- Commands that end leave a FREE locker as it is. -/
theorem pulsed_listsFree (h : ListsFree s) : ListsFree (pulsed s) := by
  intro c n hn
  have lists : (pulsed s).freeList c = s.freeList c := by simp only [State.freeList, pulsed_oru]
  obtain ⟨hlt, free, cls⟩ := h c n (lists ▸ hn)
  have kept := foldl_bankEnd_settled (endedEntries s) (pulseBase s) n (free ▸ by decide)
  rw [pulsed_locker s n hlt, afterBankReset_eq, confirmedEnded, kept]
  exact ⟨hlt, free, cls⟩

theorem pulsed_frame (s : State) : CommandsOnly (pulseBase s) (confirmedEnded s) := foldl_bankEnd_commands _ _

/-- The posted commands the cut off leaves. -/
def leftPosted (s : State) : List Posted := s.txu.posted.filter fun p => (cutPosted s).all fun x => x.seq != p.seq

theorem all_leftEntries (s : State) :
    (s.txu.table.filter fun x => (endedEntries s).all fun e => e.seq != x.seq) =
      (leftEntries s).filter fun x => (endedEntries s).all fun e => e.seq != x.seq := by
  rw [leftEntries, List.filter_filter]
  refine List.filter_congr fun x _ => ?_
  simp only [endedEntries, List.all_append]
  cases (cutEntries s).all fun e => e.seq != x.seq <;> simp

theorem pulsed_txu (s : State) :
    (pulsed s).txu =
      { table := (leftEntries s).filter fun e => (endedEntries s).all fun x => x.seq != e.seq
        posted := (leftPosted s).filter fun p => decide (p.stage ≠ .waiting)
        nextSeq := s.txu.nextSeq
        recent := (endedEntries s).foldl recentAfter s.txu.recent
        longOp := s.txu.longOp
        postedLost := min (s.txu.postedLost + (cutPosted s).length +
          ((leftPosted s).filter fun p => decide (p.stage = .waiting)).length) 65535 } := by
  have ended := foldl_bankEnd_txu (endedEntries s) (pulseBase s)
  rw [pulsed_eq, ← all_leftEntries, ← foldl_satAdd]
  change (discardPosted ((endedEntries s).foldl bankEnd (pulseBase s))).txu = _
  unfold discardPosted
  rw [ended]
  rfl

theorem pulsed_answerQ (s : State) :
    (pulsed s).lki.answerQ = s.lki.answerQ ++ (endedEntries s).filterMap resetAnswer := by
  rw [pulsed_eq]
  exact foldl_bankEnd_answerQ (endedEntries s) (pulseBase s)

theorem pulsed_placesHeld (s : State) : (pulsed s).lki.placesHeld = s.lki.placesHeld := by
  rw [pulsed_eq]
  exact congrArg (fun x => x.lki.placesHeld) (pulsed_frame s)

/-- The panel releases that the pulse ends. -/
def endedReleases (s : State) : List Entry := (endedEntries s).filter fun e => decide (e.origin = .panel)

theorem pulsed_reportQ (s : State) (once : ((endedReleases s).map Entry.locker).Nodup)
    (room : s.lki.reportQ.length + (endedReleases s).length ≤ 32) :
    (pulsed s).lki.reportQ =
      s.lki.reportQ ++ if s.params.reportMask.testBit 3 then (endedReleases s).map (resetReport s) else [] := by
  rw [pulsed_eq]
  exact foldl_bankEnd_reportQ (endedEntries s) (pulseBase s) once room

theorem pulsed_ports (s : State) :
    (pulsed s).ports = s.ports ++ (endedReleases s).map fun _ => .display .busy := by
  rw [pulsed_eq]
  exact bankEnd_plainEnd.foldl_ports (endedEntries s) (pulseBase s)

theorem pulsed_pni (s : State) :
    (pulsed s).pni = { s.pni with
      releases := s.pni.releases.filter fun r => (endedReleases s).all fun e => e.locker != r.1 } := by
  rw [pulsed_eq]
  exact bankEnd_plainEnd.foldl_pni (endedEntries s) (pulseBase s)

theorem pulsed_ltu (s : State) :
    (pulsed s).ltu = { s.ltu with lockers := (pulsed s).ltu.lockers, probing := cutProbing s } := by
  have ended := bankEnd_plainEnd.foldl_ltu (endedEntries s) (pulseBase s)
  rw [pulsed_eq]
  exact congrArg (fun x : Ltu => { x with lockers := (discardPosted (confirmedEnded s)).resetNotice.ltu.lockers }) ended

theorem pulsed_units (s : State) : (pulsed s).hta = s.hta ∧ (pulsed s).hau = s.hau := by
  rw [pulsed_eq]
  exact ⟨(congrArg State.hta (pulsed_frame s)).trans rfl, (congrArg State.hau (pulsed_frame s)).trans rfl⟩

/-- The record at the reset notice, from the unlatches of the locker that end. -/
theorem pulsed_record (s : State) (n : Nat) (hn : n < 48) :
    (unlatchesOf n (endedEntries s) = [] → (pulsed s).locker n = (s.locker n).afterBankReset) ∧
      ∀ e, unlatchesOf n (endedEntries s) = [e] →
        (pulsed s).locker n = ((s.locker n).reverted s e.request).afterBankReset := by
  obtain ⟨alone, single⟩ := bankEnd_plainEnd.foldl_locker bankReset_plain (endedEntries s) (pulseBase s) n hn
  rw [pulsed_locker s n hn, confirmedEnded]
  refine ⟨fun h => ?_, fun e h => ?_⟩
  · rw [alone h]
    rfl
  · rw [single e h, reverted_congr e.request _ (rfl : (pulseBase s).oru = s.oru)]
    rfl

/-! ### A RESCAN's lockers are set aside once more (R188) -/

/-- Whether a RESCAN runs. -/
def rescanning (s : State) : Bool :=
  match s.ltu.discovery with
  | some ⟨.rescan, _⟩ => true
  | _ => false

theorem startPulse_eq (s : State) :
    startPulse s = if rescanning s then setAsideAll (pulsed s) else pulsed s := by
  cases hd : s.ltu.discovery with
  | none =>
    rw [startPulse_other (by simp [hd])]
    simp [rescanning, hd]
  | some d =>
    obtain ⟨k, st⟩ := d
    cases k with
    | rescan =>
      rw [startPulse_rescan st hd]
      simp [rescanning, hd]
    | powerOn =>
      rw [startPulse_other (by simp [hd])]
      simp [rescanning, hd]

theorem startPulse_frame (s : State) : RecordsAndLists (pulsed s) (startPulse s) := by
  rw [startPulse_eq]
  split
  · exact setAsideAll_frame _
  · rfl

theorem startPulse_lki (s : State) : (startPulse s).lki = (pulsed s).lki :=
  (congrArg State.lki (startPulse_frame s)).trans rfl

theorem startPulse_txu (s : State) : (startPulse s).txu = (pulsed s).txu :=
  (congrArg State.txu (startPulse_frame s)).trans rfl

theorem startPulse_bbm (s : State) : (startPulse s).bbm = { busAtPulse s.bbm with exchange := none } :=
  (congrArg State.bbm (startPulse_frame s)).trans (pulsed_bbm s)

theorem startPulse_ltu (s : State) :
    (startPulse s).ltu = { s.ltu with lockers := (startPulse s).ltu.lockers, probing := cutProbing s } := by
  rw [(congrArg State.ltu (startPulse_frame s)).trans rfl, pulsed_ltu]

theorem startPulse_oru (s : State) :
    (startPulse s).oru = { s.oru with
      freeSmall := (startPulse s).oru.freeSmall
      freeMedium := (startPulse s).oru.freeMedium
      freeLarge := (startPulse s).oru.freeLarge } := by
  rw [(congrArg State.oru (startPulse_frame s)).trans rfl, pulsed_oru]

/-- The values of a record at the pulse (R188, R196). -/
def resetRecord (s : State) (l : Locker) : Locker :=
  if rescanning s then asideRecord l.afterBankReset else l.afterBankReset

theorem startPulse_locker (s : State) (n : Nat) (hn : n < 48) :
    (startPulse s).locker n = if rescanning s then asideRecord ((pulsed s).locker n) else (pulsed s).locker n := by
  rw [startPulse_eq]
  split
  · exact setAsideAll_locker _ _ hn
  · rfl

theorem startPulse_record (s : State) (n : Nat) (hn : n < 48) :
    (unlatchesOf n (endedEntries s) = [] → (startPulse s).locker n = resetRecord s (s.locker n)) ∧
      ∀ e, unlatchesOf n (endedEntries s) = [e] →
        (startPulse s).locker n = resetRecord s ((s.locker n).reverted s e.request) := by
  obtain ⟨alone, single⟩ := pulsed_record s n hn
  rw [startPulse_locker s n hn]
  refine ⟨fun h => ?_, fun e h => ?_⟩
  · rw [alone h, resetRecord]
  · rw [single e h, resetRecord]

theorem startPulse_freeList_kept (s : State) (c : SizeClass) (h : rescanning s = false) :
    (startPulse s).freeList c = s.freeList c := by
  rw [startPulse_eq, if_neg (by simp [h])]
  simp only [State.freeList, pulsed_oru]

theorem startPulse_freeList_empty (s : State) (c : SizeClass) (h : rescanning s = true) (hl : ListsFree s) :
    (startPulse s).freeList c = [] := by
  rw [startPulse_eq, if_pos h]
  exact setAsideAll_freeList _ (pulsed_listsFree hl) c

theorem startPulse_noneWaiting (s : State) : (startPulse s).txu.NoneWaiting := by
  rw [startPulse_txu]
  exact pulsed_noneWaiting s

end Sys2Proof.Proofs

/-! ## BANK_RESET and RESCAN (R127, R188, R194) -/

namespace Sys2Proof.Proofs

open Sys2Proof.Machine

variable {s t u : State}

theorem resetRecord_eq (s : State) (l : Locker) :
    resetRecord s l =
      let zeroed : Locker := { l with
        pollFails := 0, kSeen := 0, cSeen := 0, unlatchPending := none
        openedNoted := if l.phase ∈ [.loading, .pickup, .clearing] then some true else l.openedNoted }
      if rescanning s then asideRecord zeroed else zeroed := by
  rw [resetRecord, afterBankReset_eq]

/-! ### What an accepted request leaves for the pulse -/

theorem checkLongOp_clear (s : State) (tag : Nat) (hop : s.txu.longOp = none) (ht : ∀ e ∈ s.txu.table, e.tag ≠ some tag) :
    checkLongOp s tag = none := by
  have free : tagInTable s tag = false := by simpa [tagInTable] using ht
  simp [checkLongOp, hop, free]

theorem rescanning_true (st : DiscoveryStage) (h : s.ltu.discovery = some ⟨.rescan, st⟩) : rescanning s = true := by
  simp [rescanning, h]

theorem pulseIfIdle_wanted (h : pulseWanted s = true) :
    pulseIfIdle s = if s.bbm.exchange = none then startPulse s else s := by
  simp [pulseIfIdle, h]

/-- The bank of an accepted RESCAN, set aside (R188). -/
theorem rescanSetAside (a : State) (tag : Nat) :
    setAsideAll (rescanTaken tag a) = { answer kRescan tag .accepted [] a with
      txu := { a.txu with longOp := some ⟨.rescan, some tag⟩ }
      bbm := { a.bbm with cycle := .stopped, pollGap := none }
      ltu := ⟨(setAsideAll (rescanTaken tag a)).ltu.lockers, some ⟨.rescan, .reset⟩, 0, none, 0⟩
      oru := { a.oru with
        freeSmall := (setAsideAll (rescanTaken tag a)).oru.freeSmall
        freeMedium := (setAsideAll (rescanTaken tag a)).oru.freeMedium
        freeLarge := (setAsideAll (rescanTaken tag a)).oru.freeLarge } } :=
  setAsideAll_frame (rescanTaken tag a)

theorem rescanSetAside_locker (a : State) (tag n : Nat) (hn : n < 48) :
    (setAsideAll (rescanTaken tag a)).locker n = asideRecord (a.locker n) :=
  setAsideAll_locker _ n hn

theorem rescanSetAside_freeList (a : State) (tag : Nat) (h : ListsFree a) (c : SizeClass) :
    (setAsideAll (rescanTaken tag a)).freeList c = [] :=
  setAsideAll_freeList _ (show ListsFree (rescanTaken tag a) from h) c

theorem serveRescan_taken (tag : Nat) (a : State) (hop : a.txu.longOp = none)
    (ht : ∀ e ∈ a.txu.table, e.tag ≠ some tag) (hl : a.bbm.line = .idle) (hno : anyPlaced a = false) :
    serveRescan tag a =
      if a.bbm.exchange = none then startPulse (setAsideAll (rescanTaken tag a)) else setAsideAll (rescanTaken tag a) := by
  have frame := rescanSetAside a tag
  have discovery : (setAsideAll (rescanTaken tag a)).ltu.discovery = some ⟨.rescan, .reset⟩ := by
    rw [frame]
  have bbm : (setAsideAll (rescanTaken tag a)).bbm = { a.bbm with cycle := .stopped, pollGap := none } := by
    rw [frame]
  have wanted : pulseWanted (setAsideAll (rescanTaken tag a)) = true :=
    (pulseWanted_iff _).mpr ⟨_, discovery, by rw [bbm]; exact hl⟩
  rw [serveRescan, checkLongOp_clear _ _ hop ht]
  dsimp only
  rw [if_neg (by simp [hno]), beginDiscovery_rescan, pulseIfIdle_wanted wanted, bbm]

theorem serveRescan_placed (tag : Nat) (a : State) (hop : a.txu.longOp = none)
    (ht : ∀ e ∈ a.txu.table, e.tag ≠ some tag) (hno : anyPlaced a = true) :
    serveRescan tag a = answer kRescan tag .wrongPhase [] a := by
  rw [serveRescan, checkLongOp_clear _ _ hop ht]
  exact if_pos hno

theorem serveBankReset_taken (tag : Nat) (a : State) (hop : a.txu.longOp = none)
    (ht : ∀ e ∈ a.txu.table, e.tag ≠ some tag) :
    serveBankReset tag a = startPulse (answer kBankReset tag .accepted []
      { a with txu := { a.txu with longOp := some ⟨.bankReset, some tag⟩ } }) := by
  rw [serveBankReset, checkLongOp_clear _ _ hop ht]
  rfl

/-! ### A RESCAN at its acceptance (R188, R194) -/

/-- The values the bank comes to, whether or not the pulse starts at once. -/
def RescanBegun (tag : Nat) (s t : State) : Prop :=
  t.ltu.discovery = some ⟨.rescan, .reset⟩ ∧ t.ltu.probeCursor = 0 ∧ t.ltu.probing = none ∧ t.ltu.answered = 0 ∧
    t.bbm.cycle = .stopped ∧ t.bbm.pollGap = none ∧ t.txu.longOp = some ⟨.rescan, some tag⟩ ∧
    (∀ n, n < 48 →
      ((s.locker n).phase = .absent ∨ (s.locker n).phase = .service → (t.locker n).phase = (s.locker n).phase) ∧
      ((s.locker n).phase ≠ .absent → (s.locker n).phase ≠ .service →
        (t.locker n).phase = .offline ∧ (t.locker n).resume = none)) ∧
    (∀ c, t.freeList c = []) ∧ t.oru.orders = s.oru.orders ∧ t.oru.queue = s.oru.queue

theorem asideRecord_phase (l : Locker) :
    (l.phase = .absent ∨ l.phase = .service → (asideRecord l).phase = l.phase) ∧
      (l.phase ≠ .absent → l.phase ≠ .service → (asideRecord l).phase = .offline ∧ (asideRecord l).resume = none) := by
  refine ⟨fun h => by rw [asideRecord_kept _ h], fun ha hs => ?_⟩
  rw [asideRecord, if_neg (by simp [ha, hs])]
  exact ⟨rfl, rfl⟩

theorem rescanSetAside_begun (a : State) (tag : Nat) (h : ListsFree a) :
    RescanBegun tag a (setAsideAll (rescanTaken tag a)) := by
  have frame := rescanSetAside a tag
  refine ⟨by rw [frame], by rw [frame], by rw [frame], by rw [frame], by rw [frame], by rw [frame], by rw [frame],
    fun n hn => ?_, rescanSetAside_freeList a tag h, by rw [frame], by rw [frame]⟩
  rw [rescanSetAside_locker a tag n hn]
  exact asideRecord_phase _

/-- The pulse changes no phase of a bank set aside. -/
theorem startPulse_phase (s : State) (n : Nat) (hn : n < 48) (hr : rescanning s = true) :
    ((s.locker n).phase = .absent ∨ (s.locker n).phase = .service →
      ((startPulse s).locker n).phase = (s.locker n).phase) ∧
    ((s.locker n).phase = .offline →
      ((startPulse s).locker n).phase = .offline ∧ ((startPulse s).locker n).resume = none) := by
  have record (h : (s.locker n).phase ∉ [.loading, .pickup, .clearing]) :
      ((pulsed s).locker n).phase = (s.locker n).phase := by
    have ended := foldl_bankEnd_settled (endedEntries s) (pulseBase s) n h
    rw [pulsed_locker s n hn, afterBankReset_eq, confirmedEnded, ended]
    rfl
  rw [startPulse_locker s n hn, if_pos hr]
  obtain ⟨kept, moved⟩ := asideRecord_phase ((pulsed s).locker n)
  refine ⟨fun h => ?_, fun h => ?_⟩
  · have same := record (by rcases h with h | h <;> simp [h])
    rw [kept (by rwa [same]), same]
  · have same := record (by simp [h])
    exact moved (by simp [same, h]) (by simp [same, h])

theorem cutProbing_none (s : State) (h : s.ltu.probing = none) : cutProbing s = none := by
  unfold cutProbing
  split
  · rfl
  · exact h

theorem startPulse_begun (s v : State) (tag : Nat) (h : RescanBegun tag s v) : RescanBegun tag s (startPulse v) := by
  obtain ⟨discovery, cursor, probing, answered, cycle, gap, op, records, lists, orders, queue⟩ := h
  have rescan := rescanning_true _ discovery
  have ltu := startPulse_ltu v
  have bbm := startPulse_bbm v
  have oru := startPulse_oru v
  refine ⟨by rw [ltu]; exact discovery, by rw [ltu]; exact cursor, by rw [ltu]; exact cutProbing_none v probing,
    by rw [ltu]; exact answered, by rw [bbm]; exact if_pos cycle, by rw [bbm]; rfl,
    by rw [startPulse_txu, pulsed_longOp]; exact op, fun n hn => ?_,
    fun c => startPulse_freeList_empty v c rescan fun c n hm => by simp [lists c] at hm,
    by rw [oru]; exact orders, by rw [oru]; exact queue⟩
  obtain ⟨kept, moved⟩ := startPulse_phase v n hn rescan
  obtain ⟨same, aside⟩ := records n hn
  refine ⟨fun h => (kept ((same h).symm ▸ h)).trans (same h), fun ha hs => moved (aside ha hs).1⟩

theorem RescanBegun.congr {a v w : State} {tag : Nat} (h : RescanBegun tag a v) (link : OnlyLink s a) (sent : OnlyLink v w) :
    RescanBegun tag s w := by
  simpa only [RescanBegun, link.locker, link.oru, sent.ltu, sent.bbm, sent.txu, sent.oru, sent.locker, sent.freeList]
    using h

/-! ### The start of a pulse, whole -/

/-- What the start of a pulse does (R12, R109, R114, R122, R129, R159, R188, R196). -/
theorem startPulse_byRule (s : State) :
    let u := startPulse s
    let panel := endedReleases s
    u.bbm = { busAtPulse s.bbm with exchange := none } ∧
    u.txu = (pulsed s).txu ∧ (∀ e ∈ u.txu.table, e.stage = .onBus) ∧ (∀ x ∈ u.txu.posted, x.stage = .onBus) ∧
    u.lki.answerQ = s.lki.answerQ ++ (endedEntries s).filterMap resetAnswer ∧
    u.lki.placesHeld = s.lki.placesHeld ∧ u.ports = s.ports ++ panel.map (fun _ => .display .busy) ∧
    u.pni = { s.pni with releases := s.pni.releases.filter fun r => panel.all fun e => e.locker != r.1 } ∧
    ((panel.map Entry.locker).Nodup → s.lki.reportQ.length + panel.length ≤ 32 →
      u.lki.reportQ = s.lki.reportQ ++ if s.params.reportMask.testBit 3 then panel.map (resetReport s) else []) ∧
    u.ltu = { s.ltu with lockers := u.ltu.lockers, probing := cutProbing s } ∧
    u.sst = s.sst ∧ u.hta = s.hta ∧ u.hau = s.hau := by
  have waiting := startPulse_noneWaiting s
  have frame := startPulse_frame s
  have onBus (x : Stage) (h : x ≠ .waiting) : x = .onBus := by cases x <;> trivial
  obtain ⟨hta, hau⟩ := pulsed_units s
  refine ⟨startPulse_bbm s, startPulse_txu s, fun e he => onBus _ (waiting.1 e he), fun p hp => onBus _ (waiting.2 p hp),
    ?_, ?_, ?_, ?_, fun once room => ?_, startPulse_ltu s, ?_, ?_, ?_⟩
  · rw [startPulse_lki, pulsed_answerQ]
  · rw [startPulse_lki, pulsed_placesHeld]
  · exact (congrArg State.ports frame).trans (pulsed_ports s)
  · exact (congrArg State.pni frame).trans (pulsed_pni s)
  · rw [startPulse_lki, pulsed_reportQ s once room]
  · exact (congrArg State.sst frame).trans (pulsed_sst s)
  · exact (congrArg State.hta frame).trans hta
  · exact (congrArg State.hau frame).trans hau

/-- A RESCAN with or without an exchange in flight (R188, R194). -/
theorem rescanStarted (tag : Nat) (s : State) (lists : ListsFree s.accepted) (hl : s.bbm.line = .idle) :
    let v := setAsideAll (rescanTaken tag s.accepted)
    let t := chooseTransmit (if s.bbm.exchange = none then startPulse v else v)
    RescanBegun tag s t ∧ (s.bbm.exchange = none → t.bbm.line = .pulse) ∧
      ∀ x, s.bbm.exchange = some x → t.bbm.line = .idle ∧ t.bbm.exchange = some x := by
  have link := accepted_onlyLink s
  have begun := rescanSetAside_begun s.accepted tag lists
  have bbm : (setAsideAll (rescanTaken tag s.accepted)).bbm = { s.bbm with cycle := .stopped, pollGap := none } := by
    rw [rescanSetAside, link.bbm]
  dsimp only
  by_cases hx : s.bbm.exchange = none
  · rw [if_pos hx]
    refine ⟨(startPulse_begun _ _ tag begun).congr link (chooseTransmit_onlyLink _), fun _ => ?_, by simp [hx]⟩
    rw [(chooseTransmit_onlyLink _).bbm, startPulse_bbm]
    rfl
  · rw [if_neg hx]
    refine ⟨begun.congr link (chooseTransmit_onlyLink _), fun h => absurd h hx, fun x h => ?_⟩
    rw [(chooseTransmit_onlyLink _).bbm, bbm]
    exact ⟨hl, h⟩

/-- Settles O45: the pulse ends the commands one by one, then resets the records, then sets a RESCAN's bank aside. -/
theorem resetRequestsByRule : Obligations.ResetRequestsByRule := by
  unfold Obligations.ResetRequestsByRule
  refine ⟨fun s => ?_, fun tag s hp hop ht hd hl => ?_, fun x once window => waitingInOrder_sorted x once window⟩
  · obtain ⟨bbm, txu, table, posted, answers, places, ports, pni, reports, ltu, sst, hta, hau⟩ := startPulse_byRule s
    refine ⟨bbm, txu.trans (pulsed_txu s), table, posted, answers, places, ports, pni, reports, ltu, fun n hn => ?_,
      startPulse_oru s, fun c hr => startPulse_freeList_kept s c hr,
      fun c hr exact' => startPulse_freeList_empty s c hr (FreeListsExact.listsFree exact'), sst, hta, hau⟩
    obtain ⟨alone, single⟩ := startPulse_record s n hn
    exact ⟨fun h => (alone h).trans (resetRecord_eq s _), fun e h => (single e h).trans (resetRecord_eq s _)⟩
  · have link := accepted_onlyLink s
    have served (i : Instr) (hi : IsRequest i) := exec_served i s hi hp
    have hop' : s.accepted.txu.longOp = none := by rw [link.txu]; exact hop
    have ht' : ∀ e ∈ s.accepted.txu.table, e.tag ≠ some tag := by rw [link.txu]; exact ht
    have hl' : s.accepted.bbm.line = .idle := by rw [link.bbm]; exact hl
    have placed : anyPlaced s.accepted = anyPlaced s := by simp only [anyPlaced, link.oru]
    have listsFree (h : s.FreeListsExact) : ListsFree s.accepted := by
      simpa only [ListsFree, link.freeList, link.locker] using FreeListsExact.listsFree h
    have taken (hno : anyPlaced s = false) := serveRescan_taken tag s.accepted hop' ht' hl' (placed.trans hno)
    rw [link.bbm] at taken
    refine ⟨?_, fun hyes => ?_, fun hno => ?_, fun hno exact' => ?_⟩
    · rw [served (.bankReset tag) rfl, serveRequest, serveBankReset_taken tag s.accepted hop' ht', link.txu]
    · rw [served (.rescan tag) rfl, serveRequest, serveRescan_placed tag s.accepted hop' ht' (placed.trans hyes)]
    · refine ⟨setAsideAll (rescanTaken tag s.accepted), ?_, ?_, fun n hn => ?_, fun exact' => ?_⟩
      · rw [served (.rescan tag) rfl, serveRequest, taken hno]
      · rw [← link.txu, ← link.bbm, ← link.oru]
        exact rescanSetAside s.accepted tag
      · rw [rescanSetAside_locker _ tag n hn, link.locker]
        rfl
      · exact rescanSetAside_freeList _ tag (listsFree exact')
    · obtain ⟨⟨discovery, cursor, probing, answered, cycle, gap, op, records, lists, orders, queue⟩, pulse, waits⟩ :=
        rescanStarted tag s (listsFree exact') hl
      exact ⟨_, by rw [served (.rescan tag) rfl, serveRequest, taken hno], discovery, cursor, probing, answered, cycle, gap,
        op, records, lists, orders, queue, pulse, waits⟩

end Sys2Proof.Proofs

/-! ## The frame start up to the tiers (R71 to R78, R83 to R85) -/

namespace Sys2Proof.Proofs

open Sys2Proof.Machine

variable {s t u : State}

/-! ### Step 1: the feeds (R72) -/

/-- The budget and shed state of a feed, latched for the frame (R72). -/
def feedLatched (f : Nat) (s : State) : State :=
  let now := vget s.shedLines f false || (s.feedEntry f).force
  { s with hta := { s.hta with
    budgets := vset s.hta.budgets f (if now then (s.feedEntry f).shed else (s.feedEntry f).normal)
    shed := vset s.hta.shed f now } }

theorem latchFeed_eq (f : Nat) (s : State) :
    let x := s.feedEntry f
    let line := vget s.shedLines f false
    let now := line || x.force
    let b := if now then x.shed else x.normal
    latchFeed f s =
      if now = true ∧ s.isShed f = false then
        submit .shedOn [.b1 f, .b2 b, .b1 (if line && x.force then 2 else if x.force then 1 else 0)] (feedLatched f s)
      else if now = false ∧ s.isShed f = true then submit .shedOff [.b1 f, .b2 b] (feedLatched f s)
      else feedLatched f s := by
  dsimp only
  have turnedOn (x y : Bool) : (x = true ∧ y = false) = ((x && !y) = true) := by cases x <;> cases y <;> simp
  have turnedOff (x y : Bool) : (x = false ∧ y = true) = ((y && !x) = true) := by cases x <;> cases y <;> simp
  simp only [turnedOn, turnedOff]
  rfl

theorem latchFeed_params (f : Nat) (s : State) : (latchFeed f s).params = s.params := by
  have latched : (feedLatched f s).params = s.params := rfl
  rw [latchFeed_eq]
  split
  · rw [submit_params, latched]
  · split
    · rw [submit_params, latched]
    · exact latched

theorem latchFeeds_params (s : State) : (latchFeeds s).params = s.params := by
  have folded (fs : List Nat) (s : State) : (fs.foldl (fun s f => latchFeed f s) s).params = s.params := by
    induction fs generalizing s with
    | nil => rfl
    | cons f rest ih => rw [List.foldl_cons, ih, latchFeed_params]
  exact folded _ s

/-! ### Steps 2 and 3: the purges (R83 to R85) -/

theorem purgeDone_other (n : Nat) (s : State) (h : (s.locker n).phase ≠ .purging) : purgeDone n s = s := if_neg h

theorem redirect_free (l : Locker) : redirect l .free = if l.heaterExcluded = true then .service else .free := by
  simp [redirect]

theorem purgeDone_excluded (n : Nat) (s : State) (hn : n < 48) (h : (s.locker n).phase = .purging)
    (hx : (s.locker n).heaterExcluded = true) :
    purgeDone n s = submit .purgeDone [.b1 n] (moveTo .service n s) := by
  have phase : ((submit .purgeDone [.b1 n] (moveTo .service n s)).locker n).phase = .service := by
    rw [submit_locker, moveTo_locker_same _ _ _ hn, enter_phase]
  rw [purgeDone, if_pos h, moveToUnlessExcluded, redirect_free, if_pos hx, announceFree,
    if_neg (by rw [phase]; decide)]

theorem purgeDone_free (n : Nat) (s : State) (hn : n < 48) (h : (s.locker n).phase = .purging)
    (hx : (s.locker n).heaterExcluded = false) :
    purgeDone n s = becameFree n (submit .purgeDone [.b1 n] (moveTo .free n s)) := by
  have phase : ((submit .purgeDone [.b1 n] (moveTo .free n s)).locker n).phase = .free := by
    rw [submit_locker, moveTo_locker_same _ _ _ hn, enter_phase]
  rw [purgeDone, if_pos h, moveToUnlessExcluded, redirect_free, if_neg (by simp [hx]), announceFree, if_pos phase]

/-- What a purge does at a shed of its feed, by its record (R84, R85). -/
theorem suspendOrResume_cases (n : Nat) (s : State) :
    let l := s.locker n
    let purge : List Field := [.b1 n, .b1 l.feed, .b2 (l.purgeProgress.getD 0)]
    (l.phase ≠ .purging → suspendOrResume n s = s) ∧
    (l.phase = .purging → s.isShed l.feed = true → l.purgeSuspended ≠ some true →
      suspendOrResume n s = submit .purgeSuspended purge (s.setLocker n { l with purgeSuspended := some true })) ∧
    (l.phase = .purging → s.isShed l.feed = false → l.purgeSuspended = some true →
      suspendOrResume n s = submit .purgeResumed purge (s.setLocker n { l with purgeSuspended := some false })) ∧
    (l.phase = .purging → (s.isShed l.feed = true ↔ l.purgeSuspended = some true) → suspendOrResume n s = s) := by
  dsimp only
  refine ⟨fun h => ?_, fun h hs hp => ?_, fun h hs hp => ?_, fun h hiff => ?_⟩ <;> unfold suspendOrResume <;> dsimp only
  · rw [if_pos h]
  · rw [if_neg (not_not.mpr h), if_pos ⟨hs, hp⟩]
    rfl
  · rw [if_neg (not_not.mpr h), if_neg (by simp [hs]), if_pos ⟨hs, hp⟩]
    rfl
  · rw [if_neg (not_not.mpr h)]
    by_cases hs : s.isShed (s.locker n).feed = true
    · rw [if_neg fun k => k.2 (hiff.mp hs), if_neg (by simp [hs])]
    · rw [if_neg (by simp [hs]), if_neg fun k => hs (hiff.mpr k.2)]

/-! ### Step 4: overheat (R74) -/

/-- The applicable limit, with the phases as a list (R74). -/
theorem overheatLimit_eq (s : State) (l : Locker) :
    overheatLimit s l =
      if l.phase ∈ [.reserved, .holding, .pickup] then
        (l.orderRef.bind s.order?).map fun o => (s.profile o.profile).overheat
      else if l.phase = .purging then some s.params.purgeLimit
      else none := by
  unfold overheatLimit heldOrder
  cases l.phase <;> simp

theorem examineInhibit_unlimited (n : Nat) (s : State)
    (h : overheatLimit s (s.locker n) = none ∨ freshSample s (s.locker n) = none) : examineInhibit n s = s := by
  unfold examineInhibit
  dsimp only
  rcases h with h | h <;> rw [h]
  cases overheatLimit s (s.locker n) <;> rfl

theorem examineInhibit_sampled (n : Nat) (s : State) (lim temp : Int)
    (hl : overheatLimit s (s.locker n) = some lim) (hs : freshSample s (s.locker n) = some temp) :
    let l := s.locker n
    let fields : List Field := [.b1 n, .signed temp, .signed lim, .orderId l.orderRef]
    examineInhibit n s =
      if l.overheatInhibit = false ∧ lim ≤ temp then
        submit .overheat fields (s.setLocker n { l with overheatInhibit := true })
      else if l.overheatInhibit = true ∧ temp ≤ lim - 50 then
        submit .overheatClear fields (s.setLocker n { l with overheatInhibit := false })
      else s := by
  unfold examineInhibit
  dsimp only
  rw [hl, hs]
  rfl

/-! ### Step 5: the demand (R75 to R77) -/

theorem demandOf_barred (done : List Nat) (s : State) (n : Nat)
    (h : (s.locker n).overheatInhibit = true ∨ (s.locker n).heaterExcluded = true ∨ n ∈ done) : demandOf done s n = 0 := by
  unfold demandOf
  dsimp only
  exact if_pos (by rcases h with h | h | h <;> simp [h])

section

variable {done : List Nat} {n : Nat}

theorem demandOf_unbarred (hi : (s.locker n).overheatInhibit = false) (hx : (s.locker n).heaterExcluded = false)
    (hd : n ∉ done) :
    (∀ o, (s.locker n).phase ∈ [.reserved, .holding, .pickup] → heldOrder s (s.locker n) = some o →
      demandOf done s n =
        if o.condemned.isSome then 0 else profileDemand (s.profile o.profile) (freshSample s (s.locker n))) ∧
    ((s.locker n).phase = .purging → demandOf done s n = if (s.locker n).purgeSuspended = some true then 0 else 20) ∧
    ((s.locker n).phase ∉ [.reserved, .holding, .pickup, .purging] → demandOf done s n = 0) := by
  have barred : ¬ (((s.locker n).overheatInhibit || (s.locker n).heaterExcluded || done.contains n) = true) := by
    simp [hi, hx, hd]
  unfold demandOf
  dsimp only
  rw [if_neg barred]
  refine ⟨fun o hp ho => ?_, fun hp => ?_, fun hp => ?_⟩
  · simp only [List.mem_cons, List.not_mem_nil, or_false] at hp
    rcases hp with hp | hp | hp <;> rw [hp, ho]
  · rw [hp]
  · generalize (s.locker n).phase = p at hp
    cases p <;> simp at hp ⊢

end

/-! ### Step 6: the tiers (R78) -/

theorem tierOf_held (s : State) (n : Nat) (o : Order) (hp : (s.locker n).phase = .holding ∨ (s.locker n).phase = .pickup)
    (ho : heldOrder s (s.locker n) = some o) :
    (freshSample s (s.locker n) = none → tierOf s n = 1) ∧
      ∀ temp, freshSample s (s.locker n) = some temp →
        tierOf s n = if temp < (s.profile o.profile).floor then 1 else 2 := by
  unfold tierOf
  dsimp only
  refine ⟨fun h => ?_, fun temp h => ?_⟩ <;> rcases hp with hp | hp <;> rw [hp, ho, h]

theorem tierOf_reserved (s : State) (n : Nat) (h : (s.locker n).phase = .reserved) : tierOf s n = 2 := by
  unfold tierOf
  dsimp only
  rw [h]

theorem tierOf_purging (s : State) (n : Nat) (h : (s.locker n).phase = .purging) : tierOf s n = 3 := by
  unfold tierOf
  dsimp only
  rw [h]

end Sys2Proof.Proofs

/-! ## The frame start from the fill on: the heat map, the purge credit, STARVED (R71, R79 to R82, R86 to R88) -/

namespace Sys2Proof.Proofs

open Sys2Proof.Machine

variable {s t u : State}

/-! ### Each locker stands once in the grant order (R78, R79) -/

theorem mem_rotated (p : Nat) (ns : List Nat) (n : Nat) : n ∈ rotated p ns ↔ n ∈ ns := by
  simp only [rotated, List.mem_append, List.mem_filter, decide_eq_true_eq]
  constructor
  · rintro (h | h) <;> exact h.1
  · intro h
    rcases Nat.lt_or_ge n p with k | k
    · exact .inr ⟨h, k⟩
    · exact .inl ⟨h, k⟩

theorem rotated_nodup (p : Nat) (ns : List Nat) (h : ns.Nodup) : (rotated p ns).Nodup := by
  refine List.nodup_append.mpr ⟨h.filter _, h.filter _, fun n hn m hm hnm => ?_⟩
  simp only [List.mem_filter, decide_eq_true_eq] at hn hm
  omega

theorem mem_tierOrder (s : State) (demands : List Nat) (f tier n : Nat) (h : n ∈ tierOrder s demands f tier) :
    (s.locker n).feed = f ∧ tierOf s n = tier := by
  simp only [tierOrder, mem_rotated, tierMembers, List.mem_filter, Bool.and_eq_true, decide_eq_true_eq] at h
  exact ⟨h.2.1.2, h.2.2⟩

theorem tierOrder_nodup (s : State) (demands : List Nat) (f tier : Nat) : (tierOrder s demands f tier).Nodup :=
  rotated_nodup _ _ (List.nodup_range.filter _)

theorem mem_grantOrder_feed (s : State) (demands : List Nat) (f n : Nat) (h : n ∈ grantOrder s demands f) :
    (s.locker n).feed = f := by
  simp only [grantOrder, List.mem_append] at h
  rcases h with (h | h) | h <;> exact (mem_tierOrder _ _ _ _ _ h).1

theorem grantOrder_nodup (s : State) (demands : List Nat) (f : Nat) : (grantOrder s demands f).Nodup := by
  have apart (i j n m : Nat) (hij : i ≠ j) (hn : n ∈ tierOrder s demands f i) (hm : m ∈ tierOrder s demands f j) :
      n ≠ m := by
    rintro rfl
    exact hij ((mem_tierOrder _ _ _ _ _ hn).2.symm.trans (mem_tierOrder _ _ _ _ _ hm).2)
  unfold grantOrder
  refine List.nodup_append.mpr ⟨List.nodup_append.mpr ⟨tierOrder_nodup _ _ _ _, tierOrder_nodup _ _ _ _,
    fun n hn m hm => apart 1 2 n m (by decide) hn hm⟩, tierOrder_nodup _ _ _ _, fun n hn m hm => ?_⟩
  rcases List.mem_append.mp hn with hn | hn
  · exact apart 1 3 n m (by decide) hn hm
  · exact apart 2 3 n m (by decide) hn hm

/-! ### The grants and the heat map (R80, R87) -/

theorem foldl_fillLocker_keys (s : State) (demands : List Nat) (b : Nat) (ns : List Nat) (x : Fill) :
    (ns.foldl (fillLocker s demands b) x).grants.map Prod.fst = x.grants.map Prod.fst ++ ns := by
  induction ns generalizing x with
  | nil => simp
  | cons n rest ih =>
    rw [List.foldl_cons, ih]
    simp [fillLocker]

theorem fillFeed_keys (s : State) (demands : List Nat) (f : Nat) :
    (fillFeed s demands f).grants.map Prod.fst = grantOrder s demands f := foldl_fillLocker_keys _ _ _ _ _

/-- No locker has two grants. -/
theorem allGrants_nodup (s : State) (demands : List Nat) : ((allGrants s demands).map Prod.fst).Nodup := by
  rw [allGrants, List.map_flatMap]
  simp only [fillFeed_keys]
  refine List.nodup_flatMap.mpr ⟨fun f _ => grantOrder_nodup _ _ _, ?_⟩
  refine List.Pairwise.imp (fun {f g} (hfg : f ≠ g) n hn hm => ?_) (by decide : [0, 1, 2, 3].Pairwise (· ≠ ·))
  exact hfg ((mem_grantOrder_feed _ _ _ _ hn).symm.trans (mem_grantOrder_feed _ _ _ _ hm))

/-- With no two grants of one locker, the first is the only one. -/
theorem firstGrant_contains (gs : List (Nat × List Nat)) (h : (gs.map Prod.fst).Nodup) (n k : Nat) :
    (((gs.find? fun g => g.1 == n).map Prod.snd).getD []).contains k = gs.any fun g => g.1 == n && g.2.contains k := by
  induction gs with
  | nil => rfl
  | cons g rest ih =>
    rw [List.map_cons, List.nodup_cons] at h
    obtain ⟨only, h⟩ := h
    rw [List.find?_cons, List.any_cons]
    by_cases hg : g.1 = n
    · have others : (rest.any fun g => g.1 == n && g.2.contains k) = false := by
        refine List.any_eq_false.mpr fun x hx => ?_
        have hne : x.1 ≠ n := fun same => only (hg ▸ same ▸ List.mem_map_of_mem hx)
        simp [hne]
      have found : (g.1 == n) = true := by simpa using hg
      rw [found, others, Bool.true_and, Bool.or_false]
      rfl
    · have off : (g.1 == n) = false := by simpa using hg
      rw [off, Bool.false_and, Bool.false_or]
      exact ih h

theorem mapEntry_eq (s : State) (demands : List Nat) (n : Nat) :
    mapEntry (allGrants s demands) n =
      (List.range 20).filter fun k => [0, 1, 2, 3].any fun f =>
        (fillFeed s demands f).grants.any fun g => g.1 == n && g.2.contains k := by
  refine List.filter_congr fun k _ => ?_
  rw [firstGrant_contains _ (allGrants_nodup s demands), allGrants, List.any_flatMap]

theorem fillSlots_step (p b k d cur : Nat) (loads got : List Nat) :
    fillSlots p b 0 d cur loads got = (cur, loads, got) ∧ fillSlots p b k 0 cur loads got = (cur, loads, got) ∧
    fillSlots p b (k + 1) (d + 1) cur loads got =
      if loads.getD cur 0 + p ≤ b then
        fillSlots p b k d ((cur + 1) % 20) (loads.set cur (loads.getD cur 0 + p)) (got ++ [cur])
      else fillSlots p b k (d + 1) ((cur + 1) % 20) loads got := by
  refine ⟨rfl, by cases k <;> rfl, ?_⟩
  rw [fillSlots, if_neg (Nat.succ_ne_zero d), Nat.add_sub_cancel]

/-! ### The credit (R82, R86) -/

section

variable (demands : List Nat) (map : Vector (List Nat) 48) (tiers : List Nat)

/-- A record after its credit. -/
def credited (purgeSlots n : Nat) (l : Locker) : Locker :=
  creditLocker purgeSlots (demands.getD n 0) (vget map n []).length
    (decide (0 < demands.getD n 0) && decide (tiers.getD n 0 = 1)) l

theorem creditAndStarve_eq (n : Nat) (s : State) :
    creditAndStarve demands map tiers n s =
      let l := s.locker n
      let l' := credited demands map tiers s.params.purgeSlots n l
      if l.starved = 4 ∧ l'.starved = 5 then
        submit .starved [.b1 n, .b1 l.feed, .orderId l.orderRef, .b1 (demands.getD n 0), .b1 (vget map n []).length]
          (s.setLocker n l')
      else s.setLocker n l' := rfl

theorem creditAndStarve_ltu (n : Nat) (s : State) :
    (creditAndStarve demands map tiers n s).ltu =
      (s.setLocker n (credited demands map tiers s.params.purgeSlots n (s.locker n))).ltu := by
  rw [creditAndStarve_eq]
  dsimp only
  split
  · rw [submit_ltu]
  · rfl

theorem creditAndStarve_locker (n m : Nat) (s : State) (hn : n < 48) :
    (creditAndStarve demands map tiers n s).locker m =
      if m = n then credited demands map tiers s.params.purgeSlots n (s.locker n) else s.locker m := by
  have same : (creditAndStarve demands map tiers n s).locker m =
      (s.setLocker n (credited demands map tiers s.params.purgeSlots n (s.locker n))).locker m := by
    simp only [State.locker, creditAndStarve_ltu]
  rw [same]
  split
  case isTrue h => rw [h, State.setLocker_same _ _ _ hn]
  case isFalse h => rw [State.setLocker_ne _ _ _ _ h]

theorem creditAndStarve_oru (n : Nat) (s : State) : (creditAndStarve demands map tiers n s).oru = s.oru := by
  rw [creditAndStarve_eq]
  dsimp only
  split
  · rw [submit_oru, State.setLocker_oru]
  · rfl

theorem foldl_creditAndStarve_oru (ns : List Nat) (s : State) :
    (ns.foldl (fun s n => creditAndStarve demands map tiers n s) s).oru = s.oru := by
  induction ns generalizing s with
  | nil => rfl
  | cons n rest ih => rw [List.foldl_cons, ih, creditAndStarve_oru]

theorem creditAndStarve_params (n : Nat) (s : State) : (creditAndStarve demands map tiers n s).params = s.params :=
  (creditAndStarve_records demands map tiers n s).params

theorem foldl_creditAndStarve_locker (ns : List Nat) (s : State) (once : ns.Nodup) (hns : ∀ n ∈ ns, n < 48) (m : Nat) :
    (ns.foldl (fun s n => creditAndStarve demands map tiers n s) s).locker m =
      if m ∈ ns then credited demands map tiers s.params.purgeSlots m (s.locker m) else s.locker m := by
  induction ns generalizing s with
  | nil => rfl
  | cons n rest ih =>
    obtain ⟨hn, once⟩ := List.nodup_cons.mp once
    rw [List.foldl_cons, ih _ once fun k hk => hns k (by simp [hk]), creditAndStarve_params,
      creditAndStarve_locker _ _ _ _ _ _ (hns n (by simp))]
    by_cases hm : m = n
    · subst hm
      simp [hn]
    · simp [hm]

/-- Whether a locker's starved count comes to 5 at this frame. -/
def starves (s : State) (n : Nat) : Bool :=
  decide ((s.locker n).starved = 4) &&
    decide ((credited demands map tiers s.params.purgeSlots n (s.locker n)).starved = 5)

def starvedReport (s : State) (n : Nat) : Report :=
  ⟨.starved, s.uptime, 0, [.b1 n, .b1 (s.locker n).feed, .orderId (s.locker n).orderRef, .b1 (demands.getD n 0),
    .b1 (vget map n []).length]⟩

/-- A thermal report joins the queue while there is room (R142, R143). -/
theorem submit_starved_reportQ (fs : List Field) (s : State) (on : s.params.reportMask.testBit 1 = true)
    (room : s.lki.reportQ.length ≤ 32) :
    (submit .starved fs s).lki.reportQ = (s.lki.reportQ ++ [(⟨.starved, s.uptime, 0, fs⟩ : Report)]).take 32 := by
  have group : groupEnabled s.params ReportKind.starved.group = true := on
  by_cases hr : s.lki.reportQ.length < 32
  · rw [submit_room _ _ _ group hr, List.take_of_length_le (by simp; omega)]
    rfl
  · have full : s.lki.reportQ.length = 32 := by omega
    have dropped : (submit .starved fs s).lki.reportQ = s.lki.reportQ := by
      unfold submit submitTagged
      rw [if_pos group, enqueueReport, if_neg hr]
      rfl
    rw [dropped, List.take_append_of_le_length (by omega), List.take_of_length_le (by omega)]

theorem creditAndStarve_reportQ (n : Nat) (s : State) (on : s.params.reportMask.testBit 1 = true)
    (room : s.lki.reportQ.length ≤ 32) :
    (creditAndStarve demands map tiers n s).lki.reportQ =
      (s.lki.reportQ ++ if starves demands map tiers s n then [starvedReport demands map s n] else []).take 32 := by
  rw [creditAndStarve_eq]
  dsimp only
  by_cases h : (s.locker n).starved = 4 ∧ (credited demands map tiers s.params.purgeSlots n (s.locker n)).starved = 5
  · have yes : starves demands map tiers s n = true := by simp [starves, h]
    rw [if_pos h, if_pos yes]
    exact submit_starved_reportQ _ (s.setLocker n _) on room
  · have no : starves demands map tiers s n = false := by simpa [starves] using h
    rw [if_neg h, no, if_neg (by simp), List.append_nil, List.take_of_length_le room]
    rfl

theorem take_append_take {α : Type} (k : Nat) (xs ys : List α) : (xs.take k ++ ys).take k = (xs ++ ys).take k := by
  simp only [List.take_append, List.take_take, Nat.min_self, List.length_take]
  congr 2
  omega

/-- The lockers that starve are reported in increasing index, as far as the queue has room (R88). -/
theorem foldl_creditAndStarve_reportQ (ns : List Nat) (s : State) (once : ns.Nodup) (hns : ∀ n ∈ ns, n < 48)
    (on : s.params.reportMask.testBit 1 = true) (room : s.lki.reportQ.length ≤ 32) :
    (ns.foldl (fun s n => creditAndStarve demands map tiers n s) s).lki.reportQ =
      (s.lki.reportQ ++ (ns.filter (starves demands map tiers s)).map (starvedReport demands map s)).take 32 := by
  induction ns generalizing s with
  | nil => simp [List.take_of_length_le room]
  | cons n rest ih =>
    obtain ⟨hn, once⟩ := List.nodup_cons.mp once
    have frame := creditAndStarve_records demands map tiers n s
    have first := creditAndStarve_reportQ demands map tiers n s on room
    have others (m : Nat) (hm : m ∈ rest) : (creditAndStarve demands map tiers n s).locker m = s.locker m := by
      rw [creditAndStarve_locker _ _ _ _ _ _ (hns n (by simp)), if_neg fun h : m = n => hn (h ▸ hm)]
    have later : (rest.filter (starves demands map tiers (creditAndStarve demands map tiers n s))).map
        (starvedReport demands map (creditAndStarve demands map tiers n s)) =
        (rest.filter (starves demands map tiers s)).map (starvedReport demands map s) := by
      have same : rest.filter (starves demands map tiers (creditAndStarve demands map tiers n s)) =
          rest.filter (starves demands map tiers s) :=
        List.filter_congr fun m hm => by simp only [starves, others m hm, frame.params]
      rw [same]
      refine List.map_congr_left fun m hm => ?_
      simp only [starvedReport, others m (List.mem_of_mem_filter hm), frame.uptime]
    rw [List.foldl_cons, ih _ once (fun k hk => hns k (by simp [hk])) (by rw [frame.params]; exact on)
      (by rw [first]; simp), later, first, take_append_take, List.append_assoc]
    by_cases h : starves demands map tiers s n = true
    · simp [h]
    · simp [h]

end

end Sys2Proof.Proofs

/-! ## The frame start by its steps (R71) -/

namespace Sys2Proof.Proofs

open Sys2Proof.Machine

variable {s t u : State}

/-! ### Steps 6 to 8 as one credit of every locker (R79 to R82, R86 to R89) -/

/-- The heat map of the frame (R87). -/
def frameMap (demands : List Nat) (s : State) : Vector (List Nat) 48 := vinit 48 (mapEntry (allGrants s demands))

/-- The state with the frame's map and pointers, before the credit (R79, R87, R89). -/
def mapped (demands : List Nat) (s : State) : State :=
  { s with
    hta := { s.hta with heatMap := frameMap demands s, rotation := vinit 12 (rotationAfter s demands) }
    bbm := { s.bbm with mapState := .waiting } }

theorem grantFrame_eq (demands : List Nat) (s : State) :
    grantFrame demands s = Config.allLockers.foldl
      (fun u n => creditAndStarve demands (frameMap demands s) (Config.allLockers.map (tierOf s)) n u)
      (mapped demands s) := rfl

theorem grantFrame_records (demands : List Nat) (s : State) : RecordsOnly (mapped demands s) (grantFrame demands s) :=
  RecordsOnly.foldl _ (fun u n => creditAndStarve_records _ _ _ n u) _ _

theorem mem_allLockers (n : Nat) : n ∈ Config.allLockers ↔ n < 48 := List.mem_range

theorem allLockers_nodup : Config.allLockers.Nodup := List.nodup_range

theorem allLockers_map_getD (f : Nat → Nat) (n : Nat) (hn : n < 48) : (Config.allLockers.map f).getD n 0 = f n := by
  simp [Config.allLockers, List.getD_eq_getElem?_getD, hn]

theorem frameMap_get (demands : List Nat) (s : State) (n : Nat) (hn : n < 48) :
    vget (frameMap demands s) n [] = mapEntry (allGrants s demands) n := vget_vinit _ _ _ _ hn

theorem grantFrame_heatMap (demands : List Nat) (s : State) (n : Nat) :
    vget (grantFrame demands s).hta.heatMap n [] = vget (frameMap demands s) n [] := by
  rw [(grantFrame_records demands s).hta]
  rfl

/-- A pointer moves behind the first of its tier (R79). -/
theorem grantFrame_rotation (demands : List Nat) (s : State) (f tier : Nat) (hf : f < 4) (ht : 1 ≤ tier) (ht' : tier ≤ 3) :
    vget (grantFrame demands s).hta.rotation (3 * f + tier - 1) 0 = rotationAfter s demands (3 * f + tier - 1) ∧
      (3 * f + tier - 1) / 3 = f ∧ (3 * f + tier - 1) % 3 + 1 = tier := by
  rw [(grantFrame_records demands s).hta]
  exact ⟨vget_vinit _ _ _ _ (by omega), by omega, by omega⟩

theorem rotationAfter_eq (demands : List Nat) (s : State) (f tier i : Nat) (hf : i / 3 = f) (ht : i % 3 + 1 = tier) :
    (∀ n rest, tierOrder s demands f tier = n :: rest → rotationAfter s demands i = (n + 1) % 48) ∧
      (tierOrder s demands f tier = [] → rotationAfter s demands i = rotationOf s f tier) := by
  subst hf ht
  unfold rotationAfter
  dsimp only
  refine ⟨fun n rest h => ?_, fun h => ?_⟩ <;> rw [h]

/-- The record of a locker after the frame start (R82, R86, R87). -/
theorem grantFrame_locker (demands : List Nat) (s : State) (n : Nat) (hn : n < 48) :
    (grantFrame demands s).locker n =
      credited demands (frameMap demands s) (Config.allLockers.map (tierOf s)) s.params.purgeSlots n (s.locker n) := by
  rw [grantFrame_eq, foldl_creditAndStarve_locker _ _ _ _ _ allLockers_nodup fun m hm => (mem_allLockers m).mp hm,
    if_pos ((mem_allLockers n).mpr hn)]
  rfl

theorem credited_eq (demands : List Nat) (map : Vector (List Nat) 48) (s : State) (q n : Nat) (hn : n < 48) (l : Locker) :
    credited demands map (Config.allLockers.map (tierOf s)) q n l =
      let d := demands.getD n 0
      let slots := vget map n []
      let short : Bool := decide (0 < d) && decide (tierOf s n = 1) && decide (slots.length < d)
      { l with
        purgeProgress :=
          if l.phase = .purging then some (min (l.purgeProgress.getD 0 + slots.length) q) else l.purgeProgress
        starved := if short then min (l.starved + 1) 5 else 0
        demand := d, granted := slots.length } := by
  rw [credited, creditLocker, allLockers_map_getD _ _ hn]
  rfl

/-- STARVED in increasing index, as far as the queue has room (R88). -/
theorem grantFrame_reportQ (demands : List Nat) (s : State) (on : s.params.reportMask.testBit 1 = true)
    (empty : s.lki.reportQ = []) :
    (grantFrame demands s).lki.reportQ =
      (((List.range 48).filter fun n =>
          decide ((s.locker n).starved = 4) && decide (((grantFrame demands s).locker n).starved = 5)).take 32).map fun n =>
        ⟨.starved, s.uptime, 0, [.b1 n, .b1 (s.locker n).feed, .orderId (s.locker n).orderRef,
          .b1 (demands.getD n 0), .b1 ((grantFrame demands s).locker n).granted]⟩ := by
  have starving : Config.allLockers.filter (starves demands (frameMap demands s) (Config.allLockers.map (tierOf s))
      (mapped demands s)) = (List.range 48).filter fun n =>
        decide ((s.locker n).starved = 4) && decide (((grantFrame demands s).locker n).starved = 5) := by
    refine List.filter_congr fun n hn => ?_
    rw [grantFrame_locker demands s n ((mem_allLockers n).mp hn)]
    rfl
  have none : (mapped demands s).lki.reportQ = [] := empty
  rw [grantFrame_eq, foldl_creditAndStarve_reportQ _ _ _ _ _ allLockers_nodup
    (fun m hm => (mem_allLockers m).mp hm) (show (mapped demands s).params.reportMask.testBit 1 = true from on)
    (by rw [none]; simp), starving, none, List.nil_append, ← List.map_take]
  refine List.map_congr_left fun n hn => ?_
  have hlt : n < 48 := by simpa using List.mem_of_mem_filter (List.mem_of_mem_take hn)
  rw [← grantFrame_eq, grantFrame_locker demands s n hlt]
  rfl

/-! ### The obligation, clause by clause -/

theorem frameStart_exec (l0 l1 l2 l3 : Bool) (s : State) :
    (s.hta.frameTimer = none →
      exec (.frameStart l0 l1 l2 l3) s = .next { s with ports := [], shedLines := #v[l0, l1, l2, l3] }) ∧
    ∀ e, s.hta.frameTimer = some e →
      exec (.frameStart l0 l1 l2 l3) s = .next (chooseTransmit (chooseBus (frameStart
        { s.clearPorts.elapse (2000 - e) with shedLines := #v[l0, l1, l2, l3] }))) := by
  have run : exec (.frameStart l0 l1 l2 l3) s = execFrameStart l0 l1 l2 l3 s := rfl
  have kept : s.clearPorts.hta.frameTimer = s.hta.frameTimer := rfl
  rw [run]
  unfold execFrameStart
  dsimp only
  refine ⟨fun h => ?_, fun e h => ?_⟩ <;> rw [kept, h] <;> rfl

theorem frameStart_eq (s : State) :
    let fed := latchFeeds { s with hta := { s.hta with frameTimer := some 0 } }
    let done := (List.range 48).filter fun n =>
      decide ((fed.locker n).phase = .purging) && decide (s.params.purgeSlots ≤ ((fed.locker n).purgeProgress.getD 0))
    let purged := done.foldl (fun u n => purgeDone n u) fed
    let held := (List.range 48).foldl (fun u n => suspendOrResume n u) purged
    let seen := (List.range 48).foldl (fun u n => examineInhibit n u) held
    frameStart s = grantFrame ((List.range 48).map (demandOf done seen)) seen := by
  have params : (latchFeeds { s with hta := { s.hta with frameTimer := some 0 } }).params = s.params :=
    (latchFeeds_params _).trans rfl
  dsimp only
  rw [← params]
  rfl

/-- Settles O49: each step of a frame start by its own lemma. -/
theorem frameStartBySteps : Obligations.FrameStartBySteps := by
  unfold Obligations.FrameStartBySteps
  refine ⟨frameStart_exec, frameStart_eq, fun f s _ => latchFeed_eq f s, fun n s hn => ?_, fun demands s => ?_⟩
  · obtain ⟨noPurge, suspends, resumes, stays⟩ := suspendOrResume_cases n s
    refine ⟨fun h => ⟨purgeDone_other n s h, noPurge h⟩, purgeDone_excluded n s hn, purgeDone_free n s hn, suspends,
      resumes, stays, fun h => ?_, fun lim temp hl hs => ?_, fun done => ⟨demandOf_barred done s n, fun hi hx hd => ?_⟩,
      fun o hp ho => ?_, tierOf_reserved s n, tierOf_purging s n⟩
    · exact examineInhibit_unlimited n s (by rwa [overheatLimit_eq])
    · exact examineInhibit_sampled n s lim temp ((overheatLimit_eq s _).trans hl) hs
    · exact demandOf_unbarred hi hx hd
    · obtain ⟨unsampled, sampled⟩ := tierOf_held s n o hp ho
      rw [show (if (s.locker n).phase = .offline ∨ s.params.sampleStaleS * 1000 < (s.locker n).sampleAge then none
        else (s.locker n).sample) = freshSample s (s.locker n) from rfl]
      cases hs : freshSample s (s.locker n) with
      | none => exact unsampled hs
      | some temp => exact sampled temp hs
  · have frame := grantFrame_records demands s
    refine ⟨fun f tier hf ht ht' => ⟨rfl, ?_⟩, fun n hn => ⟨?_, ?_⟩, fun f _ => rfl, fun b x n => rfl,
      fun p b k d cur loads got => fillSlots_step p b k d cur loads got, ?_, ?_, ?_, ?_, grantFrame_reportQ demands s⟩
    · obtain ⟨after, feed, step⟩ := grantFrame_rotation demands s f tier hf ht ht'
      obtain ⟨moved, kept⟩ := rotationAfter_eq demands s f tier _ feed step
      rw [after]
      cases h : tierOrder s demands f tier with
      | nil => exact kept h
      | cons n rest => exact moved n rest h
    · rw [grantFrame_heatMap, frameMap_get demands s n hn, mapEntry_eq]
    · rw [grantFrame_locker demands s n hn, credited_eq demands _ s _ n hn, grantFrame_heatMap]
    · rw [frame.bbm]
      rfl
    · exact (foldl_creditAndStarve_oru _ _ _ _ (mapped demands s)).trans rfl
    · rw [frame.txu]
      rfl
    · rw [frame.sst]
      rfl

end Sys2Proof.Proofs

/-! ## The order table, the pending queue and the free lists under every act on the records (R30, R31, R33 to R35, R39, R48, R55) -/

namespace Sys2Proof.Proofs

open Sys2Proof.Machine

/-! ### What an act keeps -/

/-- Hold budget, hold life and cold exposure of one order in their ranges (R39, R55). -/
def orderInRange (o : Order) : Prop :=
  60 ≤ o.budget ∧ o.budget ≤ 7200 ∧ ∀ h, o.hold = some h → h.life ≤ 7200 ∧ h.cold ≤ 65535

/-- What an act on the orders keeps, whatever it does to the lockers: first causes (R48), the code map and the queue as
mirrors of the table (R33, R34), the ranges of the hold fields, the capacities (R30, R34, R143). No order is new. -/
structure OrdersKept (s t : State) : Prop where
  causes : ∀ id o', t.order? id = some o' →
    ∃ o, s.order? id = some o ∧ ∀ k, o.condemned = some k → o'.condemned = some k
  tables : s.OrdersConsistent → t.OrdersConsistent
  holds : s.HoldInRange → t.HoldInRange
  orders : s.oru.orders.length ≤ 64 → t.oru.orders.length ≤ 64
  queue : s.oru.queue.length ≤ 16 → t.oru.queue.length ≤ 16
  reports : s.lki.reportQ.length ≤ 32 → t.lki.reportQ.length ≤ 32

/-- What an act on the records keeps: that, and the free lists exact (R35). -/
structure RecordsKept (s t : State) : Prop extends OrdersKept s t where
  lists : s.FreeListsExact → t.FreeListsExact

variable {s t u : State}

theorem OrdersKept.trans (h : OrdersKept s t) (k : OrdersKept t u) : OrdersKept s u where
  causes := by
    intro id o'' ho''
    obtain ⟨o', ho', hc'⟩ := k.causes id o'' ho''
    obtain ⟨o, ho, hc⟩ := h.causes id o' ho'
    exact ⟨o, ho, fun c hk => hc' c (hc c hk)⟩
  tables := k.tables ∘ h.tables
  holds := k.holds ∘ h.holds
  orders := k.orders ∘ h.orders
  queue := k.queue ∘ h.queue
  reports := k.reports ∘ h.reports

theorem RecordsKept.trans (h : RecordsKept s t) (k : RecordsKept t u) : RecordsKept s u :=
  ⟨h.toOrdersKept.trans k.toOrdersKept, k.lists ∘ h.lists⟩

/-! ### Acts on the order table -/

/-- An act that leaves the table, the code map and the queue alone. -/
theorem OrdersKept.of_same (ho : t.oru.orders = s.oru.orders) (hc : t.oru.codeMap = s.oru.codeMap)
    (hq : t.oru.queue = s.oru.queue) (hr : s.lki.reportQ.length ≤ 32 → t.lki.reportQ.length ≤ 32) :
    OrdersKept s t where
  causes := by
    intro id o' h
    unfold State.order? at *
    rw [ho] at h
    exact ⟨o', h, fun _ hk => hk⟩
  tables := by
    unfold State.OrdersConsistent
    rw [ho, hc, hq]
    exact id
  holds := by
    unfold State.HoldInRange
    rw [ho]
    exact id
  orders := by rw [ho]; exact id
  queue := by rw [hq]; exact id
  reports := hr

theorem OrdersKept.refl (s : State) : OrdersKept s s := .of_same rfl rfl rfl id

theorem find_map_id (os : List Order) (g : Order → Order) (hid : ∀ o, (g o).id = o.id) (i : Nat) :
    (os.map g).find? (fun o => o.id == i) = (os.find? fun o => o.id == i).map g := by
  rw [List.find?_map]
  congr 2
  funext o
  simp [hid]

/-- An act that rewrites the orders one by one and keeps each one's id, code and status kind. -/
theorem OrdersKept.map (g : Order → Order) (ho : t.oru.orders = s.oru.orders.map g)
    (hc : t.oru.codeMap = s.oru.codeMap) (hq : t.oru.queue = s.oru.queue)
    (hr : s.lki.reportQ.length ≤ 32 → t.lki.reportQ.length ≤ 32)
    (hid : ∀ o, (g o).id = o.id) (hcode : ∀ o, (g o).code = o.code)
    (hp : s.OrdersConsistent → ∀ o ∈ s.oru.orders, (g o).isPending = o.isPending)
    (hcause : ∀ o k, s.order? o.id = some o → o.condemned = some k → (g o).condemned = some k)
    (hrange : s.HoldInRange → ∀ o ∈ s.oru.orders, orderInRange o → orderInRange (g o)) : OrdersKept s t where
  causes := by
    intro i o' h
    unfold State.order? at h
    rw [ho, find_map_id _ _ hid, Option.map_eq_some_iff] at h
    obtain ⟨o, hf, rfl⟩ := h
    exact ⟨o, hf, fun k hk => hcause o k (by rw [s.order_id i o hf]; exact hf) hk⟩
  tables := by
    intro h
    obtain ⟨hmap, hids, hcodes, hqueue⟩ := h
    have ids : (s.oru.orders.map g).map Order.id = s.oru.orders.map Order.id := by
      simp [Function.comp_def, hid]
    have codes : (s.oru.orders.map g).map Order.code = s.oru.orders.map Order.code := by
      simp [Function.comp_def, hcode]
    refine ⟨?_, by rwa [ho, ids], by rwa [ho, codes], ?_⟩
    · rw [hc, hmap, ho]
      simp [Function.comp_def, hid, hcode]
    · rw [hq, hqueue, ho, List.filter_map, List.map_map]
      have keep : s.oru.orders.filter (Order.isPending ∘ g) = s.oru.orders.filter Order.isPending :=
        List.filter_congr fun o hm => hp ⟨hmap, hids, hcodes, hqueue⟩ o hm
      rw [keep]
      exact List.map_congr_left fun o _ => (hid o).symm
  holds := by
    intro h o' ho'
    rw [ho] at ho'
    obtain ⟨o, hm, rfl⟩ := List.mem_map.mp ho'
    exact hrange h o hm (h o hm)
  orders := by simp [ho]
  queue := by simp [hq]
  reports := hr

/-- The rewriting of the order `id` that keeps its id, code, status kind and first cause, and its fields in range. -/
theorem modOrder_ordersKept (id : Nat) (f : Order → Order) (s : State) (hid : ∀ o, (f o).id = o.id)
    (hcode : ∀ o, (f o).code = o.code) (hp : ∀ o, (f o).isPending = o.isPending)
    (hcause : ∀ o k, s.order? id = some o → o.condemned = some k → (f o).condemned = some k)
    (hrange : s.HoldInRange → ∀ o, orderInRange o → orderInRange (f o)) : OrdersKept s (s.modOrder id f) := by
  refine .map (fun o => if o.id == id then f o else o) rfl rfl rfl (fun h => h) (fun o => ?_) (fun o => ?_)
    (fun _ o _ => ?_) (fun o k ho hk => ?_) (fun hs o _ ho => ?_)
  · split <;> simp [hid]
  · split <;> simp [hcode]
  · split <;> simp [hp]
  · split
    case isTrue he => exact hcause o k (by rw [← eq_of_beq he]; exact ho) hk
    case isFalse => exact hk
  · split
    · exact hrange hs o ho
    · exact ho

/-- After a removal the table finds every other order as before (R49). -/
theorem removeOrder_order (id i : Nat) (s : State) :
    (removeOrder id s).order? i = if i = id then none else s.order? i := by
  unfold State.order?
  rw [removeOrder_orders, List.find?_filter]
  split
  case isTrue hi =>
    subst hi
    simp
  case isFalse hi =>
    congr 1
    funext o
    by_cases ho : o.id = i <;> simp [ho, hi]

/-- A removal: from the table, the code map and the queue (R49). -/
theorem removeOrder_ordersKept (id : Nat) (s : State) : OrdersKept s (removeOrder id s) where
  causes := by
    intro i o' h
    rw [removeOrder_order] at h
    split at h
    · cases h
    · exact ⟨o', h, fun _ hk => hk⟩
  tables := by
    rintro ⟨hmap, hids, hcodes, hqueue⟩
    refine ⟨?_, ?_, ?_, ?_⟩
    · rw [removeOrder_codeMap, removeOrder_orders, hmap, List.filter_map]
      rfl
    · rw [removeOrder_orders]
      exact hids.sublist (List.filter_sublist.map _)
    · rw [removeOrder_orders]
      exact hcodes.sublist (List.filter_sublist.map _)
    · rw [removeOrder_queue, removeOrder_orders, hqueue, List.filter_map, List.filter_filter, List.filter_filter]
      simp only [Function.comp_def, Bool.and_comm]
  holds := by
    intro h o ho
    rw [removeOrder_orders] at ho
    exact h o (List.mem_of_mem_filter ho)
  orders := by
    intro h
    rw [removeOrder_orders]
    exact (List.length_filter_le _ _).trans h
  queue := by
    intro h
    rw [removeOrder_queue]
    exact (List.length_filter_le _ _).trans h
  reports := by simp

/-- A placement (R41). -/
theorem join_ordersKept (id n : Nat) (s : State) : OrdersKept s (join id n s) where
  causes := by
    intro i o' h
    rw [join_order, Option.map_eq_some_iff] at h
    obtain ⟨o, ho, rfl⟩ := h
    refine ⟨o, ho, fun k hk => ?_⟩
    split <;> exact hk
  tables := by
    rintro ⟨hmap, hids, hcodes, hqueue⟩
    have ids : (join id n s).oru.orders.map Order.id = s.oru.orders.map Order.id := by
      rw [join_orders, List.map_map]
      refine List.map_congr_left fun o _ => ?_
      simp only [Function.comp_apply]
      split <;> rfl
    have codes : (join id n s).oru.orders.map Order.code = s.oru.orders.map Order.code := by
      rw [join_orders, List.map_map]
      refine List.map_congr_left fun o _ => ?_
      simp only [Function.comp_apply]
      split <;> rfl
    refine ⟨?_, by rwa [ids], by rwa [codes], ?_⟩
    · rw [join_codeMap, join_orders, hmap, List.map_map]
      refine List.map_congr_left fun o _ => ?_
      simp only [Function.comp_apply]
      split <;> rfl
    · rw [join_queue, join_orders, hqueue]
      generalize s.oru.orders = os
      induction os with
      | nil => rfl
      | cons o os ih =>
        by_cases he : o.id = id <;> cases hw : o.isPending <;> simp_all [Order.isPending]
  holds := by
    intro h o' ho'
    rw [join_orders] at ho'
    obtain ⟨o, ho, rfl⟩ := List.mem_map.mp ho'
    have := h o ho
    split <;> exact this
  orders := by
    intro h
    rw [join_orders]
    simpa using h
  queue := by
    intro h
    rw [join_queue]
    exact (List.length_filter_le _ _).trans h
  reports := by simp

theorem submitTagged_ordersKept (tag : Nat) (k : ReportKind) (fs : List Field) (s : State) :
    OrdersKept s (submitTagged tag k fs s) :=
  .of_same (by simp) (by simp) (by simp) (submitTagged_length tag k fs s)

theorem submit_ordersKept (k : ReportKind) (fs : List Field) (s : State) : OrdersKept s (submit k fs s) :=
  submitTagged_ordersKept 0 k fs s

theorem modLocker_ordersKept (n : Nat) (f : Locker → Locker) (s : State) : OrdersKept s (s.modLocker n f) :=
  .of_same rfl rfl rfl id

theorem setLocker_ordersKept (n : Nat) (l : Locker) (s : State) : OrdersKept s (s.setLocker n l) :=
  .of_same rfl rfl rfl id

theorem moveTo_ordersKept (p : Phase) (n : Nat) (s : State) : OrdersKept s (moveTo p n s) :=
  .of_same (by simp) (by simp) (by simp) (by simp)

theorem leftFree_ordersKept (c : SizeClass) (n : Nat) (s : State) : OrdersKept s (leftFree c n s) :=
  .of_same (by simp) (by simp) (by simp) (by simp)

theorem appendFree_ordersKept (c : SizeClass) (n : Nat) (s : State) : OrdersKept s (appendFree c n s) :=
  .of_same (by simp) (by simp) (by simp) (by simp)

theorem placePending_ordersKept (o : Order) (n : Nat) (s : State) : OrdersKept s (placePending o n s) :=
  (join_ordersKept _ _ _).trans (submit_ordersKept _ _ _)

theorem becameFree_ordersKept (n : Nat) (s : State) : OrdersKept s (becameFree n s) := by
  unfold becameFree
  dsimp only
  split
  · exact .refl s
  · split
    · exact placePending_ordersKept _ _ _
    · exact appendFree_ordersKept _ _ _

theorem announceFree_ordersKept (n : Nat) (s : State) : OrdersKept s (announceFree n s) := by
  unfold announceFree
  split
  · exact becameFree_ordersKept _ _
  · exact .refl s

/-- A condemnation sets the cause of an order that has none (R48). -/
theorem condemn_ordersKept (id : Nat) (c : Cause) (s : State) : OrdersKept s (condemn id c s) := by
  unfold condemn
  split
  · exact .refl s
  case h_2 o ho =>
    split
    · exact .refl s
    case isFalse hc =>
      have cause : OrdersKept s (s.modOrder id fun o => { o with condemned := some c }) := by
        refine modOrder_ordersKept id _ s (fun _ => rfl) (fun _ => rfl) (fun _ => rfl) (fun x k hx hk => ?_)
          fun _ _ h => h
        rw [ho] at hx
        cases hx
        simp [hk] at hc
      have reported := cause.trans (submit_ordersKept .condemned [.b4 id, .b1 c.code, .opt1 o.locker] _)
      dsimp only
      split
      · exact reported.trans (modLocker_ordersKept _ _ _)
      · exact reported

/-! ### The free lists (R35) -/

/-- What the free lists read of a record. -/
def standing (l : Locker) : Phase × Bool × SizeClass × Option Phase := (l.phase, l.fenced, l.cls, l.clearOrigin)

/-- A record that belongs in the free list of class `c` (R35). -/
def Listed (c : SizeClass) (l : Locker) : Prop := l.phase = .free ∧ l.fenced = false ∧ l.cls = c

/-- The lists are exact but for locker `n`, which stands in none: between two phases, or not yet offered (R35, R43). -/
def ExactBut (n : Nat) (s : State) : Prop :=
  (∀ c m, m ∈ s.freeList c ↔ m ≠ n ∧ Listed c (s.locker m)) ∧ (∀ c, (s.freeList c).Nodup) ∧
    ∀ m, (s.locker m).clearOrigin ≠ some .free

theorem Listed.congr {c : SizeClass} {l l' : Locker} (h : standing l' = standing l) : Listed c l' ↔ Listed c l := by
  simp only [standing, Prod.mk.injEq] at h
  obtain ⟨hp, hf, hc, -⟩ := h
  simp only [Listed, hp, hf, hc]

theorem origin_congr {l l' : Locker} (h : standing l' = standing l) : l'.clearOrigin = l.clearOrigin :=
  congrArg (fun x => x.2.2.2) h

/-- The lists read only themselves and the standing of the records. -/
theorem exact_congr (h : s.FreeListsExact) (hf : ∀ c, t.freeList c = s.freeList c)
    (hr : ∀ n, standing (t.locker n) = standing (s.locker n)) : t.FreeListsExact := by
  obtain ⟨hmem, honce, horigin⟩ := h
  refine ⟨fun c n => ?_, fun c => by rw [hf]; exact honce c, fun n => by rw [origin_congr (hr n)]; exact horigin n⟩
  rw [hf, hmem]
  exact (Listed.congr (hr n)).symm

theorem ExactBut.congr {n : Nat} (h : ExactBut n s) (hf : ∀ c, t.freeList c = s.freeList c)
    (hr : ∀ m, m ≠ n → standing (t.locker m) = standing (s.locker m))
    (hn : (t.locker n).clearOrigin ≠ some .free) : ExactBut n t := by
  obtain ⟨hmem, honce, horigin⟩ := h
  refine ⟨fun c m => ?_, fun c => by rw [hf]; exact honce c, fun m => ?_⟩
  · rw [hf, hmem]
    exact and_congr_right fun hm => (Listed.congr (hr m hm)).symm
  · by_cases hm : m = n
    · rw [hm]
      exact hn
    · rw [origin_congr (hr m hm)]
      exact horigin m

/-- A locker that is not to be listed makes the lists exact. -/
theorem ExactBut.exact {n : Nat} (h : ExactBut n s) (hn : ∀ c, ¬ Listed c (s.locker n)) : s.FreeListsExact := by
  obtain ⟨hmem, honce, horigin⟩ := h
  refine ⟨fun c m => (hmem c m).trans ⟨And.right, fun hm => ⟨?_, hm⟩⟩, honce, horigin⟩
  rintro rfl
  exact hn c hm

theorem not_listed_of_phase {l : Locker} (h : l.phase ≠ .free) (c : SizeClass) : ¬ Listed c l := fun k => h k.1

/-- A locker is taken out of its class's list, whether it stood there or not. -/
theorem leftFree_exactBut (n : Nat) (s : State) (h : s.FreeListsExact ∨ ExactBut n s) :
    ExactBut n (leftFree (s.locker n).cls n s) := by
  have others c m (hm : m ≠ n) : m ∈ s.freeList c ↔ Listed c (s.locker m) := by
    rcases h with ⟨h, -⟩ | ⟨h, -⟩
    · exact h c m
    · rw [h c m]
      simp [hm]
  have own c (hc : c ≠ (s.locker n).cls) : n ∉ s.freeList c := by
    rcases h with ⟨h, -⟩ | ⟨h, -⟩ <;> rw [h c n]
    · exact fun k => hc k.2.2.symm
    · exact fun k => k.1 rfl
  have rest : (∀ c, (s.freeList c).Nodup) ∧ ∀ m, (s.locker m).clearOrigin ≠ some .free := by
    rcases h with ⟨-, h⟩ | ⟨-, h⟩ <;> exact h
  refine ⟨fun c m => ?_, fun c => ?_, fun m => by rw [leftFree_locker]; exact rest.2 m⟩
  · rw [leftFree_freeList, leftFree_locker]
    by_cases hm : m = n
    · subst hm
      split
      · simp
      case isFalse hc => simp [own c hc]
    · rw [← others c m hm]
      split
      case isTrue hc =>
        subst hc
        simp [hm]
      case isFalse => simp [hm]
  · rw [leftFree_freeList]
    split
    · exact (rest.1 _).filter _
    · exact rest.1 c

theorem unlisted_exactBut (n : Nat) (s : State) (h : s.FreeListsExact) : ExactBut n (unlisted n s) := by
  unfold unlisted
  split
  · exact leftFree_exactBut n s (.inl h)
  case isFalse hp =>
    obtain ⟨hmem, honce, horigin⟩ := h
    refine ⟨fun c m => (hmem c m).trans ⟨fun hm => ⟨?_, hm⟩, And.right⟩, honce, horigin⟩
    rintro rfl
    exact hp hm.1

/-- The locker `n` is rewritten while it stands in no list. -/
theorem setLocker_exactBut {n : Nat} (l : Locker) (h : ExactBut n s) (hl : l.clearOrigin ≠ some .free) :
    ExactBut n (s.setLocker n l) := by
  refine h.congr (fun c => by simp) (fun m hm => by rw [State.setLocker_ne _ _ _ _ hm]) ?_
  by_cases hn : n < 48
  · rwa [State.setLocker_same _ _ _ hn]
  · rw [State.locker_out _ _ (by omega)]
    simp [Locker.blank]

theorem enter_origin_ne (p : Phase) (l : Locker) (h : l.clearOrigin ≠ some .free) :
    (l.enter p).clearOrigin ≠ some .free := by
  rw [enter_clearOrigin]
  split
  · simp
  · exact h

/-- Right after a change of phase the locker stands in no list (R7, R35). -/
theorem moveTo_exactBut (p : Phase) (n : Nat) (s : State) (h : s.FreeListsExact) : ExactBut n (moveTo p n s) := by
  rw [moveTo_eq]
  exact setLocker_exactBut _ (unlisted_exactBut n s h) (enter_origin_ne p _ (h.2.2 n))

theorem moveTo_phase (p : Phase) (n : Nat) (s : State) :
    ((moveTo p n s).locker n).phase = p ∨ ((moveTo p n s).locker n).phase = .absent := by
  by_cases hn : n < 48
  · left
    rw [moveTo_locker_same p n s hn, enter_phase]
  · right
    rw [State.locker_out _ _ (by omega)]
    rfl

theorem moveTo_lists (p : Phase) (n : Nat) (s : State) (hp : s.FreeListsExact → p ≠ .free) (h : s.FreeListsExact) :
    (moveTo p n s).FreeListsExact := by
  refine (moveTo_exactBut p n s h).exact (not_listed_of_phase ?_)
  rcases moveTo_phase p n s with k | k <;> rw [k]
  · exact hp h
  · simp

theorem moveTo_kept (p : Phase) (n : Nat) (s : State) (hp : s.FreeListsExact → p ≠ .free) :
    RecordsKept s (moveTo p n s) :=
  ⟨moveTo_ordersKept p n s, moveTo_lists p n s hp⟩

/-- A record is written that was in no list and belongs in none. -/
theorem setLocker_kept (n : Nat) (l : Locker) (s : State) (ho : (s.locker n).phase ≠ .free) (hp : l.phase ≠ .free)
    (hc : (s.locker n).clearOrigin ≠ some .free → l.clearOrigin ≠ some .free) : RecordsKept s (s.setLocker n l) := by
  refine ⟨setLocker_ordersKept n l s, fun h => ?_⟩
  have but : ExactBut n s := by
    have := unlisted_exactBut n s h
    rwa [unlisted, if_neg ho] at this
  refine (setLocker_exactBut l but (hc (h.2.2 n))).exact (not_listed_of_phase ?_)
  by_cases hn : n < 48
  · rwa [State.setLocker_same _ _ _ hn]
  · rw [State.locker_out _ _ (by omega)]
    simp [Locker.blank]

/-- A placement takes the locker out of the lists for good (R41). -/
theorem join_lists (id n : Nat) (s : State) (h : s.FreeListsExact ∨ ExactBut n s) : (join id n s).FreeListsExact := by
  have left := leftFree_exactBut n s h
  have origin := left.2.2 n
  rw [leftFree_locker] at origin
  have at_n : standing ((join id n s).locker n) = standing ((s.locker n).reserve id) ∨
      (join id n s).locker n = Locker.blank := by
    by_cases hn : n < 48
    · exact .inl (by rw [join_locker_same id n s hn])
    · exact .inr (State.locker_out _ _ (by omega))
  have placed : ExactBut n (join id n s) := by
    refine left.congr (fun c => ?_) (fun m hm => by rw [join_locker_ne id n m s hm, leftFree_locker]) ?_
    · rw [join_freeList, leftFree_freeList]
      split <;> simp_all
    · rcases at_n with k | k
      · rw [origin_congr k]
        exact enter_origin_ne .reserved _ origin
      · rw [k]
        simp [Locker.blank]
  refine placed.exact (not_listed_of_phase ?_)
  rcases at_n with k | k
  · have phase : ((join id n s).locker n).phase = ((s.locker n).reserve id).phase := congrArg Prod.fst k
    simp [phase, (reserve_fields id (s.locker n)).1]
  · rw [k]
    simp [Locker.blank]

theorem submit_lists (k : ReportKind) (fs : List Field) (s : State) (h : s.FreeListsExact) :
    (submit k fs s).FreeListsExact := exact_congr h (fun c => by simp) fun n => by simp

theorem submit_exactBut {n : Nat} (k : ReportKind) (fs : List Field) (h : ExactBut n s) : ExactBut n (submit k fs s) :=
  h.congr (fun c => by simp) (fun m _ => by simp) (by rw [submit_locker]; exact h.2.2 n)

theorem placePending_lists (o : Order) (n : Nat) (s : State) (h : s.FreeListsExact ∨ ExactBut n s) :
    (placePending o n s).FreeListsExact := submit_lists _ _ _ (join_lists o.id n s h)

/-- The offer of a FREE locker that stands in no list makes the lists exact: fenced it joins none, placed it is
RESERVED, else it joins its own (R35, R43). -/
theorem becameFree_lists (n : Nat) (s : State) (hp : (s.locker n).phase = .free) (h : ExactBut n s) :
    (becameFree n s).FreeListsExact := by
  unfold becameFree
  dsimp only
  split
  case isTrue hf =>
    exact h.exact fun c k => by simp [k.2.1] at hf
  case isFalse hf =>
    split
    · exact placePending_lists _ n s (.inr h)
    · obtain ⟨hmem, honce, horigin⟩ := h
      refine ⟨fun c m => ?_, fun c => ?_, fun m => by rw [appendFree_locker]; exact horigin m⟩
      · rw [appendFree_freeList, appendFree_locker]
        change _ ↔ Listed c (s.locker m)
        by_cases hm : m = n
        · subst hm
          by_cases hc : c = (s.locker m).cls
          · simp [hc, Listed, hp, hf]
          · simp [hc, hmem, Listed, Ne.symm hc]
        · split
          case isTrue hc =>
            subst hc
            simp [hmem, hm]
          case isFalse => simp [hmem, hm]
      · rw [appendFree_freeList]
        split
        · exact List.nodup_append.mpr ⟨honce _, List.nodup_singleton n, by
            intro a ha b hb
            rw [List.mem_singleton.mp hb]
            exact ((hmem _ a).mp ha).1⟩
        · exact honce c

theorem announceFree_lists (n : Nat) (s : State) (h : ExactBut n s) : (announceFree n s).FreeListsExact := by
  unfold announceFree
  split
  case isTrue hp => exact becameFree_lists n s hp h
  case isFalse hp => exact h.exact (not_listed_of_phase hp)

end Sys2Proof.Proofs

/-! ## The laws of orders and free lists under the rules of chapters 01 to 04 (R2, R5, R8, R12 to R28, R36, R37, R46 to R49, R57 to R61) -/

namespace Sys2Proof.Proofs

open Sys2Proof.Machine

variable {s t u : State}

/-! ### The smallest acts -/

/-- An act that leaves the Order Unit and the standing of the records alone. -/
theorem RecordsKept.quiet (ho : t.oru = s.oru) (hr : ∀ n, standing (t.locker n) = standing (s.locker n))
    (hq : s.lki.reportQ.length ≤ 32 → t.lki.reportQ.length ≤ 32) : RecordsKept s t := by
  refine ⟨.of_same (by rw [ho]) (by rw [ho]) (by rw [ho]) hq, fun h => exact_congr h (fun c => ?_) hr⟩
  cases c <;> simp only [State.freeList, ho]

theorem RecordsKept.refl (s : State) : RecordsKept s s := .quiet rfl (fun _ => rfl) id

/-- An act on the orders that leaves the lists and the standing of the records alone. -/
theorem OrdersKept.withLists (h : OrdersKept s t) (hf : ∀ c, t.freeList c = s.freeList c)
    (hr : ∀ n, standing (t.locker n) = standing (s.locker n)) : RecordsKept s t :=
  ⟨h, fun k => exact_congr k hf hr⟩

theorem RecordsKept.foldl {α : Type} (f : State → α → State) (hf : ∀ x a, RecordsKept x (f x a)) (as : List α)
    (s : State) : RecordsKept s (as.foldl f s) := by
  induction as generalizing s with
  | nil => exact .refl s
  | cons a as ih => exact (hf s a).trans (ih _)

theorem submit_kept (k : ReportKind) (fs : List Field) (s : State) : RecordsKept s (submit k fs s) :=
  ⟨submit_ordersKept k fs s, submit_lists k fs s⟩

theorem submitTagged_kept (tag : Nat) (k : ReportKind) (fs : List Field) (s : State) :
    RecordsKept s (submitTagged tag k fs s) :=
  (submitTagged_ordersKept tag k fs s).withLists (fun c => by simp) fun n => by simp

/-- A record is written that reads the same for the lists. -/
theorem modLocker_kept (n : Nat) (f : Locker → Locker) (s : State)
    (hf : standing (f (s.locker n)) = standing (s.locker n)) : RecordsKept s (s.modLocker n f) := by
  refine .quiet rfl (fun m => ?_) id
  by_cases hm : m = n
  · subst hm
    by_cases hn : m < 48
    · rw [State.modLocker_same _ _ _ hn, hf]
    · rw [State.modLocker_eq, State.setLocker_out _ _ _ (by omega)]
  · rw [State.modLocker_ne _ _ _ _ hm]

/-- All records are written anew and read the same for the lists. -/
theorem mapLockers_kept (f : Nat → Locker) (s : State) (hf : ∀ n, standing (f n) = standing (s.locker n)) :
    RecordsKept s { s with ltu := { s.ltu with lockers := vinit 48 f } } := by
  refine .quiet rfl (fun n => ?_) id
  by_cases hn : n < 48
  · exact (congrArg standing (vget_vinit _ _ _ _ hn)).trans (hf n)
  · rw [State.locker_out _ n (by omega), State.locker_out _ n (by omega)]

theorem modOrder_kept (id : Nat) (f : Order → Order) (s : State) (h : OrdersKept s (s.modOrder id f)) :
    RecordsKept s (s.modOrder id f) := h.withLists (fun c => by simp) fun n => by simp

/-- A change of an order's hold fields within their ranges (R55). -/
theorem modHold_kept (id : Nat) (f : Order → Order) (s : State)
    (hf : ∀ o, f o = { o with hold := (f o).hold })
    (hr : s.HoldInRange → ∀ o, orderInRange o → ∀ h, (f o).hold = some h → h.life ≤ 7200 ∧ h.cold ≤ 65535) :
    RecordsKept s (s.modOrder id f) := by
  refine modOrder_kept id f s (modOrder_ordersKept id f s (fun o => by rw [hf]) (fun o => by rw [hf])
    (fun o => by rw [hf]; rfl) (fun o k _ hk => by rw [hf]; exact hk) fun hs o ho => ?_)
  have fields := hr hs o ho
  obtain ⟨low, high, -⟩ := ho
  exact ⟨by rw [hf]; exact low, by rw [hf]; exact high, fields⟩

/-! ### Orders (chapter 02) -/

theorem placePending_kept (o : Order) (n : Nat) (s : State) : RecordsKept s (placePending o n s) :=
  ⟨placePending_ordersKept o n s, fun h => placePending_lists o n s (.inl h)⟩

theorem sweepOver_kept (ids : List Nat) (s : State) : RecordsKept s (sweepOver ids s) := by
  induction ids generalizing s with
  | nil => exact .refl s
  | cons id rest ih =>
    unfold sweepOver
    split
    · split
      · exact (placePending_kept _ _ _).trans (ih _)
      · exact ih _
    · exact ih _

theorem pendingSweep_kept (s : State) : RecordsKept s (pendingSweep s) := sweepOver_kept _ _

theorem condemnNotice_standing (l : Locker) :
    standing l.condemnNotice = standing l ∨ (l.phase = .holding ∧ l.condemnNotice = l.enter .condemned) := by
  unfold Locker.condemnNotice
  split
  case isTrue h => exact .inr ⟨h, rfl⟩
  case isFalse => split <;> exact .inl rfl

theorem condemnNotice_kept (n : Nat) (s : State) : RecordsKept s (s.modLocker n Locker.condemnNotice) := by
  rcases condemnNotice_standing (s.locker n) with h | ⟨hp, h⟩
  · exact modLocker_kept n _ s h
  · rw [State.modLocker_eq, h]
    exact setLocker_kept n _ s (by simp [hp]) (by simp) (enter_origin_ne _ _)

theorem condemn_kept (id : Nat) (c : Cause) (s : State) : RecordsKept s (condemn id c s) := by
  refine ⟨condemn_ordersKept id c s, fun h => ?_⟩
  have cause : (s.modOrder id fun o => { o with condemned := some c }).FreeListsExact :=
    exact_congr h (fun k => by simp) fun n => by simp
  unfold condemn
  split
  · exact h
  · split
    · exact h
    · dsimp only
      split
      · exact (condemnNotice_kept _ _).lists (submit_lists _ _ _ cause)
      · exact submit_lists _ _ _ cause

theorem removeOrder_kept (id : Nat) (s : State) : RecordsKept s (removeOrder id s) := by
  refine (removeOrder_ordersKept id s).withLists (fun c => by simp) fun n => ?_
  rcases removeOrder_locker_keeps id n s with h | h <;> rw [h]
  rfl

theorem withdrawLost_kept (id : Nat) (s : State) : RecordsKept s (withdrawLost id s) :=
  (condemn_kept _ _ _).trans (removeOrder_kept _ _)

/-! ### Lockers (chapter 01) -/

/-- A locker that changes phase, is reported, and is offered if it became FREE (R24, R28, R42). -/
theorem announced_kept (p : Phase) (n : Nat) (k : ReportKind) (fs : List Field) (s : State) :
    RecordsKept s (announceFree n (submit k fs (moveTo p n s))) :=
  ⟨((moveTo_ordersKept p n s).trans (submit_ordersKept k fs _)).trans (announceFree_ordersKept n _),
    fun h => announceFree_lists n _ (submit_exactBut k fs (moveTo_exactBut p n s h))⟩

theorem moveTo_announced_kept (p : Phase) (n : Nat) (s : State) : RecordsKept s (announceFree n (moveTo p n s)) :=
  ⟨(moveTo_ordersKept p n s).trans (announceFree_ordersKept n _),
    fun h => announceFree_lists n _ (moveTo_exactBut p n s h)⟩

theorem redirect_ne_free (l : Locker) (p : Phase) (h : p ≠ .free) : redirect l p ≠ .free := by
  unfold redirect
  split
  · simp
  · exact h

theorem doorFault_kept (n : Nat) (f : Finding) (s : State) : RecordsKept s (doorFault n f s) := by
  unfold doorFault
  dsimp only
  split
  · exact .refl s
  · have h := (moveTo_kept .service n s (by simp)).trans
      (submit_kept .doorFault [.b1 n, .b1 f.code, .orderId (s.locker n).orderRef] _)
    split
    · exact h.trans (condemn_kept _ _ _)
    · exact h

theorem setExcluded_kept (n : Nat) (s : State) : RecordsKept s (setExcluded n s) := by
  unfold setExcluded
  split
  · exact .refl s
  · exact (modLocker_kept n _ s rfl).trans (submit_kept _ _ _)

theorem heaterCheck_kept (n : Nat) (on mark : Bool) (s : State) : RecordsKept s (heaterCheck n on mark s) := by
  unfold heaterCheck
  split
  · dsimp only
    split
    · exact (setExcluded_kept n s).trans (moveTo_kept _ _ _ (by simp))
    · exact setExcluded_kept n s
  · exact .refl s

theorem faultChecks_kept (n : Nat) (on mark : Bool) (s : State) : RecordsKept s (faultChecks n on mark s) := by
  unfold faultChecks
  dsimp only
  split
  · exact (doorFault_kept _ _ s).trans (heaterCheck_kept _ _ _ _)
  · exact heaterCheck_kept _ _ _ _

theorem goOffline_kept (n : Nat) (c : OfflineCause) (s : State) : RecordsKept s (goOffline n c s) := by
  unfold goOffline
  dsimp only
  split
  · exact .refl s
  · exact ((moveTo_kept .offline n s (by simp)).trans (modLocker_kept n _ _ rfl)).trans (submit_kept _ _ _)

theorem quarantine_kept (n : Nat) (s : State) : RecordsKept s (quarantine n s) := by
  unfold quarantine
  dsimp only
  split
  · exact ((moveTo_kept _ _ s (by simp)).trans (withdrawLost_kept _ _)).trans (submit_kept _ _ _)
  · exact (moveTo_kept _ _ s (by simp)).trans (submit_kept _ _ _)

/-- A reservation never reverts to FREE: no withdrawal began there (R12, R17). -/
theorem revertPhase_ne_free (s : State) (n : Nat) (h : s.FreeListsExact)
    (hp : (s.locker n).phase ∈ [.loading, .pickup, .clearing]) : revertPhase s (s.locker n) ≠ .free := by
  simp only [List.mem_cons, List.not_mem_nil, or_false] at hp
  rcases hp with hp | hp | hp
  · simp [revertPhase, hp]
  · simp only [revertPhase, hp]
    split <;> simp
  · simp only [revertPhase, hp]
    have := h.2.2 n
    cases hc : (s.locker n).clearOrigin with
    | none => simp
    | some p =>
      rw [hc] at this
      simpa using this

theorem doorCommandEnd_kept (e : Entry) (o : CmdOutcome) (s : State) : RecordsKept s (doorCommandEnd e o s) := by
  unfold doorCommandEnd
  dsimp only
  generalize h1 : s.modLocker e.locker (fun l => { l with unlatchPending := none }) = a
  have ha : RecordsKept s a := h1 ▸ modLocker_kept _ _ s rfl
  generalize h2 : (if e.request.phase = some (a.locker e.locker).phase then
    moveTo (revertPhase a (a.locker e.locker)) e.locker a else a) = b
  have hb : RecordsKept s b := by
    rw [← h2]
    split
    case isTrue hp =>
      exact ha.trans (moveTo_kept _ _ _ fun h => revertPhase_ne_free a _ h (CmdRequest.phase_mem _ _ hp))
    case isFalse => exact ha
  split
  · exact ha
  · split
    · exact hb.trans (doorFault_kept _ _ _)
    · split
      · exact hb.trans (goOffline_kept _ _ _)
      · exact hb
    · exact hb

theorem lockerCommandEnd_kept (e : Entry) (o : CmdOutcome) (s : State) : RecordsKept s (lockerCommandEnd e o s) := by
  unfold lockerCommandEnd
  split
  · exact doorCommandEnd_kept _ _ _
  · split
    · exact goOffline_kept _ _ _
    · exact .refl s

/-! ### The completions of the transient phases (R14, R16, R18) -/

/-- A loaded meal's hold life starts at its budget (R14, R55). -/
theorem startHold_kept (id : Nat) (s : State) : RecordsKept s (startHold id s) :=
  modHold_kept id _ s (fun _ => rfl) fun _ o ho h hh => by
    cases hh
    exact ⟨ho.2.1, by simp⟩

theorem loadEmpty_kept (n id : Nat) (x : Bool) (s : State) : RecordsKept s (loadEmpty n id x s) :=
  (moveTo_kept _ _ _ (by simp)).trans (submit_kept _ _ _)

theorem completeLoading_kept (n : Nat) (s : State) : RecordsKept s (completeLoading n s) := by
  unfold completeLoading
  dsimp only
  split
  · split
    · exact ((moveTo_kept _ _ s (by simp)).trans (startHold_kept _ _)).trans (submit_kept _ _ _)
    · exact loadEmpty_kept _ _ _ _
  · exact loadEmpty_kept _ _ _ _

/-- A failed collection is counted (R16). -/
theorem countAttempt_kept (id : Nat) (s : State) :
    RecordsKept s (s.modOrder id fun o => { o with attempts := satAdd 255 o.attempts 1 }) :=
  modOrder_kept id _ s
    (modOrder_ordersKept id _ s (fun _ => rfl) (fun _ => rfl) (fun _ => rfl) (fun _ _ _ h => h) fun _ _ h => h)

theorem completePickup_kept (n : Nat) (s : State) : RecordsKept s (completePickup n s) := by
  have back : (if orderCondemned s (s.locker n) then Phase.condemned else .holding) ≠ .free := by split <;> simp
  unfold completePickup
  dsimp only
  split
  · split
    · exact ((submit_kept _ _ s).trans (removeOrder_kept _ _)).trans
        (moveTo_kept _ _ _ fun _ => redirect_ne_free _ _ (by simp))
    · exact ((countAttempt_kept _ s).trans (submit_kept _ _ _)).trans (moveTo_kept _ _ _ fun _ => back)
  · exact (submit_kept _ _ s).trans (moveTo_kept _ _ _ fun _ => back)

theorem completeClearing_kept (n : Nat) (s : State) : RecordsKept s (completeClearing n s) := by
  have back (h : s.FreeListsExact) : (s.locker n).clearOrigin.getD .quarantine ≠ .free := by
    have := h.2.2 n
    cases hc : (s.locker n).clearOrigin with
    | none => simp
    | some p =>
      rw [hc] at this
      simpa using this
  have returned (fs : List Field) :
      RecordsKept s (moveTo ((s.locker n).clearOrigin.getD .quarantine) n (submit .clearReturned fs s)) :=
    ⟨(submit_ordersKept _ _ s).trans (moveTo_ordersKept _ _ _),
      fun h => moveTo_lists _ _ _ (fun _ => back h) (submit_lists _ _ s h)⟩
  unfold completeClearing
  dsimp only
  split
  · split
    · split
      · exact ((submit_kept _ _ s).trans (removeOrder_kept _ _)).trans
          (moveTo_kept _ _ _ fun _ => redirect_ne_free _ _ (by simp))
      · exact (submit_kept _ _ s).trans (moveTo_kept _ _ _ fun _ => redirect_ne_free _ _ (by simp))
    · exact returned _
  · exact returned _

theorem completeTransient_kept (n : Nat) (s : State) : RecordsKept s (completeTransient n s) := by
  unfold completeTransient
  dsimp only
  split
  · exact .refl s
  · split
    · exact .refl s
    · split
      · exact completeLoading_kept _ _
      · exact completePickup_kept _ _
      · exact completeClearing_kept _ _
      · exact .refl s

/-! ### Polls (R5, R8) -/

theorem resolveOffline_kept (n : Nat) (s : State) : RecordsKept s (resolveOffline n s) := by
  unfold resolveOffline
  dsimp only
  split
  · exact .refl s
  · split
    · split
      · exact announced_kept _ _ _ _ _
      · exact quarantine_kept _ _
    · split
      · exact (moveTo_kept _ _ s fun _ => redirect_ne_free _ _ (by simp)).trans (submit_kept _ _ _)
      · exact quarantine_kept _ _

theorem occupancyCheck_kept (n : Nat) (s : State) : RecordsKept s (occupancyCheck n s) := by
  unfold occupancyCheck
  dsimp only
  split
  · split
    · exact quarantine_kept _ _
    · exact .refl s
  · exact .refl s

theorem examineDoorHeld_kept (n : Nat) (s : State) : RecordsKept s (examineDoorHeld n s) := by
  unfold examineDoorHeld
  dsimp only
  split
  · exact (modLocker_kept _ _ s rfl).trans (submit_kept _ _ _)
  · exact .refl s

theorem doorHeldBookkeeping_kept (n : Nat) (b : Locker) (s : State) : RecordsKept s (doorHeldBookkeeping n b s) := by
  unfold doorHeldBookkeeping
  dsimp only
  split
  · exact .refl s
  · split
    · exact (modLocker_kept _ _ s rfl).trans (examineDoorHeld_kept _ _)
    · exact examineDoorHeld_kept _ _

theorem ifStill_kept (p : Phase) (n : Nat) (f : State → State) (hf : ∀ x, RecordsKept x (f x)) (s : State) :
    RecordsKept s (ifStill p n f s) := by
  unfold ifStill
  split
  · exact hf s
  · exact .refl s

theorem goodPoll_kept (n : Nat) (o : Observation) (m : Bool) (s : State) : RecordsKept s (goodPoll n o m s) :=
  ((((modLocker_kept n (Locker.observe o) s rfl).trans (faultChecks_kept _ _ _ _)).trans
    (ifStill_kept _ _ _ (resolveOffline_kept n) _)).trans
    (ifStill_kept _ _ _ (completeTransient_kept n) _)).trans
    ((ifStill_kept _ _ _ (occupancyCheck_kept n) _).trans (doorHeldBookkeeping_kept _ _ _))

theorem failedPoll_kept (n : Nat) (s : State) : RecordsKept s (failedPoll n s) := by
  unfold failedPoll
  dsimp only
  split
  · exact (modLocker_kept _ _ s rfl).trans (goOffline_kept _ _ _)
  · exact modLocker_kept _ _ s rfl

/-! ### Purges, discovery, the reset notice (R24, R188, R190, R196) -/

theorem purgeDone_kept (n : Nat) (s : State) : RecordsKept s (purgeDone n s) := by
  unfold purgeDone
  split
  · exact announced_kept _ _ _ _ _
  · exact .refl s

theorem setAside_kept (n : Nat) (s : State) : RecordsKept s (setAside n s) := by
  unfold setAside
  dsimp only
  split
  · exact .refl s
  · exact moveTo_kept _ _ _ (by simp)

theorem setAsideAll_kept (s : State) : RecordsKept s (setAsideAll s) :=
  RecordsKept.foldl _ (fun x n => setAside_kept n x) _ s

theorem resetNotice_kept (s : State) : RecordsKept s s.resetNotice := mapLockers_kept _ s fun _ => rfl

theorem settleProbed_kept (n : Nat) (on mark : Bool) (s : State) : RecordsKept s (settleProbed n on mark s) := by
  unfold settleProbed
  dsimp only
  split
  · exact (moveTo_kept _ _ s (by simp)).trans (submit_kept _ _ _)
  · split
    · split
      · exact (setExcluded_kept _ s).trans (moveTo_kept _ _ _ (by simp))
      · exact ((setExcluded_kept _ s).trans (moveTo_kept _ _ _ (by simp))).trans (submit_kept _ _ _)
    · split
      · exact moveTo_kept _ _ s fun _ => redirect_ne_free _ _ (by simp)
      · exact (moveTo_kept _ _ s (by simp)).trans (submit_kept _ _ _)

theorem probeFailed_kept (n : Nat) (s : State) : RecordsKept s (probeFailed n s) :=
  (moveTo_kept _ _ _ (by simp)).trans (modLocker_kept _ _ _ rfl)

theorem elapse_kept (d : Nat) (s : State) : RecordsKept s (s.elapse d) := by
  refine .quiet rfl (fun n => ?_) id
  by_cases hn : n < 48
  · rw [State.elapse_locker s d n hn]
    rfl
  · rw [State.locker_out _ n (by omega), State.locker_out _ n (by omega)]

/-! ### Door requests at acceptance (R13, R15, R17) -/

/-- A record that is not FREE enters a phase that is not FREE. -/
theorem modEnter_kept (p : Phase) (n : Nat) (s : State) (ho : (s.locker n).phase ≠ .free) (hp : p ≠ .free) :
    RecordsKept s (s.modLocker n (Locker.enter p)) :=
  setLocker_kept n _ s ho (by simpa using hp) (enter_origin_ne _ _)

theorem enterClearing_kept (n : Nat) (s : State) (h : (s.locker n).phase ≠ .free) :
    RecordsKept s (enterClearing n s) :=
  setLocker_kept n _ s h (by simp) fun _ => by simpa using h

/-! ### Layout writes and fence writes (R1, R2, R36, R171, R179) -/

theorem layoutPhase_origin_ne (e : LayoutEntry) (l : Locker) (h : l.clearOrigin ≠ some .free) :
    ((l.copyLayout e).layoutPhase e).clearOrigin ≠ some .free := by
  have copied : (l.copyLayout e).clearOrigin ≠ some .free := h
  unfold Locker.layoutPhase
  split
  · split
    · exact enter_origin_ne .offline _ copied
    · exact copied
  · split
    · exact copied
    · exact enter_origin_ne .absent _ copied

theorem layoutPhase_ne_free (e : LayoutEntry) (l : Locker) (h : l.phase ≠ .free ∨ e.populated = false) :
    ((l.copyLayout e).layoutPhase e).phase ≠ .free := by
  have copied : (l.copyLayout e).phase = l.phase := rfl
  unfold Locker.layoutPhase
  split
  case isTrue hp =>
    split
    · simp
    · exact copied ▸ h.resolve_right (by simp [hp])
  case isFalse =>
    split
    case isTrue ha => simp [ha]
    case isFalse => simp

/-- A FREE locker that stays populated keeps its phase and fence and takes the class written (R1). -/
theorem layoutPhase_free (e : LayoutEntry) (l : Locker) (hp : e.populated = true) (hl : l.phase = .free) :
    (l.copyLayout e).layoutPhase e = l.copyLayout e := by
  have copied : (l.copyLayout e).phase = .free := hl
  simp [Locker.layoutPhase, hp, copied]

theorem layoutAccepted_ordersKept (n : Nat) (e : LayoutEntry) (s : State) :
    OrdersKept s (layoutAccepted n e s) := by
  unfold layoutAccepted
  dsimp only
  have written := setLocker_ordersKept n (((s.locker n).copyLayout e).layoutPhase e) s
  split
  · split
    · exact written.trans (leftFree_ordersKept _ _ _)
    · split
      · exact (written.trans (leftFree_ordersKept _ _ _)).trans (becameFree_ordersKept _ _)
      · exact written
  · exact written

theorem layoutAccepted_kept (n : Nat) (e : LayoutEntry) (s : State) : RecordsKept s (layoutAccepted n e s) := by
  refine ⟨layoutAccepted_ordersKept n e s, fun h => ?_⟩
  have origin := layoutPhase_origin_ne e (s.locker n) (h.2.2 n)
  by_cases hp : (s.locker n).phase = .free
  case neg =>
    have : layoutAccepted n e s = s.setLocker n (((s.locker n).copyLayout e).layoutPhase e) := by
      simp [layoutAccepted, hp]
    rw [this]
    exact (setLocker_kept n _ s hp (layoutPhase_ne_free e _ (.inl hp)) fun _ => origin).lists h
  have hn : n < 48 := by
    by_contra hn
    rw [State.locker_out s n (by omega)] at hp
    simp [Locker.blank] at hp
  have out : ExactBut n (leftFree (s.locker n).cls n
      (s.setLocker n (((s.locker n).copyLayout e).layoutPhase e))) := by
    rw [leftFree_setLocker]
    exact setLocker_exactBut _ (leftFree_exactBut n s (.inl h)) origin
  have record : (leftFree (s.locker n).cls n
      (s.setLocker n (((s.locker n).copyLayout e).layoutPhase e))).locker n =
        ((s.locker n).copyLayout e).layoutPhase e := by
    rw [leftFree_locker, State.setLocker_same _ _ _ hn]
  unfold layoutAccepted
  dsimp only
  rw [if_pos hp]
  split
  case isTrue hpop =>
    refine out.exact (not_listed_of_phase ?_)
    rw [record]
    exact layoutPhase_ne_free e _ (.inr hpop)
  case isFalse hpop =>
    have same := layoutPhase_free e (s.locker n) (by simpa using hpop) hp
    split
    case isTrue =>
      refine becameFree_lists n _ ?_ out
      rw [record, same]
      exact hp
    case isFalse hc =>
      refine exact_congr h (fun c => by simp) fun m => ?_
      by_cases hm : m = n
      · subst hm
        rw [State.setLocker_same _ _ _ hn, same]
        simp only [not_not] at hc
        simp [standing, Locker.copyLayout, hc]
      · rw [State.setLocker_ne _ _ _ _ hm]

/-- A recomputation of the fence leaves the lists exact for the new fences (R2, R36). -/
theorem fenceMoved_lists (s : State) (h : s.FreeListsExact) : (fenceMoved s).FreeListsExact := by
  have lists := fenceMoved_freeList s h
  have record n (hn : n < 48) := fenceMoved_locker s n hn
  obtain ⟨hmem, honce, horigin⟩ := h
  have low c n (hn : n ∈ s.freeList c) : n < 48 := by
    by_contra hout
    have := ((hmem c n).mp hn).1
    rw [State.locker_out s n (by omega)] at this
    simp [Locker.blank] at this
  refine freeListsExact_of_below _ (fun c n hn => ?_) (fun c n hn => ?_) (fun c => ?_) fun n hn => ?_
  · rw [lists] at hn
    rcases List.mem_append.mp hn with hn | hn
    · exact low c n (List.mem_of_mem_filter hn)
    · simpa [Config.allLockers] using List.mem_of_mem_filter hn
  · rw [lists, record n hn]
    simp only [List.mem_append, List.mem_filter, hmem]
    cases (s.locker n).fenced <;> cases fenceCovers s.params n <;> simp [Config.allLockers, hn]
  · rw [lists]
    refine List.nodup_append.mpr ⟨(honce c).filter _, List.nodup_range.filter _, fun a ha b hb => ?_⟩
    rintro rfl
    have free := ((hmem c a).mp (List.mem_of_mem_filter ha)).2.1
    simp [free] at hb
  · rw [record n hn]
    exact horigin n

theorem fenceMoved_kept (s : State) : RecordsKept s (fenceMoved s) := by
  have h : fenceMoved s = _ := fenceMoved_listsOnly s
  refine ⟨.of_same ?_ ?_ ?_ ?_, fenceMoved_lists s⟩ <;> rw [h]
  · rfl
  · rfl
  · rfl
  · exact id

theorem recomputeFence_kept (s : State) : RecordsKept s (recomputeFence s) := by
  rw [recomputeFence_eq]
  split
  · exact (fenceMoved_kept s).trans (pendingSweep_kept _)
  · exact fenceMoved_kept s

theorem paramActs_kept (p : Nat) (x : Bool) (s : State) : RecordsKept s (paramActs p x s) := by
  unfold paramActs
  split
  · exact RecordsKept.foldl _ (fun x n => examineDoorHeld_kept n x) _ s
  · split
    · exact pendingSweep_kept s
    · exact .refl s
  · exact recomputeFence_kept s
  · exact recomputeFence_kept s
  · exact recomputeFence_kept s
  · exact .refl s

end Sys2Proof.Proofs

/-! ## The laws of orders and free lists at the hold tick (R46, R47, R55 to R61) -/

namespace Sys2Proof.Proofs

open Sys2Proof.Machine

variable {s t u : State}

/-! ### The charge (R59, R60) -/

/-- A charge keeps the hold fields in range (R55, R59). -/
theorem charge_inRange (floor : Int) (x : Option Int) (h : Hold) (hr : h.life ≤ 7200 ∧ h.cold ≤ 65535) :
    (h.charge floor x).life ≤ 7200 ∧ (h.charge floor x).cold ≤ 65535 := by
  obtain ⟨hl, hc⟩ := hr
  refine ⟨(Nat.sub_le _ _).trans hl, ?_⟩
  simp only [Hold.charge]
  split
  · exact Nat.min_le_right _ _
  · exact hc

theorem chargeOrder_kept (n : Nat) (l : Locker) (o : Order) (h : Hold) (s : State)
    (hr : s.HoldInRange → h.life ≤ 7200 ∧ h.cold ≤ 65535) : RecordsKept s (chargeOrder n l o h s) := by
  have charged (w : Bool) : RecordsKept s (s.modOrder o.id fun x =>
      { x with hold := some { h.charge (s.profile o.profile).floor (freshSample s l) with warned := w } }) :=
    modHold_kept _ _ s (fun _ => rfl) fun hs _ _ k hk => by
      cases hk
      exact charge_inRange _ _ h (hr hs)
  unfold chargeOrder
  dsimp only
  split
  · exact (charged _).trans (condemn_kept _ _ _)
  · split
    · exact (charged true).trans (submit_kept _ _ _)
    · exact charged _

theorem chargeLocker_kept (n : Nat) (s : State) : RecordsKept s (chargeLocker n s) := by
  unfold chargeLocker
  dsimp only
  split
  case h_1 o ho =>
    split
    case h_1 h hh =>
      split
      · refine chargeOrder_kept n _ o h s fun hs => ?_
        obtain ⟨id, -, hf⟩ := Option.bind_eq_some_iff.mp ho
        exact (hs o (s.order_mem id o hf)).2.2 h hh
      · exact .refl s
    · exact .refl s
  · exact .refl s

/-! ### Pending ages (R46) -/

theorem agePending_eq (o : Order) : o.agePending = { o with status := o.agePending.status } := by
  unfold Order.agePending
  split <;> rfl

theorem agePending_isPending (o : Order) : o.agePending.isPending = o.isPending := by
  unfold Order.agePending
  split
  case h_1 a h => simp [Order.isPending, h]
  case h_2 => rfl

/-- Orders rewritten one by one in status alone, each of its kind. -/
theorem mapStatus_kept (g : Order → Order) (s : State) (hg : ∀ o, g o = { o with status := (g o).status })
    (hp : s.OrdersConsistent → ∀ o ∈ s.oru.orders, (g o).isPending = o.isPending) :
    RecordsKept s { s with oru := { s.oru with orders := s.oru.orders.map g } } := by
  refine OrdersKept.withLists (.map g rfl rfl rfl (fun h => h) (fun o => by rw [hg]) (fun o => by rw [hg]) hp
    (fun o k _ hk => by rw [hg]; exact hk) fun _ o _ h => ?_) (fun c => by cases c <;> rfl) fun n => rfl
  rw [hg]
  exact h

theorem expirePending_kept (id : Nat) (s : State) : RecordsKept s (expirePending id s) := by
  unfold expirePending
  split
  · split
    · split
      · exact (submit_kept _ _ s).trans (removeOrder_kept _ _)
      · exact .refl s
    · exact .refl s
  · exact .refl s

theorem agePendingOrders_kept (s : State) : RecordsKept s (agePendingOrders s) :=
  (mapStatus_kept _ s agePending_eq fun _ o _ => agePending_isPending o).trans
    (RecordsKept.foldl _ (fun x i => expirePending_kept i x) _ _)

/-! ### Reserved ages (R47) -/

/-- What the LOAD_LATE of `o` makes of an order: late-reported, if it is `o` (R47). -/
def markLate (o x : Order) : Order :=
  match o.status with
  | .placed n a _ => if loadLateDue o = true ∧ x.id = o.id then { x with status := .placed n a true } else x
  | .pending _ => x

/-- What the LOAD_LATEs of several orders make of one. -/
def marksLate (os : List Order) (x : Order) : Order := os.foldl (fun x o => markLate o x) x

theorem examineLoadLate_oru (o : Order) (s : State) :
    (examineLoadLate o s).oru = { s.oru with orders := s.oru.orders.map (markLate o) } := by
  cases h : o.status with
  | pending a =>
    have unmarked : markLate o = id := by
      funext x
      simp [markLate, h]
    simp [examineLoadLate, h, unmarked]
  | placed n a late =>
    have marked : markLate o =
        fun x => if loadLateDue o = true ∧ x.id = o.id then { x with status := .placed n a true } else x := by
      funext x
      simp [markLate, h]
    by_cases hd : loadLateDue o = true
    · simp [examineLoadLate, h, hd, marked, State.modOrder]
    · simp [examineLoadLate, h, hd, marked]

theorem markLate_eq (o x : Order) : markLate o x = { x with status := (markLate o x).status } := by
  unfold markLate
  split
  · split <;> rfl
  · rfl

theorem markLate_of_ne (o x : Order) (h : x.id ≠ o.id) : markLate o x = x := by
  unfold markLate
  split <;> simp [h]

theorem markLate_placed (o x : Order) (h : x.isPending = false) : (markLate o x).isPending = false := by
  unfold markLate
  split
  · split
    · rfl
    · exact h
  · exact h

theorem marksLate_eq (os : List Order) (x : Order) : marksLate os x = { x with status := (marksLate os x).status } := by
  unfold marksLate
  induction os generalizing x with
  | nil => rfl
  | cons o os ih =>
    rw [List.foldl_cons, ih]
    rw [markLate_eq o x]

theorem marksLate_of_ne (os : List Order) (x : Order) (h : ∀ o ∈ os, x.id ≠ o.id) : marksLate os x = x := by
  unfold marksLate
  induction os with
  | nil => rfl
  | cons o os ih =>
    rw [List.foldl_cons, markLate_of_ne o x (h o (by simp))]
    exact ih fun y hy => h y (List.mem_cons_of_mem _ hy)

theorem marksLate_placed (os : List Order) (x : Order) (h : x.isPending = false) :
    (marksLate os x).isPending = false := by
  unfold marksLate
  induction os generalizing x with
  | nil => exact h
  | cons o os ih => exact ih _ (markLate_placed o x h)

theorem foldl_examineLoadLate_oru (os : List Order) (s : State) :
    (os.foldl (fun s o => examineLoadLate o s) s).oru =
      { s.oru with orders := s.oru.orders.map (marksLate os) } := by
  induction os generalizing s with
  | nil =>
    have none : marksLate [] = id := rfl
    simp [none]
  | cons o os ih =>
    rw [List.foldl_cons, ih, examineLoadLate_oru, List.map_map]
    rfl

theorem examineLoadLate_locker (o : Order) (n : Nat) (s : State) :
    (examineLoadLate o s).locker n = s.locker n := by
  unfold examineLoadLate
  split
  · split <;> simp
  · rfl

theorem examineLoadLate_reports (o : Order) (s : State) (h : s.lki.reportQ.length ≤ 32) :
    (examineLoadLate o s).lki.reportQ.length ≤ 32 := by
  unfold examineLoadLate
  split
  · split
    · exact submit_length _ _ _ h
    · exact h
  · exact h

theorem foldl_examineLoadLate_locker (os : List Order) (n : Nat) (s : State) :
    (os.foldl (fun s o => examineLoadLate o s) s).locker n = s.locker n := by
  induction os generalizing s with
  | nil => rfl
  | cons o os ih => exact (ih _).trans (examineLoadLate_locker o n s)

theorem foldl_examineLoadLate_reports (os : List Order) (s : State) (h : s.lki.reportQ.length ≤ 32) :
    (os.foldl (fun s o => examineLoadLate o s) s).lki.reportQ.length ≤ 32 := by
  induction os generalizing s with
  | nil => exact h
  | cons o os ih => exact ih _ (examineLoadLate_reports o s h)

/-- LOAD_LATE is reported of PLACED orders, so that no order of the table changes its kind (R34, R47). -/
theorem foldl_examineLoadLate_kept (os : List Order) (s : State)
    (hos : ∀ o ∈ os, o ∈ s.oru.orders ∧ loadLateDue o = true) :
    RecordsKept s (os.foldl (fun s o => examineLoadLate o s) s) := by
  have oru := foldl_examineLoadLate_oru os s
  refine OrdersKept.withLists (.map (marksLate os) (by rw [oru]) (by rw [oru]) (by rw [oru])
    (foldl_examineLoadLate_reports os s) (fun o => by rw [marksLate_eq]) (fun o => by rw [marksLate_eq])
    (fun hs x hx => ?_) (fun o k _ hk => by rw [marksLate_eq]; exact hk) fun _ o _ h => by rw [marksLate_eq]; exact h)
    (fun c => ?_) fun n => by rw [foldl_examineLoadLate_locker]
  · cases hw : x.isPending with
    | false => exact marksLate_placed os x hw
    | true =>
      rw [marksLate_of_ne os x, hw]
      intro o ho he
      obtain ⟨hmem, hdue⟩ := hos o ho
      have : x = o := List.inj_on_of_nodup_map hs.2.1 hx hmem he
      subst this
      unfold Order.isPending at hw
      unfold loadLateDue at hdue
      split at hw <;> simp_all
  · cases c <;> simp only [State.freeList, oru]

theorem ageReserved_eq (o : Order) : o.ageReserved = { o with status := o.ageReserved.status } := by
  unfold Order.ageReserved
  split
  · split <;> rfl
  · rfl

theorem ageReserved_isPending (o : Order) : o.ageReserved.isPending = o.isPending := by
  unfold Order.ageReserved
  split
  case h_1 n a late h =>
    split
    · rfl
    · simp [Order.isPending, h]
  case h_2 => rfl

theorem ageReservedOrders_kept (s : State) : RecordsKept s (ageReservedOrders s) :=
  (mapStatus_kept _ s ageReserved_eq fun _ o _ => ageReserved_isPending o).trans
    (foldl_examineLoadLate_kept _ _ fun _ ho => List.mem_filter.mp (sortByRank_mem _ _ _ ho))

theorem holdTick_kept (s : State) : RecordsKept s (holdTick s) :=
  ((RecordsKept.foldl _ (fun x n => chargeLocker_kept n x) _ s).trans (agePendingOrders_kept _)).trans
    (ageReservedOrders_kept _)

/-! ### The frame start's acts on the records (R74, R82 to R86) -/

theorem suspendOrResume_kept (n : Nat) (s : State) : RecordsKept s (suspendOrResume n s) := by
  unfold suspendOrResume
  dsimp only
  split
  · exact .refl s
  · split
    · exact (modLocker_kept _ _ s rfl).trans (submit_kept _ _ _)
    · split
      · exact (modLocker_kept _ _ s rfl).trans (submit_kept _ _ _)
      · exact .refl s

theorem examineInhibit_kept (n : Nat) (s : State) : RecordsKept s (examineInhibit n s) := by
  unfold examineInhibit
  dsimp only
  split
  · split
    · exact (modLocker_kept _ _ s rfl).trans (submit_kept _ _ _)
    · split
      · exact (modLocker_kept _ _ s rfl).trans (submit_kept _ _ _)
      · exact .refl s
  · exact .refl s

theorem creditAndStarve_kept (d : List Nat) (m : Vector (List Nat) 48) (ts : List Nat) (n : Nat) (s : State) :
    RecordsKept s (creditAndStarve d m ts n s) := by
  have credited (p dm g : Nat) (x : Bool) : RecordsKept s (s.setLocker n (creditLocker p dm g x (s.locker n))) :=
    modLocker_kept n (creditLocker p dm g x) s rfl
  unfold creditAndStarve
  dsimp only
  split
  · exact (credited _ _ _ _).trans (submit_kept _ _ _)
  · exact credited _ _ _ _

end Sys2Proof.Proofs

/-! ## The laws of orders, free lists and capacities under the acts on commands, bus and link (R30, R34, R93, R112, R113, R124, R136, R143) -/

namespace Sys2Proof.Proofs

open Sys2Proof.Machine

variable {s t u : State}

/-- What a step keeps: the laws of orders and free lists, the capacities of TXU and LKI (R112, R113, R124, R136), the
attempt of the exchange in flight (R93). -/
structure Kept (s t : State) : Prop extends RecordsKept s t where
  table : s.txu.table.length ≤ 8 → t.txu.table.length ≤ 8
  posted : s.txu.posted.length ≤ 8 → t.txu.posted.length ≤ 8
  recent : s.txu.recent.length ≤ 8 → t.txu.recent.length ≤ 8
  places : s.lki.placesHeld ≤ 32 → t.lki.placesHeld ≤ 32
  attempts : s.AttemptsInRange → t.AttemptsInRange

theorem Kept.trans (h : Kept s t) (k : Kept t u) : Kept s u :=
  ⟨h.toRecordsKept.trans k.toRecordsKept, k.table ∘ h.table, k.posted ∘ h.posted, k.recent ∘ h.recent,
    k.places ∘ h.places, k.attempts ∘ h.attempts⟩

/-- The capacities, taken together. -/
theorem Kept.capacity (h : Kept s t) (k : s.WithinCapacity) : t.WithinCapacity := by
  obtain ⟨ho, hq, ht, hp, hr, hl, hh⟩ := k
  exact ⟨h.orders ho, h.queue hq, h.table ht, h.posted hp, h.recent hr, h.reports hl, h.places hh⟩

/-! ### The smallest acts -/

/-- An act that leaves orders and records alone. -/
theorem Kept.of_same (ho : t.oru = s.oru) (hl : t.ltu.lockers = s.ltu.lockers)
    (hq : s.lki.reportQ.length ≤ 32 → t.lki.reportQ.length ≤ 32)
    (ht : s.txu.table.length ≤ 8 → t.txu.table.length ≤ 8)
    (hp : s.txu.posted.length ≤ 8 → t.txu.posted.length ≤ 8)
    (hr : s.txu.recent.length ≤ 8 → t.txu.recent.length ≤ 8)
    (hh : s.lki.placesHeld ≤ 32 → t.lki.placesHeld ≤ 32) (ha : s.AttemptsInRange → t.AttemptsInRange) : Kept s t :=
  ⟨.quiet ho (fun n => by simp only [State.locker, hl]) hq, ht, hp, hr, hh, ha⟩

theorem Kept.refl (s : State) : Kept s s := .of_same rfl rfl id id id id id id

theorem Kept.foldl {α : Type} (f : State → α → State) (hf : ∀ x a, Kept x (f x a)) (as : List α) (s : State) :
    Kept s (as.foldl f s) := by
  induction as generalizing s with
  | nil => exact .refl s
  | cons a as ih => exact (hf s a).trans (ih _)

/-- An act on the records is no act on commands, places or the bus. -/
theorem RecordsKept.kept (h : RecordsKept s t) (r : RecordsOnly s t) : Kept s t := by
  refine ⟨h, ?_, ?_, ?_, ?_, ?_⟩
  · rw [r.txu]; exact id
  · rw [r.txu]; exact id
  · rw [r.txu]; exact id
  · rw [r.placesHeld]; exact id
  · unfold State.AttemptsInRange
    rw [r.bbm]
    exact id

/-- An act on the link alone. -/
theorem onlyLink_kept (h : OnlyLink s t) (hq : s.lki.reportQ.length ≤ 32 → t.lki.reportQ.length ≤ 32)
    (hh : s.lki.placesHeld ≤ 32 → t.lki.placesHeld ≤ 32) : Kept s t := by
  refine .of_same h.oru (by rw [h.ltu]) hq ?_ ?_ ?_ hh ?_
  · rw [h.txu]; exact id
  · rw [h.txu]; exact id
  · rw [h.txu]; exact id
  · unfold State.AttemptsInRange
    rw [h.bbm]
    exact id

theorem submit_keeps (k : ReportKind) (fs : List Field) (s : State) : Kept s (submit k fs s) :=
  (submit_kept k fs s).kept (submit_records k fs s)

theorem submitTagged_keeps (tag : Nat) (k : ReportKind) (fs : List Field) (s : State) :
    Kept s (submitTagged tag k fs s) := (submitTagged_kept tag k fs s).kept (submitTagged_records tag k fs s)

theorem elapse_keeps (d : Nat) (s : State) : Kept s (s.elapse d) :=
  ⟨elapse_kept d s, id, id, id, id, id⟩

/-- A change of BBM's state that leaves the exchange in flight alone. -/
theorem withBbm_keeps (b : Bbm) (s : State) (h : b.exchange = s.bbm.exchange) : Kept s (s.withBbm b) :=
  .of_same rfl rfl id id id id id fun k x hx => k x (h ▸ hx)

/-- A change of LTU's discovery state. -/
theorem withLtu_keeps (l : Ltu) (s : State) (h : l.lockers = s.ltu.lockers) : Kept s (s.withLtu l) :=
  .of_same rfl h id id id id id id

theorem clearPorts_keeps (s : State) : Kept s s.clearPorts := .of_same rfl rfl id id id id id id

/-! ### The concourse link (R136, R140, R143, R144) -/

theorem answer_keeps (k : Kind) (tag : Nat) (st : Status) (b : List Field) (s : State) :
    Kept s (answer k tag st b s) := .of_same rfl rfl id id id id id id

theorem submitReportsLost_keeps (s : State) : Kept s (submitReportsLost s) :=
  onlyLink_kept (submitReportsLost_onlyLink s) (submitReportsLost_length s) (by rw [submitReportsLost_eq]; exact id)

theorem chooseTransmit_keeps (s : State) : Kept s (chooseTransmit s) := by
  unfold chooseTransmit
  split
  · exact .refl s
  · split
    · exact .of_same rfl rfl id id id id (fun h => (Nat.sub_le _ _).trans h) id
    · split
      case h_1 r rest hq =>
        refine Kept.trans (t := beginTransmit (.report r) (s.withLki { s.lki with reportQ := rest })) ?_
          (submitReportsLost_keeps _)
        refine .of_same rfl rfl (fun h => ?_) id id id id id
        have : s.lki.reportQ.length ≤ 32 := h
        rw [hq] at this
        exact (Nat.le_succ _).trans this
      case h_2 => exact .refl s

theorem discardFrame_keeps (c : LinkError) (s : State) : Kept s (discardFrame c s) :=
  .of_same rfl rfl id id id id id id

theorem heard_keeps (s : State) : Kept s s.heard := by
  refine onlyLink_kept (heard_onlyLink s) (fun h => ?_) (by simp)
  unfold State.heard hearValidFrame
  dsimp only
  split
  · exact submit_length _ _ _ h
  · exact h

/-- A request that finds a free place holds it (R136). -/
theorem accepted_keeps (s : State) (h : s.lki.placesHeld < 32) : Kept s s.accepted :=
  (heard_keeps s).trans (.of_same rfl rfl id id id id (fun _ => by simp; omega) id)

theorem setRx_keeps (r : RxFramer) (g : Option Nat) (s : State) : Kept s (s.setRx r g) :=
  .of_same rfl rfl id id id id id id

/-! ### The panel (R159, R163) -/

theorem display_keeps (m : PanelMessage) (s : State) : Kept s (display m s) := .of_same rfl rfl id id id id id id

theorem dropRelease_keeps (n : Nat) (s : State) : Kept s (dropRelease n s) := .of_same rfl rfl id id id id id id

theorem reportRefused_keeps (m : PanelMessage) (c : PanelCause) (id n : Option Nat) (s : State) :
    Kept s (reportRefused m c id n s) := submit_keeps _ _ _

theorem panelReleaseEnd_keeps (n : Nat) (o : CmdOutcome) (s : State) : Kept s (panelReleaseEnd n o s) := by
  have shown (m : PanelMessage) : Kept s (display m (dropRelease n s)) :=
    (dropRelease_keeps n s).trans (display_keeps m _)
  unfold panelReleaseEnd
  dsimp only
  split
  · exact (shown _).trans (submit_keeps _ _ _)
  · exact (shown _).trans (reportRefused_keeps _ _ _ _ _)

/-! ### Commands (chapter 06) -/

/-- An entry is taken where the table has room (R112, R118). -/
theorem addEntry_keeps (o : Origin) (tag : Option Nat) (r : CmdRequest) (n : Nat) (d : Option Door) (i : Option Nat)
    (s : State) (h : s.txu.table.length < 8) : Kept s (addEntry o tag r n d i s) :=
  .of_same rfl rfl id (fun _ => by simp [addEntry]; omega) id id id id

theorem addPosted_keeps (n tag : Nat) (c : PostedContent) (s : State) (h : s.txu.posted.length < 8) :
    Kept s (addPosted n tag c s) :=
  .of_same rfl rfl id id (fun _ => by simp [addPosted]; omega) id id id

theorem tableTakes_room (s : State) (n : Nat) (h : tableTakes s n = true) : s.txu.table.length < 8 := by
  simp only [tableTakes, Bool.and_eq_true, decide_eq_true_eq] at h
  exact h.1

theorem checkServer_room (s : State) (tag n : Nat) (h : checkServer s tag n = none) : s.txu.table.length < 8 := by
  unfold checkServer at h
  split at h
  · cases h
  · split at h
    case isTrue ht => exact tableTakes_room s n ht
    case isFalse => cases h

theorem putOnBus_keeps (q : Nat) (s : State) : Kept s (putOnBus q s) :=
  .of_same rfl rfl id (by simp [putOnBus]) (by simp [putOnBus]) id id id

theorem removeEntry_keeps (q : Nat) (s : State) : Kept s (removeEntry q s) :=
  .of_same rfl rfl id (fun h => (List.length_filter_le _ _).trans h) id id id id

theorem removePosted_keeps (q : Nat) (s : State) : Kept s (removePosted q s) :=
  .of_same rfl rfl id id (fun h => (List.length_filter_le _ _).trans h) id id id

/-- At most eight recent completions are kept (R124). -/
theorem addRecent_length (tag : Nat) (r : List Nat) : (addRecent tag r).length ≤ 8 := by
  simp only [addRecent, List.length_drop]
  omega

theorem completeEntry_keeps (e : Entry) (o : CmdOutcome) (s : State) : Kept s (completeEntry e o s) := by
  have gone := removeEntry_keeps e.seq s
  unfold completeEntry
  dsimp only
  split
  · exact gone.trans (panelReleaseEnd_keeps _ _ _)
  · split
    · exact gone
    · exact (gone.trans (answer_keeps _ _ _ _ _)).trans
        (.of_same rfl rfl id id id (fun _ => addRecent_length _ _) id id)

theorem lockerCommandEnd_keeps (e : Entry) (o : CmdOutcome) (s : State) : Kept s (lockerCommandEnd e o s) :=
  (lockerCommandEnd_kept e o s).kept (lockerCommandEnd_records e o s)

theorem endConfirmed_keeps (e : Entry) (o : CmdOutcome) (s : State) : Kept s (endConfirmed e o s) :=
  (lockerCommandEnd_keeps e o s).trans (completeEntry_keeps _ _ _)

theorem countPostedLost_keeps (s : State) : Kept s (countPostedLost s) := .of_same rfl rfl id id id id id id

theorem endPosted_keeps (p : Posted) (o : CmdOutcome) (s : State) : Kept s (endPosted p o s) := by
  have gone := removePosted_keeps p.seq s
  have counted := gone.trans (countPostedLost_keeps _)
  unfold endPosted
  dsimp only
  split
  · exact gone
  · split
    · exact counted.trans (submit_keeps _ _ _)
    · exact counted
  · exact counted.trans (submit_keeps _ _ _)
  · exact counted

theorem endCommand_keeps (q : Nat) (o : CmdOutcome) (s : State) : Kept s (endCommand q o s) := by
  unfold endCommand
  split
  · exact endConfirmed_keeps _ _ _
  · split
    · exact endPosted_keeps _ _ _
    · exact .refl s

theorem discardPosted_keeps (s : State) : Kept s (discardPosted s) :=
  .of_same rfl rfl id id (fun h => (List.length_filter_le _ _).trans h) id id id

theorem txuBankReset_keeps (s : State) : Kept s (txuBankReset s) :=
  (Kept.foldl _ (fun x q => endCommand_keeps q _ x) _ s).trans (discardPosted_keeps _)

theorem acceptLongOp_keeps (k : Kind) (op : LongOpKind) (tag : Nat) (s : State) :
    Kept s (acceptLongOp k op tag s) := .of_same rfl rfl id id id id id id

theorem endLongOp_keeps (st : Status) (s : State) : Kept s (endLongOp st s) := by
  have freed (x : State) : Kept x (x.withTxu { x.txu with longOp := none }) := .of_same rfl rfl id id id id id id
  unfold endLongOp
  split
  · exact .refl s
  · dsimp only
    split
    · exact (submitTagged_keeps _ _ _ s).trans (freed _)
    · exact freed s

/-! ### The poll cycle and the arbiter (chapter 05) -/

theorem startGap_keeps (s : State) : Kept s (startGap s) := by
  unfold startGap
  split <;> exact withBbm_keeps _ s rfl

theorem beginCycle_keeps (s : State) : Kept s (beginCycle s) := by
  have begun : Kept s (s.withBbm { s.bbm with cycle := .running, cursor := 0, pollGap := none }) :=
    withBbm_keeps _ s rfl
  unfold beginCycle
  dsimp only
  split
  · exact begun.trans (startGap_keeps _)
  · exact begun

theorem endOfPoll_keeps (s : State) : Kept s (endOfPoll s) := by
  unfold endOfPoll
  split
  · exact startGap_keeps s
  · exact .refl s

theorem cycleAfterLayoutWrite_keeps (s : State) : Kept s (cycleAfterLayoutWrite s) := by
  unfold cycleAfterLayoutWrite
  split
  · exact startGap_keeps s
  · exact .refl s

theorem cycleAfterQuiet_keeps (s : State) : Kept s (cycleAfterQuiet s) := by
  unfold cycleAfterQuiet
  split
  · exact startGap_keeps s
  · exact .refl s

/-- The exchange `x` comes on the bus. -/
theorem exchange_attempts (x : Exchange) (h : t.bbm.exchange = some x) (hx : x.AttemptInRange) : t.AttemptsInRange := by
  intro y hy
  rw [h] at hy
  cases hy
  exact hx

theorem no_exchange_attempts (h : t.bbm.exchange = none) : t.AttemptsInRange := by
  intro y hy
  rw [h] at hy
  cases hy

/-- An exchange begins with its first attempt (R93). -/
theorem first_attempt : 1 ≤ 1 ∧ 1 ≤ 3 := by decide

theorem beginBroadcast_keeps (s : State) : Kept s (beginBroadcast s) :=
  .of_same rfl rfl id id id id id fun _ => exchange_attempts _ rfl trivial

theorem beginPoll_keeps (r : PollRequest) (s : State) : Kept s (beginPoll r s) := by
  cases r <;> exact .of_same rfl rfl id id id id id fun _ => exchange_attempts _ rfl first_attempt

theorem beginExchange_keeps (n q : Nat) (f : BusFrame) (s : State) : Kept s (beginExchange n q f s) :=
  .of_same rfl rfl id id id id id fun _ => exchange_attempts _ rfl first_attempt

theorem beginCommand_keeps (q : Nat) (s : State) : Kept s (beginCommand q s) := by
  have on : Kept s (putOnBus q (s.withBbm { s.bbm with lastWinner := .command })) :=
    (withBbm_keeps _ s (by rfl)).trans (putOnBus_keeps q _)
  unfold beginCommand
  dsimp only
  split
  · split
    · split
      · exact on.trans (endCommand_keeps _ _ _)
      · exact on.trans (beginExchange_keeps _ _ _ _)
    · exact on.trans (beginExchange_keeps _ _ _ _)
  · split
    · exact on.trans (beginExchange_keeps _ _ _ _)
    · exact on

theorem chooseBusLoop_keeps (k : Nat) (s : State) : Kept s (chooseBusLoop k s) := by
  induction k generalizing s with
  | zero => exact .refl s
  | succ k ih =>
    unfold chooseBusLoop
    split
    · split
      · exact beginBroadcast_keeps s
      · split
        · split
          · exact beginPoll_keeps _ s
          · exact (beginCommand_keeps _ s).trans (ih _)
        · exact (beginCommand_keeps _ s).trans (ih _)
        · exact beginPoll_keeps _ s
        · exact .refl s
    · exact .refl s

theorem chooseBus_keeps (s : State) : Kept s (chooseBus s) := chooseBusLoop_keeps _ s

/-- A door request that has passed LTU's checks (R10). -/
theorem takeDoorCommand_keeps (r : CmdRequest) (tag n : Nat) (d : Door) (enter : State → State) (s : State)
    (he : ∀ x : State, x.locker n = s.locker n → Kept x (enter x)) : Kept s (takeDoorCommand r tag n d enter s) := by
  unfold takeDoorCommand
  split
  · exact answer_keeps _ _ _ _ _
  case h_2 hc =>
    exact ((addEntry_keeps _ _ _ _ _ _ s (checkServer_room s tag n hc)).trans (he _ rfl)).trans (chooseBus_keeps _)

/-! ### The reset pulse and discovery (R109, R188 to R191) -/

theorem cutOff_keeps (s : State) : Kept s (cutOff s) := by
  have cleared : Kept s (s.withBbm { s.bbm with exchange := none }) :=
    .of_same rfl rfl id id id id id fun _ => no_exchange_attempts rfl
  unfold cutOff
  split
  · exact .refl s
  · exact cleared.trans (endCommand_keeps _ _ _)
  · exact cleared.trans (.of_same rfl rfl id id id id id id)
  · exact cleared

theorem setAsideAll_keeps (s : State) : Kept s (setAsideAll s) := (setAsideAll_kept s).kept (setAsideAll_records s)

theorem startPulse_keeps (s : State) : Kept s (startPulse s) := by
  have pulse : Kept s ((txuBankReset ((cutOff s).withBbm (busAtPulse (cutOff s).bbm))).resetNotice) :=
    (((cutOff_keeps s).trans (withBbm_keeps _ _ (by rfl))).trans (txuBankReset_keeps _)).trans
      ((resetNotice_kept _).kept (resetNotice_records _))
  unfold startPulse
  dsimp only
  split
  · exact pulse.trans (setAsideAll_keeps _)
  · exact pulse

theorem pulseIfIdle_keeps (s : State) : Kept s (pulseIfIdle s) := by
  unfold pulseIfIdle
  split
  · exact startPulse_keeps s
  · exact .refl s

theorem beginDiscovery_keeps (k : DiscoveryKind) (s : State) : Kept s (beginDiscovery k s) := by
  have begun : Kept s ((s.withLtu { s.ltu with
      discovery := some ⟨k, .reset⟩, probeCursor := 0, probing := none, answered := 0 }).withBbm
        { s.bbm with cycle := .stopped, pollGap := none }) := .of_same rfl rfl id id id id id id
  unfold beginDiscovery
  dsimp only
  split
  · exact (begun.trans (setAsideAll_keeps _)).trans (pulseIfIdle_keeps _)
  · exact begun.trans (pulseIfIdle_keeps _)

theorem latchFeed_keeps (f : Nat) (s : State) : Kept s (latchFeed f s) := by
  have latched (h : Hta) : Kept s { s with hta := h } := .of_same rfl rfl id id id id id id
  unfold latchFeed
  dsimp only
  split
  · exact (latched _).trans (submit_keeps _ _ _)
  · split
    · exact (latched _).trans (submit_keeps _ _ _)
    · exact latched _

theorem grantFrame_keeps (demands : List Nat) (s : State) : Kept s (grantFrame demands s) := by
  unfold grantFrame
  dsimp only
  refine Kept.trans ?_ (Kept.foldl _
    (fun x n => (creditAndStarve_kept _ _ _ n x).kept (creditAndStarve_records _ _ _ n x)) _ _)
  exact .of_same rfl rfl id id id id id id

theorem frameStart_keeps (s : State) : Kept s (frameStart s) := by
  unfold frameStart
  dsimp only
  refine ((((Kept.trans ?_ (Kept.foldl _ (fun x f => latchFeed_keeps f x) _ _)).trans
    (Kept.foldl _ (fun x n => (purgeDone_kept n x).kept (purgeDone_records n x)) _ _)).trans
    (Kept.foldl _ (fun x n => (suspendOrResume_kept n x).kept (suspendOrResume_records n x)) _ _)).trans
    (Kept.foldl _ (fun x n => (examineInhibit_kept n x).kept (examineInhibit_records n x)) _ _)).trans
    (grantFrame_keeps _ _)
  exact .of_same rfl rfl id id id id id id

theorem endDiscovery_keeps (k : DiscoveryKind) (s : State) : Kept s (endDiscovery k s) := by
  have ended : Kept s (beginCycle ((reportStarted k s).withLtu { (reportStarted k s).ltu with discovery := none })) :=
    ((submit_keeps _ _ s).trans (withLtu_keeps _ _ (by rfl))).trans (beginCycle_keeps _)
  cases k
  · have framed := ended.trans (frameStart_keeps _)
    unfold endDiscovery
    dsimp only
    generalize frameStart _ = x at framed ⊢
    have timed : Kept x (State.withLki { x with hau := { x.hau with tickTimer := some 0 } }
      { x.lki with silenceTimer := some 0 }) := .of_same rfl rfl id id id id id id
    exact (framed.trans timed).trans (endLongOp_keeps _ _)
  · exact ended.trans (endLongOp_keeps _ _)

theorem endDiscoveryIfSurveyed_keeps (s : State) : Kept s (endDiscoveryIfSurveyed s) := by
  unfold endDiscoveryIfSurveyed
  split
  · split
    · exact endDiscovery_keeps _ s
    · exact .refl s
  · exact .refl s

theorem beginProbing_keeps (s : State) : Kept s (beginProbing s) := by
  unfold beginProbing
  split
  · exact (withLtu_keeps _ s (by rfl)).trans (endDiscoveryIfSurveyed_keeps _)
  · exact .refl s

theorem probeAnswered_keeps (n : Nat) (o : Observation) (m : Bool) (s : State) : Kept s (probeAnswered n o m s) :=
  (((modLocker_kept n (Locker.observe o) s rfl).kept (modLocker_records _ _ _)).trans
    ((settleProbed_kept _ _ _ _).kept (settleProbed_records _ _ _ _))).trans (.of_same rfl rfl id id id id id id)

theorem endOfProbe_keeps (s : State) : Kept s (endOfProbe s) := by
  unfold endOfProbe
  exact (withLtu_keeps _ s (by rfl)).trans (endDiscoveryIfSurveyed_keeps _)

/-! ### The ends of exchanges (R91, R92, R96) -/

theorem afterExchange_keeps (s : State) : Kept s (afterExchange s) := by
  unfold afterExchange
  split
  · exact startPulse_keeps s
  · exact chooseBus_keeps s

theorem clearExchange_keeps (s : State) : Kept s (clearExchange s) :=
  .of_same rfl rfl id id id id id fun _ => no_exchange_attempts rfl

theorem countFailedPoll_keeps (s : State) : Kept s (countFailedPoll s) := withBbm_keeps _ s rfl

theorem pollEnded_keeps (n : Nat) (r : Option Observation) (m : Bool) (s : State) : Kept s (pollEnded n r m s) := by
  unfold pollEnded
  dsimp only
  refine Kept.trans ?_ ((endOfPoll_keeps _).trans (afterExchange_keeps _))
  split
  · exact (clearExchange_keeps s).trans ((goodPoll_kept _ _ _ _).kept (goodPoll_records _ _ _ _))
  · exact ((clearExchange_keeps s).trans (countFailedPoll_keeps _)).trans
      ((failedPoll_kept _ _).kept (failedPoll_records _ _))

theorem probeEnded_keeps (n : Nat) (r : Option Observation) (m : Bool) (s : State) :
    Kept s (probeEnded n r m s) := by
  unfold probeEnded
  dsimp only
  refine Kept.trans ?_ ((endOfProbe_keeps _).trans (afterExchange_keeps _))
  split
  · exact (clearExchange_keeps s).trans (probeAnswered_keeps _ _ _ _)
  · exact ((clearExchange_keeps s).trans (countFailedPoll_keeps _)).trans
      ((probeFailed_kept _ _).kept (probeFailed_records _ _))

theorem commandEnded_keeps (q : Nat) (o : CmdOutcome) (s : State) : Kept s (commandEnded q o s) := by
  unfold commandEnded
  dsimp only
  refine Kept.trans ?_ ((endCommand_keeps _ _ _).trans (afterExchange_keeps _))
  split
  · exact (clearExchange_keeps s).trans (withBbm_keeps _ _ (by rfl))
  · exact clearExchange_keeps s

/-- A retry is the second or the third attempt (R91, R93). -/
theorem retry_keeps (x : Exchange) (f : BusFrame) (s : State) (hx : s.AttemptsInRange → x.AttemptInRange) :
    Kept s ((s.withBbm { s.bbm with exchange := some x }).emit (.bus f)) :=
  .of_same rfl rfl id id id id id fun h => exchange_attempts x rfl (hx h)

theorem attemptFailed_keeps (s : State) : Kept s (attemptFailed s) := by
  have next (x : Exchange) (a : Nat) (hx : s.bbm.exchange = some x) (hr : x.AttemptInRange → 1 ≤ a) (ha : a < 3)
      (h : s.AttemptsInRange) : 1 ≤ a + 1 ∧ a + 1 ≤ 3 := by
    have := hr (h x hx)
    omega
  unfold attemptFailed
  split
  case h_1 n a m hx =>
    split
    case isTrue ha => exact retry_keeps _ _ _ (next _ a hx And.left ha)
    case isFalse => exact pollEnded_keeps _ _ _ _
  case h_2 n a m hx =>
    split
    case isTrue ha => exact retry_keeps _ _ _ (next _ a hx And.left ha)
    case isFalse => exact probeEnded_keeps _ _ _ _
  case h_3 n q a f hx =>
    split
    case isTrue ha => exact retry_keeps _ _ _ (next _ a hx And.left ha)
    case isFalse => exact commandEnded_keeps _ _ _
  case h_4 => exact .refl s

theorem attemptSucceeded_keeps (r : Reply) (s : State) : Kept s (attemptSucceeded r s) := by
  unfold attemptSucceeded
  split
  · exact pollEnded_keeps _ _ _ _
  · exact pollEnded_keeps _ _ _ _
  · exact probeEnded_keeps _ _ _ _
  · exact probeEnded_keeps _ _ _ _
  · exact commandEnded_keeps _ _ _
  · exact .refl s

end Sys2Proof.Proofs

/-! ## The laws of orders, free lists and capacities under every command (R30, R31, R33 to R35, R39, R48, R55, R93, R112, R113, R124, R136, R143) -/

namespace Sys2Proof.Proofs

open Sys2Proof.Machine

variable {s t u : State}

/-! ### Requests of class ORDER other than BOOK (chapters 01 to 03) -/

theorem serveCancel_keeps (tag id : Nat) (s : State) : Kept s (serveCancel tag id s) := by
  have condemned (x : Nat) : Kept s (answer kCancel tag .ok [] (condemn x .cancelled s)) :=
    ((condemn_kept _ _ _).kept (condemn_records _ _ _)).trans (answer_keeps _ _ _ _ _)
  have removed : Kept s (removeOrder id s) := (removeOrder_kept _ _).kept (removeOrder_records _ _)
  have freed (n : Nat) : Kept (removeOrder id s) (announceFree n (moveToUnlessExcluded .free n (removeOrder id s))) :=
    (moveTo_announced_kept _ _ _).kept ((moveToUnlessExcluded_records _ _ _).trans (announceFree_records _ _))
  have plain (st : Status) : Kept s (answer kCancel tag st [] s) := answer_keeps _ _ _ _ _
  unfold serveCancel
  split
  · exact plain _
  · split
    · exact plain _
    · split
      · exact removed.trans (answer_keeps _ _ _ _ _)
      · unfold cancelPlaced
        dsimp only
        split
        · exact (removed.trans (freed _)).trans (answer_keeps _ _ _ _ _)
        · exact condemned _
        · exact plain _
        · exact plain _
        · split
          · exact (removed.trans ((modLocker_kept _ _ _ rfl).kept (modLocker_records _ _ _))).trans
              (answer_keeps _ _ _ _ _)
          · exact condemned _
          · exact plain _
          · exact plain _
          · exact plain _
        · exact plain _

/-- EXTEND stops at 7200 s (R64, R65). -/
theorem applyExtend_keeps (tag seconds : Nat) (o : Order) (s : State) (ho : o ∈ s.oru.orders) :
    Kept s (applyExtend tag seconds o s) := by
  unfold applyExtend
  split
  · refine Kept.trans ((modOrder_kept _ _ s ?_).kept (modOrder_records _ _ _)) (answer_keeps _ _ _ _ _)
    refine modOrder_ordersKept _ _ s (fun _ => rfl) (fun _ => rfl) (fun _ => rfl) (fun _ _ _ h => h) fun hs x hx => ?_
    obtain ⟨low, -, -⟩ := hs o ho
    obtain ⟨-, -, hold⟩ := hx
    exact ⟨by simp only [le_inf_iff]; omega, by simp, hold⟩
  case h_2 h hh =>
    refine Kept.trans ((modHold_kept _ _ s (fun _ => rfl) ?_).kept (modOrder_records _ _ _)) (answer_keeps _ _ _ _ _)
    intro hs _ _ k hk
    cases hk
    exact ⟨Nat.min_le_right _ _, ((hs o ho).2.2 h hh).2⟩

theorem serveExtend_keeps (tag id seconds : Nat) (s : State) : Kept s (serveExtend tag id seconds s) := by
  unfold serveExtend
  split
  · exact answer_keeps _ _ _ _ _
  · split
    · exact answer_keeps _ _ _ _ _
    · split
      · exact answer_keeps _ _ _ _ _
      case h_2 o ho =>
        split
        · exact answer_keeps _ _ _ _ _
        · split
          · exact answer_keeps _ _ _ _ _
          · exact applyExtend_keeps _ _ _ _ (s.order_mem _ _ ho)

theorem withPlacedOrder_keeps (k : Kind) (tag id : Nat) (rest : Nat → State → State) (s : State)
    (hr : ∀ n, Kept s (rest n s)) : Kept s (withPlacedOrder k tag id rest s) := by
  unfold withPlacedOrder
  split
  · exact answer_keeps _ _ _ _ _
  · split
    · exact answer_keeps _ _ _ _ _
    · split
      · exact answer_keeps _ _ _ _ _
      · exact hr _

theorem checkLoadOpen_phase (l : Locker) (h : checkLoadOpen l = none) : l.phase = .reserved := by
  unfold checkLoadOpen at h
  by_contra hp
  simp only [hp, not_false_eq_true, ne_eq, ↓reduceIte] at h
  split at h <;> cases h

theorem checkRelease_phase (s : State) (l : Locker) (h : checkRelease s l = none) : l.phase = .holding := by
  unfold checkRelease at h
  by_contra hp
  simp only [hp, not_false_eq_true, ne_eq, ↓reduceIte] at h
  split at h
  · cases h
  · split at h <;> cases h

theorem checkClear_phase (l : Locker) (h : checkClear l = none) : l.phase = .condemned := by
  unfold checkClear at h
  by_contra hp
  simp only [hp, not_false_eq_true, ne_eq, ↓reduceIte] at h
  split at h <;> cases h

theorem checkClearLocker_phase (l : Locker) (h : checkClearLocker l = none) :
    l.phase = .quarantine ∨ l.phase = .service := by
  unfold checkClearLocker at h
  split at h
  · cases h
  · split at h
    case isTrue hp => exact hp.imp_right And.left
    case isFalse => cases h

/-- The record enters a phase in place. -/
theorem modEnter_keeps (p : Phase) (n : Nat) (s : State) (ho : (s.locker n).phase ≠ .free) (hp : p ≠ .free) :
    Kept s (s.modLocker n (Locker.enter p)) := (modEnter_kept p n s ho hp).kept (modLocker_records _ _ _)

theorem enterClearing_keeps (n : Nat) (s : State) (h : (s.locker n).phase ≠ .free) : Kept s (enterClearing n s) :=
  (enterClearing_kept n s h).kept (enterClearing_records n s)

theorem serveLoadOpen_keeps (tag id : Nat) (s : State) : Kept s (serveLoadOpen tag id s) := by
  refine withPlacedOrder_keeps _ _ _ _ s fun n => ?_
  split
  · exact answer_keeps _ _ _ _ _
  case h_2 hc =>
    refine takeDoorCommand_keeps _ _ _ _ _ s fun x hx => modEnter_keeps _ _ _ ?_ (by simp)
    rw [hx, checkLoadOpen_phase _ hc]
    simp

theorem serveRelease_keeps (tag id : Nat) (s : State) : Kept s (serveRelease tag id s) := by
  refine withPlacedOrder_keeps _ _ _ _ s fun n => ?_
  split
  · exact answer_keeps _ _ _ _ _
  case h_2 hc =>
    refine takeDoorCommand_keeps _ _ _ _ _ s fun x hx => modEnter_keeps _ _ _ ?_ (by simp)
    rw [hx, checkRelease_phase s _ hc]
    simp

theorem serveClear_keeps (tag id : Nat) (s : State) : Kept s (serveClear tag id s) := by
  refine withPlacedOrder_keeps _ _ _ _ s fun n => ?_
  split
  · exact answer_keeps _ _ _ _ _
  case h_2 hc =>
    refine takeDoorCommand_keeps _ _ _ _ _ s fun x hx => enterClearing_keeps _ _ ?_
    rw [hx, checkClear_phase _ hc]
    simp

theorem serveQueryOrder_keeps (tag id : Nat) (s : State) : Kept s (serveQueryOrder tag id s) := by
  unfold serveQueryOrder
  split
  · exact answer_keeps _ _ _ _ _
  · split <;> exact answer_keeps _ _ _ _ _

/-! ### Requests of class MODULE (chapter 06) -/

theorem servePosted_keeps (k : Kind) (tag n : Nat) (ok : Bool) (c : PostedContent) (st : Status) (s : State) :
    Kept s (servePosted k tag n ok c st s) := by
  unfold servePosted
  split
  · exact answer_keeps _ _ _ _ _
  · split
    · exact answer_keeps _ _ _ _ _
    · split
      · exact answer_keeps _ _ _ _ _
      · split
        · exact answer_keeps _ _ _ _ _
        · split
          · exact answer_keeps _ _ _ _ _
          case isFalse hfull =>
            exact ((addPosted_keeps n tag c s (by omega)).trans (answer_keeps _ _ _ _ _)).trans (chooseBus_keeps _)

theorem serveModuleRead_keeps (tag n item : Nat) (s : State) : Kept s (serveModuleRead tag n item s) := by
  unfold serveModuleRead
  split
  · exact answer_keeps _ _ _ _ _
  · split
    · exact answer_keeps _ _ _ _ _
    · split
      · exact answer_keeps _ _ _ _ _
      · split
        · exact answer_keeps _ _ _ _ _
        · split
          · exact answer_keeps _ _ _ _ _
          case h_2 hc =>
            exact (addEntry_keeps _ _ _ _ _ _ s (checkServer_room s tag n hc)).trans (chooseBus_keeps _)

theorem serveAbort_keeps (tag target : Nat) (s : State) : Kept s (serveAbort tag target s) := by
  unfold serveAbort
  split
  · split
    · exact (endConfirmed_keeps _ _ _).trans (answer_keeps _ _ _ _ _)
    · exact answer_keeps _ _ _ _ _
  · split <;> exact answer_keeps _ _ _ _ _

/-! ### Requests of class MGMT (chapters 01, 06, 07, 09, 10) -/

/-- A change of the settings is none of orders, lockers, commands or link. -/
theorem withSst_keeps (x : Sst) (s : State) : Kept s (s.withSst x) := .of_same rfl rfl id id id id id id

theorem serveTableRead_keeps (tag a i : Nat) (s : State) : Kept s (serveTableRead tag a i s) := by
  unfold serveTableRead
  split <;> exact answer_keeps _ _ _ _ _

theorem writeLayout_keeps (tag n p c f w : Nat) (s : State) : Kept s (writeLayout tag n p c f w s) := by
  unfold writeLayout
  split
  · exact answer_keeps _ _ _ _ _
  · split
    · split
      · exact answer_keeps _ _ _ _ _
      · split
        · exact answer_keeps _ _ _ _ _
        · refine ((((withSst_keeps _ s).trans ((layoutAccepted_kept n _ _).kept (layoutAccepted_records n _ _))).trans
            (cycleAfterLayoutWrite_keeps _)).trans (answer_keeps _ _ _ _ _)).trans (chooseBus_keeps _)
    · exact answer_keeps _ _ _ _ _

theorem serveTableWrite_keeps (tag i : Nat) (r : TableRecord) (s : State) : Kept s (serveTableWrite tag i r s) := by
  unfold serveTableWrite
  split
  · exact writeLayout_keeps _ _ _ _ _ _ _
  · unfold writeProfile
    split
    · exact answer_keeps _ _ _ _ _
    · split
      · exact answer_keeps _ _ _ _ _
      · split
        · exact (withSst_keeps _ s).trans (answer_keeps _ _ _ _ _)
        · exact answer_keeps _ _ _ _ _
  · unfold writeFeed
    split
    · exact answer_keeps _ _ _ _ _
    · split
      · exact answer_keeps _ _ _ _ _
      · exact (withSst_keeps _ s).trans (answer_keeps _ _ _ _ _)

theorem serveParamGet_keeps (tag p : Nat) (s : State) : Kept s (serveParamGet tag p s) := by
  unfold serveParamGet
  split <;> exact answer_keeps _ _ _ _ _

theorem serveParamSet_keeps (tag p v : Nat) (s : State) : Kept s (serveParamSet tag p v s) := by
  unfold serveParamSet
  split
  · exact answer_keeps _ _ _ _ _
  · split
    · unfold writeStrictHold
      split
      · exact answer_keeps _ _ _ _ _
      · exact (withSst_keeps _ s).trans (answer_keeps _ _ _ _ _)
    · exact ((withSst_keeps _ s).trans ((paramActs_kept _ _ _).kept (paramActs_records _ _ _))).trans
        (answer_keeps _ _ _ _ _)

theorem serveStore_keeps (tag : Nat) (s : State) : Kept s (serveStore tag s) := by
  unfold serveStore
  split
  · exact answer_keeps _ _ _ _ _
  · exact (acceptLongOp_keeps _ _ _ s).trans (withSst_keeps _ _)

theorem serveRescan_keeps (tag : Nat) (s : State) : Kept s (serveRescan tag s) := by
  unfold serveRescan
  split
  · exact answer_keeps _ _ _ _ _
  · split
    · exact answer_keeps _ _ _ _ _
    · exact (acceptLongOp_keeps _ _ _ s).trans (beginDiscovery_keeps _ _)

theorem serveBankReset_keeps (tag : Nat) (s : State) : Kept s (serveBankReset tag s) := by
  unfold serveBankReset
  split
  · exact answer_keeps _ _ _ _ _
  · exact (acceptLongOp_keeps _ _ _ s).trans (startPulse_keeps _)

theorem serveServiceOn_keeps (tag n : Nat) (s : State) : Kept s (serveServiceOn tag n s) := by
  unfold serveServiceOn
  split
  · exact answer_keeps _ _ _ _ _
  · split
    · split
      · exact answer_keeps _ _ _ _ _
      · exact ((moveTo_kept .service n s (by simp)).kept (moveTo_records _ _ _)).trans (answer_keeps _ _ _ _ _)
    · exact answer_keeps _ _ _ _ _

theorem serveServiceOff_keeps (tag n : Nat) (s : State) : Kept s (serveServiceOff tag n s) := by
  unfold serveServiceOff
  split
  · exact answer_keeps _ _ _ _ _
  · dsimp only
    split
    · exact answer_keeps _ _ _ _ _
    · split
      · exact answer_keeps _ _ _ _ _
      · exact (((modLocker_kept n _ s rfl).kept (modLocker_records _ _ _)).trans
          ((moveTo_kept .purging n _ (by simp)).kept (moveTo_records _ _ _))).trans (answer_keeps _ _ _ _ _)

theorem serveServiceUnlatch_keeps (tag n d : Nat) (s : State) : Kept s (serveServiceUnlatch tag n d s) := by
  unfold serveServiceUnlatch
  split
  · exact answer_keeps _ _ _ _ _
  · split
    · exact answer_keeps _ _ _ _ _
    · split
      · exact answer_keeps _ _ _ _ _
      · exact takeDoorCommand_keeps _ _ _ _ _ s fun x _ => (modLocker_kept n _ x rfl).kept (modLocker_records _ _ _)

theorem serveClearLocker_keeps (tag n : Nat) (s : State) : Kept s (serveClearLocker tag n s) := by
  unfold serveClearLocker
  split
  · exact answer_keeps _ _ _ _ _
  · split
    · exact answer_keeps _ _ _ _ _
    case h_2 hc =>
      refine takeDoorCommand_keeps _ _ _ _ _ s fun x hx => enterClearing_keeps _ _ ?_
      rw [hx]
      rcases checkClearLocker_phase _ hc with h | h <;> rw [h] <;> simp

theorem discardEntry_keeps (q : Nat) (s : State) : Kept s (discardEntry s q) := by
  unfold discardEntry
  split
  · exact .refl s
  · dsimp only
    have gone (e : Entry) : Kept s (removeEntry q (lockerCommandEnd e .discarded s)) :=
      (lockerCommandEnd_keeps _ _ _).trans (removeEntry_keeps _ _)
    split
    · exact gone _
    · exact ((gone _).trans (dropRelease_keeps _ _)).trans (display_keeps _ _)

theorem restartCommands_keeps (s : State) : Kept s (restartCommands s) := by
  unfold restartCommands
  dsimp only
  have discarded := (Kept.foldl discardEntry (fun x q => discardEntry_keeps q x) (waitingEntrySeqs s.txu) s).trans
    (discardPosted_keeps _)
  exact discarded.trans (.of_same rfl rfl id (by simp) id (by simp) id id)

theorem serveRestart_keeps (tag : Nat) (s : State) : Kept s (serveRestart tag s) := by
  have cleared : Kept s (s.withLki (restartLink s.lki)) :=
    .of_same rfl rfl (fun _ => by simp [restartLink]) id id id (fun _ => by simp [restartLink]) id
  unfold serveRestart
  split
  · exact answer_keeps _ _ _ _ _
  · exact (((cleared.trans (restartCommands_keeps _)).trans (answer_keeps _ _ _ _ _)).trans
      (submitReportsLost_keeps _)).trans (Kept.foldl _ (fun x r => reportRefused_keeps _ _ _ _ x) _ _)

/-! ### BOOK (R38 to R41) -/

/-- A condemned order of the table keeps its first cause, if it stays (R31, R48). -/
def FirstCauses (s t : State) : Prop :=
  ∀ id o o' k, s.order? id = some o → o.condemned = some k → t.order? id = some o' → o'.condemned = some k

/-- What a command keeps, BOOK among them, which alone brings a new order. -/
structure StepKept (s t : State) : Prop where
  causes : FirstCauses s t
  tables : s.OrdersConsistent → t.OrdersConsistent
  holds : s.HoldInRange → t.HoldInRange
  lists : s.FreeListsExact → t.FreeListsExact
  capacity : s.WithinCapacity → t.WithinCapacity
  attempts : s.AttemptsInRange → t.AttemptsInRange

theorem Kept.step (h : Kept s t) : StepKept s t where
  causes := by
    intro id o o' k ho hk ho'
    obtain ⟨x, hx, hc⟩ := h.causes id o' ho'
    rw [ho] at hx
    cases hx
    exact hc k hk
  tables := h.tables
  holds := h.holds
  lists := h.lists
  capacity := h.capacity
  attempts := h.attempts

/-- An act after a command's own. -/
theorem StepKept.andThen (h : StepKept s t) (k : Kept t u) : StepKept s u where
  causes := by
    intro id o o' c ho hc ho'
    obtain ⟨x, hx, hcause⟩ := k.causes id o' ho'
    exact hcause c (h.causes id o x c ho hc hx)
  tables := k.tables ∘ h.tables
  holds := k.holds ∘ h.holds
  lists := k.lists ∘ h.lists
  capacity := k.capacity ∘ h.capacity
  attempts := k.attempts ∘ h.attempts

/-- An act on the link before a command's own. -/
theorem StepKept.afterLink (k : Kept s t) (same : ∀ id, t.order? id = s.order? id) (h : StepKept t u) :
    StepKept s u where
  causes := fun id o o' c ho => h.causes id o o' c (by rw [same, ho])
  tables := h.tables ∘ k.tables
  holds := h.holds ∘ k.holds
  lists := h.lists ∘ k.lists
  capacity := h.capacity ∘ k.capacity
  attempts := h.attempts ∘ k.attempts

/-- The state in which an admitted order waits at the tail of the queue (R34, R40). -/
def waiting (o : Order) (s : State) : State :=
  { admitOrder o s with oru := { (admitOrder o s).oru with queue := s.oru.queue ++ [o.id] } }

/-- What BOOK has checked of a new record (R38, R39). -/
structure Bookable (o : Order) (s : State) : Prop where
  fresh : s.order? o.id = none
  unused : ∀ e ∈ s.oru.codeMap, e.1 ≠ o.code
  room : s.oru.orders.length < 64
  range : orderInRange o
  waits : o.isPending = true

theorem Bookable.not_mem {o : Order} (h : Bookable o s) (x : Order) (hx : x ∈ s.oru.orders) : x.id ≠ o.id := by
  simpa using List.find?_eq_none.mp h.fresh x hx

theorem waiting_tables {o : Order} (h : Bookable o s) (k : s.OrdersConsistent) : (waiting o s).OrdersConsistent := by
  obtain ⟨hmap, hids, hcodes, hqueue⟩ := k
  have code : ∀ x ∈ s.oru.orders, x.code ≠ o.code := fun x hx =>
    h.unused (x.code, x.id) (by rw [hmap]; exact List.mem_map_of_mem hx)
  refine ⟨?_, ?_, ?_, ?_⟩
  · simp [waiting, admitOrder, hmap]
  · simp only [waiting, admitOrder, List.map_append, List.map_cons, List.map_nil]
    refine List.nodup_append.mpr ⟨hids, by simp, ?_⟩
    intro a ha b hb
    obtain ⟨x, hx, rfl⟩ := List.mem_map.mp ha
    rw [List.mem_singleton.mp hb]
    exact h.not_mem x hx
  · simp only [waiting, admitOrder, List.map_append, List.map_cons, List.map_nil]
    refine List.nodup_append.mpr ⟨hcodes, by simp, ?_⟩
    intro a ha b hb
    obtain ⟨x, hx, rfl⟩ := List.mem_map.mp ha
    rw [List.mem_singleton.mp hb]
    exact code x hx
  · simp [waiting, admitOrder, List.filter_append, h.waits, hqueue]

theorem admitOrder_holds {o : Order} (h : Bookable o s) (k : s.HoldInRange) : (admitOrder o s).HoldInRange := by
  intro x hx
  rcases List.mem_append.mp hx with hx | hx
  · exact k x hx
  · rw [List.mem_singleton.mp hx]
    exact h.range

/-- An order of the table is found as before after a booking of another. -/
theorem admitOrder_order (o : Order) (i : Nat) (x : Order) (hx : s.order? i = some x) :
    (admitOrder o s).order? i = some x := by
  unfold State.order? at *
  simp only [admitOrder, List.find?_append, hx, Option.some_or]

theorem waiting_step {o : Order} (h : Bookable o s) (hq : s.oru.queue.length < 16) : StepKept s (waiting o s) where
  causes := by
    intro id x x' k hx hk hx'
    have found : (waiting o s).order? id = some x := admitOrder_order o id x hx
    rw [found] at hx'
    cases hx'
    exact hk
  tables := waiting_tables h
  holds := admitOrder_holds h
  lists := fun k => exact_congr k (fun c => by cases c <;> rfl) fun _ => rfl
  capacity := by
    rintro ⟨-, -, hrest⟩
    have room := h.room
    exact ⟨by simp [waiting, admitOrder]; omega, by simp [waiting]; omega, hrest⟩
  attempts := id

/-- A booking that finds a locker: admitted and joined with it (R40, R41). -/
theorem booked_step {o : Order} (n : Nat) (h : Bookable o s) : StepKept s (join o.id n (admitOrder o s)) where
  causes := by
    intro id x x' k hx hk hx'
    rw [join_order, admitOrder_order o id x hx] at hx'
    cases hx'
    dsimp only
    split <;> exact hk
  tables := by
    intro k
    have joined := (join_ordersKept o.id n (waiting o s)).tables (waiting_tables h k)
    unfold State.OrdersConsistent at *
    have queue : (join o.id n (waiting o s)).oru.queue = (join o.id n (admitOrder o s)).oru.queue := by
      rw [join_queue, join_queue]
      simp [waiting, admitOrder, List.filter_append]
    rw [queue, join_codeMap, join_orders] at joined
    rw [join_codeMap, join_orders]
    exact joined
  holds := fun k => (join_ordersKept o.id n _).holds (admitOrder_holds h k)
  lists := fun k => join_lists _ _ _ (.inl (exact_congr k (fun c => by cases c <;> rfl) fun _ => rfl))
  capacity := by
    rintro ⟨-, hq, ht, hp, hr, hl, hh⟩
    have records := join_records o.id n (admitOrder o s)
    have room := h.room
    refine ⟨?_, ?_, by rw [records.txu]; exact ht, by rw [records.txu]; exact hp, by rw [records.txu]; exact hr,
      by rw [join_lki]; exact hl, by rw [join_lki]; exact hh⟩
    · simp [join_orders, admitOrder]
      omega
    · exact (join_ordersKept o.id n (admitOrder o s)).queue hq
  attempts := by
    intro k
    have records := join_records o.id n (admitOrder o s)
    unfold State.AttemptsInRange
    rw [records.bbm]
    exact k

/-- A booking that passes R38's checks has a fresh code and room in the table. -/
theorem checkBook_passes (s : State) (id code p : Nat) (h : checkBook s id code p = none) :
    (∀ e ∈ s.oru.codeMap, e.1 ≠ code) ∧ s.oru.orders.length < 64 := by
  unfold checkBook at h
  split at h
  · cases h
  · split at h
    · cases h
    · split at h
      · cases h
      case isFalse hcode =>
        split at h
        · cases h
        case isFalse hroom =>
          refine ⟨fun e he => ?_, by omega⟩
          simp only [List.any_eq_true, not_exists, not_and] at hcode
          simpa using hcode e he

theorem serveBook_step (tag id code cls p bu de : Nat) (s : State) : StepKept s (serveBook tag id code cls p bu de s) := by
  have refused (st : Status) : StepKept s (answer kBook tag st [] s) := (answer_keeps _ _ _ _ _).step
  unfold serveBook
  split
  · exact refused _
  · split
    · exact refused _
    case h_2 c hc =>
      split
      · exact refused _
      case h_2 hcheck =>
        have fresh := (checkBook_none s id code p hcheck).2
        obtain ⟨unused, room⟩ := checkBook_passes s id code p hcheck
        dsimp only
        have book : Bookable (newOrder id code c p (clamp 60 7200 bu) (clamp 0 3600 de)) s := by
          refine ⟨fresh, unused, room, ⟨?_, ?_, fun h hh => ?_⟩, rfl⟩
          · simp [newOrder, clamp]
          · simp [newOrder, clamp]
          · cases hh
        unfold bookAllocate
        split
        · exact (booked_step _ book).andThen (answer_keeps _ _ _ _ _)
        · split
          case isTrue hq => exact (waiting_step book hq).andThen (answer_keeps _ _ _ _ _)
          case isFalse => exact refused _

/-! ### Every request -/

theorem serveRequest_step (i : Instr) (s : State) : StepKept s (serveRequest i s) := by
  cases i with
  | book => exact serveBook_step _ _ _ _ _ _ _ s
  | cancel => exact (serveCancel_keeps _ _ s).step
  | extend => exact (serveExtend_keeps _ _ _ s).step
  | loadOpen => exact (serveLoadOpen_keeps _ _ s).step
  | release => exact (serveRelease_keeps _ _ s).step
  | clear => exact (serveClear_keeps _ _ s).step
  | queryOrder => exact (serveQueryOrder_keeps _ _ s).step
  | lamp => exact (servePosted_keeps _ _ _ _ _ _ s).step
  | label => exact (servePosted_keeps _ _ _ _ _ _ s).step
  | moduleWrite => exact (servePosted_keeps _ _ _ _ _ _ s).step
  | moduleRead => exact (serveModuleRead_keeps _ _ _ s).step
  | abort => exact (serveAbort_keeps _ _ s).step
  | tableRead => exact (serveTableRead_keeps _ _ _ s).step
  | tableWrite => exact (serveTableWrite_keeps _ _ _ s).step
  | paramGet => exact (serveParamGet_keeps _ _ s).step
  | paramSet => exact (serveParamSet_keeps _ _ _ s).step
  | store => exact (serveStore_keeps _ s).step
  | rescan => exact (serveRescan_keeps _ s).step
  | bankReset => exact (serveBankReset_keeps _ s).step
  | serviceOn => exact (serveServiceOn_keeps _ _ s).step
  | serviceOff => exact (serveServiceOff_keeps _ _ s).step
  | serviceUnlatch => exact (serveServiceUnlatch_keeps _ _ _ s).step
  | clearLocker => exact (serveClearLocker_keeps _ _ s).step
  | status => exact (answer_keeps _ _ _ _ s).step
  | restart => exact (serveRestart_keeps _ s).step
  | _ => exact (Kept.refl s).step

theorem takeRequest_step (serve : State → State) (hs : ∀ x, StepKept x (serve x)) (s : State) :
    StepKept s (takeRequest serve s) := by
  by_cases h : s.lki.placesHeld < 32
  · rw [takeRequest_free serve s h]
    exact (StepKept.afterLink (accepted_keeps s h) (fun id => by simp) (hs _)).andThen (chooseTransmit_keeps _)
  · rw [takeRequest_full serve s (by omega)]
    exact (((heard_keeps s).trans (discardFrame_keeps _ _)).trans (chooseTransmit_keeps _)).step

/-! ### Events -/

theorem serveFrame_step (cls kind tag : Nat) (p : List Byte) (s : State) : StepKept s (serveFrame cls kind tag p s) := by
  unfold serveFrame
  split
  · exact serveRequest_step _ s
  · exact (answer_keeps _ _ _ _ s).step
  · exact (answer_keeps _ _ _ _ s).step

theorem completeFrame_step (bytes : List Byte) (check : Nat) (s : State) :
    StepKept s (completeFrame bytes check s) := by
  have hunt := setRx_keeps .hunt none s
  unfold completeFrame
  dsimp only
  split
  · exact (hunt.trans (discardFrame_keeps _ _)).step
  · split
    · exact StepKept.afterLink hunt (fun _ => rfl) (takeRequest_step _ (serveFrame_step _ _ _ _) _)
    · exact (hunt.trans (discardFrame_keeps _ _)).step

theorem receive_step (b : Byte) (s : State) : StepKept s (receive b s) := by
  have rx (r : RxFramer) (g : Option Nat) : StepKept s (s.setRx r g) := (setRx_keeps r g s).step
  unfold receive
  split
  · split
    · exact rx _ _
    · exact (Kept.refl s).step
  · split
    · exact rx _ _
    · exact ((setRx_keeps _ _ s).trans (discardFrame_keeps _ _)).step
  · dsimp only
    split <;> exact rx _ _
  · exact rx _ _
  · exact completeFrame_step _ _ s

theorem refuseScan_keeps (m : PanelMessage) (c : PanelCause) (id n : Option Nat) (s : State) :
    Kept s (refuseScan m c id n s) := (display_keeps m s).trans (reportRefused_keeps _ _ _ _ _)

/-- A change of the panel's own fields. -/
theorem withPni_keeps (p : Pni) (s : State) : Kept s { s with pni := p } := .of_same rfl rfl id id id id id id

theorem countUnknown_keeps (s : State) : Kept s (countUnknown s) := by
  unfold countUnknown
  split
  · exact (withPni_keeps _ s).trans (display_keeps _ _)
  · exact (withPni_keeps _ s).trans (display_keeps _ _)
  · exact (withPni_keeps _ s).trans (display_keeps _ _)
  · exact (withPni_keeps _ s).trans (display_keeps _ _)
  · exact ((withPni_keeps _ s).trans (display_keeps _ _)).trans (submit_keeps _ _ _)

theorem panelRelease_keeps (id n : Nat) (s : State) : Kept s (panelRelease id n s) := by
  unfold panelRelease
  split
  · exact refuseScan_keeps _ _ _ _ _
  case h_2 hc =>
    split
    case isTrue ht =>
      refine (((addEntry_keeps .panel none .panelRelease n (some .c) none s (tableTakes_room s n ht)).trans
        (modEnter_keeps .pickup n _ ?_ (by simp))).trans (withPni_keeps _ _)).trans (chooseBus_keeps _)
      have held : (s.locker n).phase = .holding := checkRelease_phase s _ hc
      simp [addEntry, held]
    case isFalse => exact refuseScan_keeps _ _ _ _ _

theorem decideScan_keeps (o : Order) (s : State) : Kept s (decideScan o s) := by
  unfold decideScan
  split
  · exact refuseScan_keeps _ _ _ _ _
  · split
    · exact refuseScan_keeps _ _ _ _ _
    · split
      · exact refuseScan_keeps _ _ _ _ _
      · split
        · exact refuseScan_keeps _ _ _ _ _
        · exact panelRelease_keeps _ _ _

theorem takeScan_keeps (chars : List Nat) (s : State) : Kept s (takeScan chars s) := by
  unfold takeScan
  split
  · exact refuseScan_keeps _ _ _ _ _
  · split
    · exact refuseScan_keeps _ _ _ _ _
    · split
      · exact refuseScan_keeps _ _ _ _ _
      · split
        · exact countUnknown_keeps s
        · split
          · exact countUnknown_keeps s
          · exact decideScan_keeps _ s

theorem endNotice_keeps (s : State) : Kept s (endNotice s) := by
  unfold endNotice
  split
  · exact beginProbing_keeps s
  · split
    · exact endLongOp_keeps _ s
    · exact .refl s

/-- The outcome of a command, if it is a next state, keeps the laws. -/
def OutcomeKept (s : State) (o : Host.Outcome State Fault Refusal) : Prop := ∀ t, o = .next t → StepKept s t

theorem next_kept (h : StepKept s t) : OutcomeKept s (.next t) := by
  rintro _ ⟨⟩
  exact h

theorem Kept.next (h : Kept s t) : OutcomeKept s (.next t) := next_kept h.step

/-- An expiry lets the rest of its period pass with the outputs cleared (log entries 2 and 8). -/
theorem expiry_keeps (d : Nat) (s : State) : Kept s (s.clearPorts.elapse d) :=
  (clearPorts_keeps s).trans (elapse_keeps _ _)

theorem execReceiveByte_kept (b : Byte) (s : State) : OutcomeKept s (execReceiveByte b s) :=
  next_kept (.afterLink (clearPorts_keeps s) (fun _ => rfl) (receive_step b _))

theorem execGapTimerExpiry_kept (s : State) : OutcomeKept s (execGapTimerExpiry s) := by
  unfold execGapTimerExpiry
  dsimp only
  split
  · exact (clearPorts_keeps s).next
  · exact (((expiry_keeps _ s).trans (setRx_keeps _ _ _)).trans (discardFrame_keeps _ _)).next

theorem execSilenceTimerExpiry_kept (s : State) : OutcomeKept s (execSilenceTimerExpiry s) := by
  have island (x : State) : Kept x (enterIsland x) := .of_same rfl rfl id id id id id id
  unfold execSilenceTimerExpiry
  dsimp only
  split
  · exact (clearPorts_keeps s).next
  · split
    · exact (clearPorts_keeps s).next
    · exact ((expiry_keeps _ s).trans (island _)).next

theorem execTransmitEnd_kept (s : State) : OutcomeKept s (execTransmitEnd s) := by
  have idle (x : State) : Kept x (x.withLki { x.lki with tx := none }) := .of_same rfl rfl id id id id id id
  unfold execTransmitEnd
  dsimp only
  split
  · exact (clearPorts_keeps s).next
  · exact (((clearPorts_keeps s).trans (idle _)).trans (chooseTransmit_keeps _)).next

theorem execScan_kept (chars : List Nat) (s : State) : OutcomeKept s (execScan chars s) :=
  (((clearPorts_keeps s).trans (takeScan_keeps _ _)).trans (chooseTransmit_keeps _)).next

theorem execWindowTimerExpiry_kept (s : State) : OutcomeKept s (execWindowTimerExpiry s) := by
  unfold execWindowTimerExpiry
  dsimp only
  split
  · exact (clearPorts_keeps s).next
  · exact ((expiry_keeps _ s).trans (withPni_keeps _ _)).next

theorem execLockoutTimerExpiry_kept (s : State) : OutcomeKept s (execLockoutTimerExpiry s) := by
  unfold execLockoutTimerExpiry
  dsimp only
  split
  · exact (clearPorts_keeps s).next
  · exact ((expiry_keeps _ s).trans (withPni_keeps _ _)).next

/-- The power-on values obey every law: the tables and the bus are empty, no locker is FREE (R186). -/
theorem powerOnValues_laws (shed : Vector Bool 4) (s : State) :
    (s.powerOnValues shed).OrdersConsistent ∧ (s.powerOnValues shed).HoldInRange ∧
      (s.powerOnValues shed).FreeListsExact ∧ (s.powerOnValues shed).WithinCapacity ∧
      (s.powerOnValues shed).AttemptsInRange := by
  have record n (hn : n < 48) : (s.powerOnValues shed).locker n = Locker.powerOn s.sst.powerOn.working n :=
    vget_vinit _ _ _ _ hn
  have empty c : (s.powerOnValues shed).freeList c = [] := by cases c <;> rfl
  have orders : (s.powerOnValues shed).oru.orders = [] := rfl
  refine ⟨⟨rfl, List.nodup_nil, List.nodup_nil, rfl⟩, by simp [State.HoldInRange, orders], ?_, ?_,
    no_exchange_attempts rfl⟩
  · refine freeListsExact_of_below _ (fun c n hn => by simp [empty] at hn) (fun c n hn => ?_)
      (fun c => by simp [empty]) fun n hn => ?_
    · rw [empty, record n hn]
      simp only [Locker.powerOn, List.not_mem_nil, false_iff]
      split <;> simp
    · rw [record n hn]
      simp [Locker.powerOn, Locker.copyLayout, Locker.blank]
  · simp [State.WithinCapacity, State.powerOnValues, Oru.powerOn, Txu.powerOn, Lki.powerOn]

theorem execPowerOn_kept (l0 l1 l2 l3 : Bool) (s : State) : OutcomeKept s (execPowerOn l0 l1 l2 l3 s) := by
  have begun := beginDiscovery_keeps .powerOn (s.powerOnValues (shedLevels l0 l1 l2 l3))
  obtain ⟨tables, holds, lists, capacity, attempts⟩ := powerOnValues_laws (shedLevels l0 l1 l2 l3) s
  refine next_kept ⟨fun id o o' k _ _ ho' => ?_, fun _ => begun.tables tables, fun _ => begun.holds holds,
    fun _ => begun.lists lists, fun _ => begun.capacity capacity, fun _ => begun.attempts attempts⟩
  obtain ⟨x, hx, -⟩ := begun.causes id o' ho'
  cases hx

theorem execHoldTick_kept (s : State) : OutcomeKept s (execHoldTick s) := by
  have restarted (x : State) : Kept x { x with hau := { x.hau with tickTimer := some 0 } } :=
    .of_same rfl rfl id id id id id id
  unfold execHoldTick
  dsimp only
  split
  · exact (clearPorts_keeps s).next
  · exact ((((expiry_keeps _ s).trans (restarted _)).trans ((holdTick_kept _).kept (holdTick_records _))).trans
      (chooseTransmit_keeps _)).next

theorem execFrameStart_kept (l0 l1 l2 l3 : Bool) (s : State) : OutcomeKept s (execFrameStart l0 l1 l2 l3 s) := by
  have levels (x : State) : Kept x (x.setShedLines l0 l1 l2 l3) := .of_same rfl rfl id id id id id id
  unfold execFrameStart
  dsimp only
  split
  · exact ((clearPorts_keeps s).trans (levels _)).next
  · exact (((((expiry_keeps _ s).trans (levels _)).trans (frameStart_keeps _)).trans (chooseBus_keeps _)).trans
      (chooseTransmit_keeps _)).next

theorem execPollGapTimerExpiry_kept (s : State) : OutcomeKept s (execPollGapTimerExpiry s) := by
  unfold execPollGapTimerExpiry
  dsimp only
  split
  · exact (clearPorts_keeps s).next
  · exact ((((expiry_keeps _ s).trans (beginCycle_keeps _)).trans (chooseBus_keeps _)).trans
      (chooseTransmit_keeps _)).next

theorem execDoorHeld_kept (n : Nat) (s : State) : OutcomeKept s (execDoorHeld n s) := by
  unfold execDoorHeld
  dsimp only
  split
  · exact (clearPorts_keeps s).next
  · exact (((expiry_keeps _ s).trans ((examineDoorHeld_kept n _).kept (examineDoorHeld_records n _))).trans
      (chooseTransmit_keeps _)).next

theorem execPulseEnd_kept (s : State) : OutcomeKept s (execPulseEnd s) := by
  unfold execPulseEnd
  dsimp only
  split
  · exact ((expiry_keeps _ s).trans (withBbm_keeps _ _ (by rfl))).next
  · exact (clearPorts_keeps s).next

theorem execQuietEnd_kept (s : State) : OutcomeKept s (execQuietEnd s) := by
  unfold execQuietEnd
  dsimp only
  split
  · exact ((((((expiry_keeps _ s).trans (withBbm_keeps _ _ (by rfl))).trans (endNotice_keeps _)).trans
      (cycleAfterQuiet_keeps _)).trans (chooseBus_keeps _)).trans (chooseTransmit_keeps _)).next
  · exact (clearPorts_keeps s).next

theorem execStoreEnd_kept (x : Bool) (s : State) : OutcomeKept s (execStoreEnd x s) := by
  unfold execStoreEnd
  dsimp only
  split
  · exact ((((clearPorts_keeps s).trans (withSst_keeps _ _)).trans (endLongOp_keeps _ _)).trans
      (chooseTransmit_keeps _)).next
  · exact (clearPorts_keeps s).next

theorem execReplyReceived_kept (frame : List Byte) (s : State) : OutcomeKept s (execReplyReceived frame s) := by
  unfold execReplyReceived
  dsimp only
  split
  · exact (clearPorts_keeps s).next
  · split
    · exact (((clearPorts_keeps s).trans (attemptSucceeded_keeps _ _)).trans (chooseTransmit_keeps _)).next
    · exact (((clearPorts_keeps s).trans (attemptFailed_keeps _)).trans (chooseTransmit_keeps _)).next

theorem execReplyTimeout_kept (s : State) : OutcomeKept s (execReplyTimeout s) := by
  unfold execReplyTimeout
  dsimp only
  split
  · exact (((clearPorts_keeps s).trans (attemptFailed_keeps _)).trans (chooseTransmit_keeps _)).next
  · exact (clearPorts_keeps s).next

theorem endBroadcast_keeps (s : State) : Kept s (endBroadcast s) :=
  .of_same rfl rfl id id id id id fun _ => no_exchange_attempts rfl

theorem execBroadcastEnd_kept (s : State) : OutcomeKept s (execBroadcastEnd s) := by
  unfold execBroadcastEnd
  dsimp only
  split
  · exact ((((clearPorts_keeps s).trans (endBroadcast_keeps _)).trans (afterExchange_keeps _)).trans
      (chooseTransmit_keeps _)).next
  · exact (clearPorts_keeps s).next

/-! ### Every command -/

/-- A request command takes its frame and serves the request (log entry 4). -/
theorem exec_request (i : Instr) (s : State) (hi : IsRequest i) : exec i s = .next (takeRequest (serveRequest i) s) := by
  cases i <;> simp [IsRequest, encodeRequest] at hi
  all_goals rfl

theorem exec_kept (i : Instr) (s : State) : OutcomeKept s (exec i s) := by
  by_cases hi : IsRequest i
  · rw [exec_request i s hi]
    exact next_kept (takeRequest_step _ (serveRequest_step i) s)
  cases i with
  | receiveByte b => exact execReceiveByte_kept b s
  | gapTimerExpiry => exact execGapTimerExpiry_kept s
  | silenceTimerExpiry => exact execSilenceTimerExpiry_kept s
  | transmitEnd => exact execTransmitEnd_kept s
  | scan chars => exact execScan_kept chars s
  | windowTimerExpiry => exact execWindowTimerExpiry_kept s
  | lockoutTimerExpiry => exact execLockoutTimerExpiry_kept s
  | powerOn l0 l1 l2 l3 => exact execPowerOn_kept l0 l1 l2 l3 s
  | holdTick => exact execHoldTick_kept s
  | frameStart l0 l1 l2 l3 => exact execFrameStart_kept l0 l1 l2 l3 s
  | pollGapTimerExpiry => exact execPollGapTimerExpiry_kept s
  | doorHeld n => exact execDoorHeld_kept n s
  | pulseEnd => exact execPulseEnd_kept s
  | quietEnd => exact execQuietEnd_kept s
  | storeEnd x => exact execStoreEnd_kept x s
  | replyReceived f => exact execReplyReceived_kept f s
  | replyTimeout => exact execReplyTimeout_kept s
  | broadcastEnd => exact execBroadcastEnd_kept s
  | _ => exact absurd rfl hi

theorem step_kept (s t : State) (h : step s = .next t) : StepKept s t := by
  unfold step at h
  split at h
  · cases h
    exact ((clearPorts_keeps s).trans (elapse_keeps 1 _)).step
  case h_2 c rest hp =>
    have taken : Kept s { s with pending := rest } := .of_same rfl rfl id id id id id id
    exact .afterLink taken (fun _ => rfl) (exec_kept c _ t h)

/-- Settles O6. -/
theorem capacitiesAreKept : Obligations.CapacitiesAreKept :=
  fun s t h => ⟨(step_kept s t h).capacity, (step_kept s t h).attempts⟩

/-- Settles O9. -/
theorem orderTablesStayConsistent : Obligations.OrderTablesStayConsistent :=
  fun s t hs h => (step_kept s t h).tables hs

/-- Settles O11. -/
theorem holdFieldsStayInRange : Obligations.HoldFieldsStayInRange :=
  fun s t hs h => (step_kept s t h).holds hs

/-- Settles O12. -/
theorem freeListsStayExact : Obligations.FreeListsStayExact :=
  fun s t hs h => (step_kept s t h).lists hs

/-- Settles O14: no act gives a condemned order another cause, and BOOK takes no id that stands in the table. -/
theorem firstCauseIsKept : Obligations.FirstCauseIsKept :=
  fun c s t id o o' k ho hk h ho' => (exec_kept c s t h).causes id o o' k ho hk ho'

end Sys2Proof.Proofs

/-! ## The laws at reset, and the requests that read (R30 to R35, R39, R45, R55, R93, R136, R140, R168, R169, R174, R185, R188) -/

namespace Sys2Proof.Proofs

open Sys2Proof.Machine

variable {s t u : State}

/-! ### Right after reset (R186, section 1.2) -/

theorem reset_locker (n : Nat) (hn : n < 48) : State.reset.locker n = Locker.factoryReset n := vget_vinit _ _ _ _ hn

theorem reset_freeList (c : SizeClass) : State.reset.freeList c = [] := by cases c <;> rfl

theorem reset_orders : State.reset.oru.orders = [] := rfl

theorem reset_freeListsExact : State.reset.FreeListsExact := by
  refine freeListsExact_of_below _ (fun c n hn => ?_) (fun c n hn => ?_) (fun c => ?_) fun n hn => ?_
  · simp [reset_freeList] at hn
  · simp [reset_freeList, reset_locker n hn, Locker.factoryReset]
  · simp [reset_freeList]
  · simp [reset_locker n hn, Locker.factoryReset, Locker.blank]

/-- No order stands in the table, and no locker names one. -/
theorem reset_ordersPaired : State.reset.OrdersPaired := by
  refine ⟨by simp [reset_orders], fun n id hn href => ?_⟩
  simp [reset_locker n hn, Locker.factoryReset, Locker.blank] at href

/-- The power-on discovery is in its pulse, with every locker OFFLINE and nothing on the bus (R186, R188). -/
theorem reset_surveyConsistent : State.reset.SurveyConsistent := by
  refine ⟨fun d hd => ?_, fun n a m h => ?_, fun _ => ⟨rfl, _, rfl, by decide⟩, fun h => ?_⟩
  · obtain rfl : d = ⟨.powerOn, .reset⟩ := (Option.some.inj hd).symm
    refine ⟨fun n hn _ => ?_, ⟨_, rfl, by decide⟩, by simp, fun _ => by decide, fun _ => ?_⟩
    · simp [reset_locker n hn, Locker.factoryReset, Locker.blank]
    · simp [Txu.NoneWaiting, State.reset]
  · cases h
  · cases h

/-- Settles O5. -/
theorem lawsHoldAtReset : Obligations.LawsHoldAtReset := by
  refine ⟨?_, ?_, fun _ _ => ⟨rfl, rfl⟩, ⟨rfl, List.nodup_nil, List.nodup_nil, rfl⟩, ?_, reset_freeListsExact,
    no_exchange_attempts rfl, reset_ordersPaired, reset_surveyConsistent⟩
  · simp [State.WithinCapacity, State.reset]
  · simp [State.PlacesCover, State.owed, State.reset]
  · simp [State.HoldInRange, reset_orders]

/-! ### Requests that read (R45, R168, R169, R174, R185) -/

/-- A request answered OK with a body, nothing else changed. -/
theorem exec_answered (i : Instr) (k : Kind) (tag : Nat) (st : Status) (body : List Field) (s : State)
    (h : s.lki.placesHeld < 32) (hi : IsRequest i)
    (hs : serveRequest i s.accepted = answer k tag st body s.accepted) :
    exec i s = .next (chooseTransmit (answer k tag st body s.accepted)) := by
  rw [exec_served i s hi h, hs]

theorem orderBody_eq (s : State) (o : Order) :
    orderBody s o =
      ([.b4 o.id, .b4 o.code, .b1 o.cls.code, .b1 o.profile, .b2 o.budget, .b2 o.deadline] : List Field) ++
        (match o.status with
          | .pending age => [.b1 0, .opt1 (o.condemned.map Cause.code), .b2 age, .b1 (s.oru.queue.idxOf o.id + 1)]
          | .placed n age late =>
            [.b1 1, .opt1 (o.condemned.map Cause.code), .b1 n, .b1 (s.locker n).phase.code, .b2 age, .flag late,
              .b1 o.attempts]) ++
        (match o.hold with
          | some h => [.b2 h.life, .b2 h.cold, .flag h.warned]
          | none => []) := by
  unfold orderBody
  cases hs : o.status <;> cases o.hold <;> simp [Order.isPending, hs, queuePosition]

theorem serveParamGet_known (tag p : Nat) (s : State) (h : 1 ≤ p) (h' : p ≤ 16) :
    serveParamGet tag p s = answer kParamGet tag .ok [.b1 p, paramField p (paramValue s p)] s := by
  unfold serveParamGet
  rw [if_neg (by omega)]
  rfl

theorem tableRecord_out (s : State) (t i : Nat) (h : (t = 0 ∧ 47 < i) ∨ (t = 1 ∧ 7 < i) ∨ (t = 2 ∧ 3 < i)) :
    tableRecord s t i = none := by
  rcases h with ⟨rfl, h⟩ | ⟨rfl, h⟩ | ⟨rfl, h⟩ <;> simp only [tableRecord] <;> rw [if_neg (by omega)]

/-- The settings and STRICT_HOLD are read through the frame that carries the request. -/
theorem paramValue_accepted (s : State) (p : Nat) : paramValue s.accepted p = paramValue s p := by
  unfold paramValue
  simp only [accepted_params, accepted_sst]

/-- What STATUS shows of the link in the state that has heard its frame (R147, R185). -/
theorem accepted_errors (s : State) : s.accepted.lki.errors = s.lki.errors := by
  unfold State.accepted
  rw [heard_eq]
  rfl

theorem accepted_islandEntries (s : State) : s.accepted.lki.islandEntries = s.lki.islandEntries := by
  unfold State.accepted
  rw [heard_eq]
  rfl

theorem countPhase_accepted (s : State) : countPhase s.accepted = countPhase s := by
  funext p
  simp [countPhase]

theorem countOrders_accepted (s : State) : countOrders s.accepted = countOrders s := by
  funext p
  simp [countOrders]

/-- Settles O39. -/
theorem readsChangeNothing : Obligations.ReadsChangeNothing := by
  intro tag s h a answered
  have read (i : Instr) (k : Kind) (body : List Field) (hi : IsRequest i)
      (hs : serveRequest i a = answer k tag .ok body a) : answered i k body := exec_answered i k tag .ok body s h hi hs
  refine ⟨fun id o hd ho => read _ _ _ rfl ?_, fun n hn => read _ _ _ rfl ?_, fun i hi => read _ _ _ rfl ?_,
    fun f hf => read _ _ _ rfl ?_, fun p h1 h2 => read _ _ _ rfl ?_, fun t i hout => ?_, read _ _ _ rfl ?_⟩
  · have found : a.order? id = some o := by simp [a, ho]
    have quiet : a.discovering = false := by simp [a, State.discovering, hd]
    simp only [serveRequest, serveQueryOrder, quiet, found, Bool.false_eq_true, ↓reduceIte]
    rw [orderBody_eq, s.order_id id o ho]
    simp only [a, accepted_oru, accepted_locker] <;> rfl
  · simp [serveRequest, serveTableRead, tableRecord, hn, a, LayoutEntry.fields, layoutExtra]
  · simp [serveRequest, serveTableRead, tableRecord, hi, a, Profile.fields]
  · simp [serveRequest, serveTableRead, tableRecord, hf, a, FeedEntry.fields]
  · rw [← paramValue_accepted]
    exact serveParamGet_known tag p a h1 h2
  · refine exec_answered _ kTableRead tag .badArgument [] s h rfl ?_
    simp only [serveRequest, serveTableRead, tableRecord_out _ t i hout]
  · refine congrArg (fun b => answer kStatus tag .ok b a) ?_
    simp only [statusBody, a, accepted_errors, accepted_islandEntries, countPhase_accepted, countOrders_accepted,
      accepted_txu, accepted_bbm, accepted_oru, accepted_sst, accepted_locker, accepted_island, accepted_discovering,
      Order.loaded, Option.not_isSome]
    rfl

end Sys2Proof.Proofs

/-! ## BOOK and the offer of a freed locker (R34, R35, R38 to R41, R43) -/

namespace Sys2Proof.Proofs

open Sys2Proof.Machine

variable {s t u : State}

/-! ### The offer (R43) -/

theorem mem_larger_iff (c k : SizeClass) : c ∈ k.larger ↔ k.code < c.code := by
  cases c <;> cases k <;> decide

/-- Which orders a freed locker may take (R43). -/
theorem eligible_iff (x : Bool) (c k : SizeClass) :
    eligible x c k = true ↔ k = c ∨ (x = true ∧ k.code < c.code) := by
  simp [eligible, mem_larger_iff]

theorem becameFree_fenced (n : Nat) (s : State) (h : (s.locker n).fenced = true) : becameFree n s = s := by
  simp [becameFree, h]

/-- No order of the queue takes the locker: it joins the tail of its class's list (R35, R43). -/
theorem becameFree_listed (n : Nat) (s : State) (hf : (s.locker n).fenced = false)
    (h : ∀ id ∈ s.oru.queue, ∀ o, s.order? id = some o → eligible s.params.upsize (s.locker n).cls o.cls = false) :
    becameFree n s = appendFree (s.locker n).cls n s := by
  have none : (s.oru.queue.filterMap s.order?).find? (fun o => eligible s.params.upsize (s.locker n).cls o.cls) =
      none := by
    rw [List.find?_eq_none]
    intro o ho
    obtain ⟨id, hid, hor⟩ := List.mem_filterMap.mp ho
    simp [h id hid o hor]
  simp [becameFree, hf, none]

/-- The first order of the queue that may take the locker takes it (R41, R43). -/
theorem becameFree_placed (n id : Nat) (before behind : List Nat) (o : Order) (s : State)
    (hf : (s.locker n).fenced = false) (hq : s.oru.queue = before ++ id :: behind) (ho : s.order? id = some o)
    (he : eligible s.params.upsize (s.locker n).cls o.cls = true)
    (hb : ∀ i ∈ before, ∀ x, s.order? i = some x → eligible s.params.upsize (s.locker n).cls x.cls = false) :
    becameFree n s = placePending o n s := by
  have first : (s.oru.queue.filterMap s.order?).find? (fun o => eligible s.params.upsize (s.locker n).cls o.cls) =
      some o := by
    rw [hq, List.filterMap_append, List.filterMap_cons, ho, List.find?_append]
    have none : (before.filterMap s.order?).find? (fun o => eligible s.params.upsize (s.locker n).cls o.cls) = none := by
      rw [List.find?_eq_none]
      intro x hx
      obtain ⟨i, hi, hor⟩ := List.mem_filterMap.mp hx
      simp [hb i hi x hor]
    simp [none, he]
  simp [becameFree, hf, first]

/-- With the tables consistent no id waits twice (R33, R34). -/
theorem queue_nodup (h : s.OrdersConsistent) : s.oru.queue.Nodup := by
  obtain ⟨-, hids, -, hqueue⟩ := h
  rw [hqueue]
  exact hids.sublist (List.filter_sublist.map _)

theorem filter_ne_middle (before behind : List Nat) (i : Nat) (h : (before ++ i :: behind).Nodup) :
    (before ++ i :: behind).filter (fun j => j != i) = before ++ behind := by
  obtain ⟨-, hb, hne⟩ := List.nodup_append.mp h
  have keep (l : List Nat) (hl : i ∉ l) : l.filter (fun j => j != i) = l := by
    rw [List.filter_eq_self]
    intro j hj
    simp only [bne_iff_ne]
    rintro rfl
    exact hl hj
  rw [List.filter_append, List.filter_cons_of_neg (by simp), keep before fun hi => hne i hi i (by simp) rfl,
    keep behind (List.nodup_cons.mp hb).1]

theorem filter_ne_of_not_mem {n : Nat} {ns : List Nat} (h : n ∉ ns) : ns.filter (fun m => m != n) = ns := by
  rw [List.filter_eq_self]
  intro m hm
  simp only [bne_iff_ne]
  rintro rfl
  exact h hm

/-- A FREE locker reserved for an order (R41). -/
theorem reserve_of_free (id : Nat) (l : Locker) (h : l.phase = .free) :
    l.reserve id = { l with phase := .reserved, orderRef := some id } := by
  simp [Locker.reserve, Locker.enter, Locker.arrive, leave_of_plain l (by simp [h])]

/-- A FREE record is one of the 48. -/
theorem lt_of_free (n : Nat) (h : (s.locker n).phase = .free) : n < 48 := by
  by_contra hn
  rw [State.locker_out s n (by omega)] at h
  simp [Locker.blank] at h

/-- Settles O28. -/
theorem freedLockerIsOfferedToTheQueue : Obligations.FreedLockerIsOfferedToTheQueue := by
  intro n s consistent hn hp l may
  have eligible_may (o : Order) : eligible s.params.upsize l.cls o.cls = true ↔ may o := eligible_iff _ _ _
  have not_eligible (o : Order) (h : ¬ may o) : eligible s.params.upsize l.cls o.cls = false := by
    rw [← eligible_may] at h
    simpa using h
  refine ⟨becameFree_fenced n s, fun hf hmay => ?_, fun before id behind o age hf hq ho hs hmay hbefore => ?_⟩
  · rw [becameFree_listed n s hf fun id hid o ho => not_eligible o (hmay id hid o ho)]
    exact ⟨(appendFree_records _ _ _).onlyRecords, by simp, by simp, by simp [appendFree_freeList, l], by simp,
      by simp⟩
  · have hid := s.order_id id o ho
    refine ⟨join id n s, ?_, (join_records id n s).onlyRecords, join_lki id n s, ?_, fun c hc => ?_, ?_, ?_,
      fun m hm => join_locker_ne id n m s hm⟩
    · rw [becameFree_placed n id before behind o s hf hq ho ((eligible_may o).mpr hmay)
        fun i hi x hx => not_eligible x (hbefore i hi x hx)]
      simp only [placePending, hs, hid, l]
    · have once := queue_nodup consistent
      rw [hq] at once
      rw [join_queue, hq, filter_ne_middle before behind id once]
    · rw [join_freeList, filter_ne_of_not_mem hc, ite_self]
    · rw [join_order, ho]
      simp [hid]
    · rw [join_locker_same id n s hn, reserve_of_free id _ hp]

/-! ### BOOK (R38 to R41) -/

/-- R38's checks pass. -/
theorem checkBook_of_passed (s : State) (id code p : Nat) (h0 : id ≠ 0) (hc : code ≤ 99999999) (hp : p ≤ 7)
    (hn : s.order? id = none) (hu : ∀ e ∈ s.oru.codeMap, e.1 ≠ code) (hr : s.oru.orders.length < 64) :
    checkBook s id code p = none := by
  have fresh : (s.oru.codeMap.any fun e => e.1 == code) = false := by simpa using hu
  simp [checkBook, h0, hn, fresh, Nat.not_lt.mpr hc, Nat.not_lt.mpr hp, Nat.not_le.mpr hr]

/-- A BOOK that passes R38's checks goes to the allocation with its values clamped (R39, R40). -/
theorem serveBook_checked (tag id code cls p bu de : Nat) (k : SizeClass) (s : State) (hd : s.discovering = false)
    (hk : SizeClass.ofCode cls = some k) (hc : checkBook s id code p = none) :
    serveBook tag id code cls p bu de s =
      bookAllocate tag (newOrder id code k p (max 60 (min bu 7200)) (min de 3600))
        (decide (max 60 (min bu 7200) ≠ bu) || decide (min de 3600 ≠ de)) s := by
  have low : max 0 (min de 3600) = min de 3600 := Nat.zero_max _
  simp only [serveBook, hd, hk, hc, clamp, low, Bool.false_eq_true, ↓reduceIte]
  rfl

theorem serveBook_refused (tag id code cls p bu de : Nat) (st : Status) (k : SizeClass) (s : State)
    (hd : s.discovering = false) (hk : SizeClass.ofCode cls = some k) (hc : checkBook s id code p = some st) :
    serveBook tag id code cls p bu de s = answer kBook tag st [] s := by
  simp [serveBook, hd, hk, hc]

theorem checkBook_accepted (s : State) (id code p : Nat) : checkBook s.accepted id code p = checkBook s id code p := by
  unfold checkBook
  rw [accepted_order, accepted_oru]

theorem accepted_quiet (hd : s.ltu.discovery = none) : s.accepted.discovering = false := by
  simp [State.discovering, hd]

/-- Placed on the locker found, the record of a new order is PLACED and every other as it was. -/
theorem booked_orders (o : Order) (n : Nat) (s : State) (h : s.order? o.id = none) :
    (join o.id n (admitOrder o s)).oru.orders = s.oru.orders ++ [{ o with status := .placed n 0 false }] := by
  have others : s.oru.orders.map (fun x => if x.id == o.id then { x with status := .placed n 0 false } else x) =
      s.oru.orders := by
    rw [List.map_congr_left (g := id), List.map_id]
    intro x hx
    have : ¬ x.id = o.id := by simpa using List.find?_eq_none.mp h x hx
    simp [this]
  rw [join_orders]
  simp only [admitOrder, List.map_append, others]
  simp

/-- The list whose head the allocation takes (R40). -/
theorem allocate_choice (s : State) (k k' : SizeClass) (n : Nat) (rest : List Nat) (hl : s.freeList k' = n :: rest)
    (h : k' = k ∨ (s.params.upsize = true ∧ s.freeList k = [] ∧ k' ∈ k.larger ∧
      ∀ c ∈ k.larger, c.code < k'.code → s.freeList c = [])) : allocate s k = some n := by
  rcases h with rfl | ⟨hu, he, hk, hj⟩
  · exact allocate_head s k' n rest hl
  · exact allocate_first_larger s k k' n rest he hu hk hl hj

theorem allocate_accepted (s : State) (c : SizeClass) : allocate s.accepted c = allocate s c := by
  simp [allocate]

/-- Settles O25. -/
theorem bookPlacesOnTheHeadOfAList : Obligations.BookPlacesOnTheHeadOfAList := by
  intro tag id code cls profile budget deadline n k k' rest s h hd exact' hk h0 hcode hprofile fresh unused room
    hlist choice b d
  have found : allocate s.accepted k = some n := by rw [allocate_accepted, allocate_choice s k k' n rest hlist choice]
  have listed : n ∈ s.freeList k' := by simp [hlist]
  obtain ⟨free, -, class'⟩ := (exact'.1 k' n).mp listed
  have hn := lt_of_free n free
  let o := newOrder id code k profile b d
  have unlisted (c : SizeClass) : (join id n (admitOrder o s.accepted)).freeList c =
      if c = k' then (s.freeList c).filter (fun m => m != n) else s.freeList c := by
    have lists (c : SizeClass) : (admitOrder o s.accepted).freeList c = s.freeList c := by
      rw [← accepted_freeList s c]
      cases c <;> rfl
    have same : ((admitOrder o s.accepted).locker n).cls = k' := by
      rw [← class', ← accepted_locker s n]
      rfl
    rw [join_freeList, lists, same]
  refine ⟨join id n (admitOrder o s.accepted), ?_, ?_, join_lki _ _ _, ?_, ?_, ?_, ?_, fun c hc => ?_, ?_, ?_⟩
  · rw [exec_served (.book tag id code cls profile budget deadline) s rfl h]
    have status : (if decide (b ≠ budget) || decide (d ≠ deadline) then Status.okClamped else .ok) =
        if b = budget ∧ d = deadline then .ok else .okClamped := by
      by_cases hb : b = budget <;> by_cases hd' : d = deadline <;> simp [hb, hd']
    have check : checkBook s.accepted id code profile = none := by
      rw [checkBook_accepted]
      exact checkBook_of_passed s id code profile h0 hcode hprofile fresh unused room
    simp only [serveRequest]
    rw [serveBook_checked tag id code cls profile budget deadline k _ (accepted_quiet hd) hk check, ← status]
    simp only [bookAllocate, newOrder, found]
    rfl
  · exact ((oru_records _ s.accepted).trans (join_records id n _)).onlyRecords
  · rw [← accepted_oru s]
    exact booked_orders o n s.accepted (by simpa [o, newOrder] using fresh)
  · rw [join_codeMap]
    simp [admitOrder, o, newOrder]
  · rw [join_queue]
    simp [admitOrder]
  · have once := exact'.2.1 k'
    rw [hlist] at once
    rw [unlisted, if_pos rfl, hlist]
    exact filter_ne_middle [] rest n once
  · rw [unlisted, if_neg hc]
  · rw [join_locker_same id n _ hn]
    have same : (admitOrder o s.accepted).locker n = s.locker n := accepted_locker s n
    rw [same, reserve_of_free id _ free]
  · intro m hm
    rw [join_locker_ne id n m _ hm]
    exact accepted_locker s m

/-- The state in which a new order waits at the tail of the queue (R34, R40). -/
theorem waiting_eq (o : Order) (s : State) :
    waiting o s = { s with oru := { s.oru with
      orders := s.oru.orders ++ [o], codeMap := s.oru.codeMap ++ [(o.code, o.id)], queue := s.oru.queue ++ [o.id] } } :=
  rfl

/-- No locker is found and the queue has room: the order waits (R40). -/
theorem bookAllocate_waits (tag : Nat) (o : Order) (x : Bool) (s : State) (ha : allocate s o.cls = none)
    (hq : s.oru.queue.length < 16) :
    bookAllocate tag o x s =
      answer kBook tag .pending [.b1 (s.oru.queue.length + 1), .b2 o.budget, .b2 o.deadline] (waiting o s) := by
  simp [bookAllocate, ha, hq, waiting, admitOrder]

/-- No locker is found and the queue is full (R40). -/
theorem bookAllocate_full (tag : Nat) (o : Order) (x : Bool) (s : State) (ha : allocate s o.cls = none)
    (hq : 16 ≤ s.oru.queue.length) : bookAllocate tag o x s = answer kBook tag .noLocker [] s := by
  simp [bookAllocate, ha, Nat.not_lt.mpr hq]

/-- The allocation of R40 finds none. -/
theorem allocate_none_of (s : State) (k : SizeClass) (hl : s.freeList k = [])
    (h : s.params.upsize = false ∨ ∀ c ∈ k.larger, s.freeList c = []) : allocate s k = none := by
  rw [allocate_none_iff]
  exact ⟨hl, fun hu => h.resolve_left (by simp [hu])⟩

theorem ofCode_isSome (cls : Nat) (h : cls ≤ 2) : ∃ k, SizeClass.ofCode cls = some k := by
  match cls, h with
  | 0, _ => exact ⟨.small, rfl⟩
  | 1, _ => exact ⟨.medium, rfl⟩
  | 2, _ => exact ⟨.large, rfl⟩

theorem ofCode_none (cls : Nat) (h : 2 < cls) : SizeClass.ofCode cls = none := by
  match cls, h with
  | n + 3, _ => rfl

/-- Settles O26. -/
theorem bookWaitsOrRefuses : Obligations.BookWaitsOrRefuses := by
  refine ⟨fun tag id code cls profile budget deadline k s h hd hk h0 hcode hprofile fresh unused room hl hlarger hq => ?_,
    fun tag id code cls profile budget deadline s h => ?_⟩
  · intro b d a
    have check : checkBook a id code profile = none := by
      rw [checkBook_accepted]
      exact checkBook_of_passed s id code profile h0 hcode hprofile fresh unused room
    have none : allocate a k = none := by
      rw [allocate_accepted]
      exact allocate_none_of s k hl hlarger
    have queue : a.oru.queue.length < 16 := by simpa [a] using hq
    rw [exec_served (.book tag id code cls profile budget deadline) s rfl h]
    simp only [serveRequest]
    rw [serveBook_checked tag id code cls profile budget deadline k a (accepted_quiet hd) hk check,
      bookAllocate_waits tag _ _ a none queue, waiting_eq]
    simp only [newOrder, a, accepted_oru]
    rfl
  · intro refused inRange
    have served (st : Status)
        (hs : serveBook tag id code cls profile budget deadline s.accepted = answer kBook tag st [] s.accepted) :
        refused st := exec_answered _ kBook tag st [] s h rfl hs
    have checked (st : Status) (k : SizeClass) (hd : s.ltu.discovery = none) (hk : SizeClass.ofCode cls = some k)
        (hc : checkBook s id code profile = some st) : refused st :=
      served st (serveBook_refused _ _ _ _ _ _ _ st k _ (accepted_quiet hd) hk (by rw [checkBook_accepted]; exact hc))
    refine ⟨fun hd => served _ ?_, fun hd hr => ?_, fun hd hr hid => ?_, fun hd hr hid hcode => ?_,
      fun hd hr hid hcode hfull => ?_, fun hd hr hid hcode room hnone hq => ?_⟩
    · have busy : s.accepted.discovering = true := by
        simpa [State.discovering, Option.isSome_iff_ne_none] using hd
      simp [serveBook, busy]
    · by_cases hcls : cls ≤ 2
      · obtain ⟨k, hk⟩ := ofCode_isSome cls hcls
        refine checked _ k hd hk ?_
        unfold checkBook
        rw [if_pos]
        by_contra hok
        exact hr ⟨by tauto, by omega, hcls, by omega⟩
      · refine served _ ?_
        simp [serveBook, accepted_quiet hd, ofCode_none cls (by omega)]
    · obtain ⟨h0, hc, hcls, hp⟩ := hr
      obtain ⟨k, hk⟩ := ofCode_isSome cls hcls
      refine checked _ k hd hk ?_
      simp [checkBook, h0, Nat.not_lt.mpr hc, Nat.not_lt.mpr hp, Option.isSome_iff_ne_none, hid]
    · obtain ⟨h0, hc, hcls, hp⟩ := hr
      obtain ⟨k, hk⟩ := ofCode_isSome cls hcls
      refine checked _ k hd hk ?_
      have taken : (s.oru.codeMap.any fun e => e.1 == code) = true := by simpa using hcode
      simp [checkBook, h0, Nat.not_lt.mpr hc, Nat.not_lt.mpr hp, hid, taken]
    · obtain ⟨h0, hc, hcls, hp⟩ := hr
      obtain ⟨k, hk⟩ := ofCode_isSome cls hcls
      refine checked _ k hd hk ?_
      have unused : (s.oru.codeMap.any fun e => e.1 == code) = false := by simpa using hcode
      simp [checkBook, h0, Nat.not_lt.mpr hc, Nat.not_lt.mpr hp, hid, unused, hfull]
    · obtain ⟨h0, hc, hcls, hp⟩ := hr
      obtain ⟨k, hk⟩ := ofCode_isSome cls hcls
      obtain ⟨hl, hlarger⟩ := hnone k hk
      have check : checkBook s.accepted id code profile = none := by
        rw [checkBook_accepted]
        exact checkBook_of_passed s id code profile h0 hc hp hid hcode room
      have none : allocate s.accepted k = none := by
        rw [allocate_accepted]
        exact allocate_none_of s k hl hlarger
      refine served _ ?_
      rw [serveBook_checked tag id code cls profile budget deadline k _ (accepted_quiet hd) hk check,
        bookAllocate_full tag _ _ _ none (by simpa using hq)]

end Sys2Proof.Proofs

/-! ## CANCEL by the order and its locker (R42, R43, R48, R49) -/

namespace Sys2Proof.Proofs

open Sys2Proof.Machine

variable {s t u : State}

/-- What a submission queues does not depend on the orders. -/
theorem submit_oru_comm (k : ReportKind) (fs : List Field) (x : Oru) (s : State) :
    submit k fs { s with oru := x } = { submit k fs s with oru := x } := by
  have same : groupEnabled (State.params { s with oru := x }) k.group = groupEnabled s.params k.group := rfl
  unfold submit submitTagged
  rw [same]
  split <;> rfl

theorem redirect_kept (l : Locker) (p : Phase) (h : l.heaterExcluded = false) : redirect l p = p := by
  simp [redirect, h]

theorem redirect_free_excluded (l : Locker) (h : l.heaterExcluded = true) : redirect l .free = .service := by
  simp [redirect, h]

/-- What the first condemnation of an order at the locker `n` changes (R48). -/
theorem condemn_first (id n : Nat) (c : Cause) (o : Order) (s : State) (ho : s.order? id = some o)
    (hc : o.condemned = none) (hl : o.locker = some n) (hn : n < 48) :
    OnlyRecords s (condemn id c s) ∧ (∀ m, m ≠ n → (condemn id c s).locker m = s.locker m) ∧
      (condemn id c s).locker n = (s.locker n).condemnNotice ∧
      (condemn id c s).order? id = some { o with condemned := some c } ∧
      (condemn id c s).lki = (submit .condemned [.b4 id, .b1 c.code, .b1 n] s).lki := by
  have at_n := condemn_placed id n c o s ho hc hl
  refine ⟨(condemn_records id c s).onlyRecords, fun m hm => ?_, ?_, ?_, ?_⟩
  · rw [at_n, State.modLocker_ne _ _ _ _ hm, submit_locker, State.modOrder_locker]
  · rw [at_n, State.modLocker_same _ _ _ hn, submit_locker, State.modOrder_locker]
  · have marked := s.modOrder_order id id (fun o => { o with condemned := some c }) fun _ => rfl
    rw [ho, Option.map_some, if_pos (s.order_id id o ho)] at marked
    rw [at_n]
    simpa [State.order?] using marked
  · rw [at_n, State.modLocker_lki]
    exact (congrArg State.lki (submit_oru_comm _ _ (s.modOrder id fun o => { o with condemned := some c }).oru s)).trans rfl

/-- The states that CANCEL of a PLACED order gives, by its locker's phase (R42). -/
theorem serveCancel_placed (tag id n : Nat) (o : Order) (s : State) (hd : s.discovering = false)
    (ho : s.order? id = some o) (hl : o.locker = some n) : serveCancel tag id s = cancelPlaced tag id n s := by
  simp [serveCancel, hd, ho, hl]

/-- A RESERVED locker goes to `p` after the removal of its order. -/
theorem moveTo_after_removal (id n : Nat) (o : Order) (p : Phase) (s : State) (ho : s.order? id = some o)
    (hl : o.locker = some n) (hn : n < 48) (hr : (s.locker n).phase = .reserved)
    (hp : p = .free ∨ p = .service) :
    moveTo p n (removeOrder id s) = (removeOrder id s).setLocker n { s.locker n with phase := p, orderRef := none } ∧
      (moveTo p n (removeOrder id s)).oru = (removeOrder id s).oru := by
  have record := removeOrder_locker_same id n o s ho hl hn
  have moved : moveTo p n (removeOrder id s) =
      (removeOrder id s).setLocker n { s.locker n with phase := p, orderRef := none } := by
    rw [moveTo_of_not_free p n _ (by rw [record]; simp [hr]), record, Locker.enter, leave_of_plain _ (by simp [hr])]
    rcases hp with rfl | rfl <;> rfl
  exact ⟨moved, by rw [moved]; rfl⟩

/-- Settles O27. -/
theorem cancelByStatus : Obligations.CancelByStatus := by
  intro tag id o s h hd ho a removed ok
  have quiet : a.discovering = false := accepted_quiet hd
  have found : a.order? id = some o := by simpa [a] using ho
  have served (u : State) (hs : serveCancel tag id a = answer kCancel tag .ok [] u) : ok u := by
    show exec (.cancel tag id) s = _
    rw [exec_served (.cancel tag id) s rfl h, serveRequest, hs]
  have gone : (removeOrder id a).oru = removed := by
    rw [removeOrder_eq id o a found]
    simp [removed, a]
  refine ⟨fun hl => served _ ?_, fun n hl hn => ?_⟩
  · have plain : removeOrder id a = { a with oru := removed } := by
      rw [removeOrder_eq id o a found, hl]
      simp [removed, a]
    simp [serveCancel, quiet, found, hl, plain]
  have placed := serveCancel_placed tag id n o a quiet found hl
  have record : a.locker n = s.locker n := by simp [a]
  have others (v : State) (hv : ∀ m, m ≠ n → v.locker m = a.locker m) : OtherLockersSame n s v := fun m hm => by
    rw [hv m hm]
    simp [a]
  have removal_others m (hm : m ≠ n) : (removeOrder id a).locker m = a.locker m := by
    refine removeOrder_locker_ne id m a fun x hx => ?_
    rw [found] at hx
    cases hx
    rw [hl]
    simpa using Ne.symm hm
  have removed_record : (removeOrder id a).locker n = { s.locker n with orderRef := none } := by
    rw [removeOrder_locker_same id n o a found hl hn, record]
  -- A RESERVED locker is freed, or goes to SERVICE where its heater is excluded (R21).
  have freed (p : Phase) (hp : p = .free ∨ p = .service) (hr : (s.locker n).phase = .reserved) :
      (moveTo p n (removeOrder id a)).oru = removed ∧ OnlyRecords a (moveTo p n (removeOrder id a)) ∧
        (moveTo p n (removeOrder id a)).lki = a.lki ∧ OtherLockersSame n s (moveTo p n (removeOrder id a)) ∧
        (moveTo p n (removeOrder id a)).locker n = { s.locker n with phase := p, orderRef := none } := by
    obtain ⟨moved, oru⟩ := moveTo_after_removal id n o p a found hl hn (by rw [record]; exact hr) hp
    refine ⟨oru.trans gone, ((removeOrder_records id a).trans (moveTo_records _ _ _)).onlyRecords, by simp,
      others _ fun m hm => ?_, ?_⟩
    · rw [moveTo_locker_ne _ _ _ _ hm, removal_others m hm]
    · rw [moved, State.setLocker_same _ _ _ hn, record]
  have first (hc : o.condemned = none) := condemn_first id n .cancelled o a found hc hl hn
  refine ⟨fun hr hx => ⟨moveTo .free n (removeOrder id a), ?_⟩, fun hr hx => ⟨moveTo .service n (removeOrder id a), ?_⟩,
    fun hp => ?_, fun hp => served _ ?_, fun hp hc => ⟨condemn id .cancelled a, served _ ?_, ?_⟩, fun hp hres => ?_,
    fun hp hres hc => ⟨condemn id .cancelled a, served _ ?_, ?_⟩, fun hp hres => served _ ?_⟩
  · obtain ⟨oru, only, lki, other, at_n⟩ := freed .free (.inl rfl) hr
    refine ⟨oru, only, lki, other, at_n, served _ ?_⟩
    have same : redirect ((removeOrder id a).locker n) .free = .free := redirect_kept _ _ (by rw [removed_record]; exact hx)
    rw [placed, cancelPlaced, record, hr]
    simp only [moveToUnlessExcluded, same, announceFree, at_n, ↓reduceIte]
  · obtain ⟨oru, only, lki, other, at_n⟩ := freed .service (.inr rfl) hr
    refine ⟨oru, only, lki, other, at_n, served _ ?_⟩
    have same : redirect ((removeOrder id a).locker n) .free = .service :=
      redirect_free_excluded _ (by rw [removed_record]; exact hx)
    rw [placed, cancelPlaced, record, hr]
    simp only [moveToUnlessExcluded, same, announceFree, at_n]
    rfl
  · rw [exec_served (.cancel tag id) s rfl h, serveRequest, placed, cancelPlaced, record]
    rcases hp with hp | hp | hp <;> rw [hp]
  · rw [placed, cancelPlaced, record]
    rcases hp with hp | hp <;> rw [hp]
  · rw [placed, cancelPlaced, record, hp]
  · obtain ⟨only, other, at_n, kept, lki⟩ := first hc
    exact ⟨only, others _ other, by rw [at_n, record, condemnNotice_eq, if_pos hp], kept, lki⟩
  · refine ⟨(removeOrder id a).modLocker n fun l => { l with resume := some .free }, served _ ?_, gone,
      ((removeOrder_records id a).trans (modLocker_records _ _ _)).onlyRecords, by simp, others _ fun m hm => ?_, ?_⟩
    · rw [placed, cancelPlaced, record, hp, hres]
    · rw [State.modLocker_ne _ _ _ _ hm, removal_others m hm]
    · rw [State.modLocker_same _ _ _ hn, removed_record]
  · rw [placed, cancelPlaced, record, hp, hres]
  · obtain ⟨only, other, at_n, kept, -⟩ := first hc
    refine ⟨only, others _ other, ?_, kept⟩
    rw [at_n, record, condemnNotice_eq, if_neg (by simp [hp]), if_pos ⟨hp, hres⟩]
  · rw [placed, cancelPlaced, record, hp]
    rcases hres with hres | hres <;> rw [hres]

end Sys2Proof.Proofs

/-! ## Requests refused with no effect (R42, R44, R45, R50, R116, R127, R137, R192) -/

namespace Sys2Proof.Proofs

open Sys2Proof.Machine

variable {s : State}

/-! ### Refusals of ORU (R44, R50) -/

theorem withPlacedOrder_busy (k : Kind) (tag id : Nat) (rest : Nat → State → State) (h : s.discovering = true) :
    withPlacedOrder k tag id rest s = answer k tag .busy [] s := by
  simp [withPlacedOrder, h]

theorem withPlacedOrder_unknown (k : Kind) (tag id : Nat) (rest : Nat → State → State) (h : s.discovering = false)
    (ho : s.order? id = none) : withPlacedOrder k tag id rest s = answer k tag .unknownOrder [] s := by
  simp [withPlacedOrder, h, ho]

theorem withPlacedOrder_pending (k : Kind) (tag id : Nat) (rest : Nat → State → State) (o : Order)
    (h : s.discovering = false) (ho : s.order? id = some o) (hl : o.locker = none) :
    withPlacedOrder k tag id rest s = answer k tag .wrongPhase [] s := by
  simp [withPlacedOrder, h, ho, hl]

/-! ### Refusals of LTU and TXU (R116, R127, R137, R192) -/

theorem checkNamedLocker_busy (n : Nat) (h : s.discovering = true) (hn : n < 48) :
    checkNamedLocker s n = some .busy := by
  simp [checkNamedLocker, h, Nat.le_of_lt_succ hn]

theorem checkNamedLocker_outside (n : Nat) (h : 47 < n) : checkNamedLocker s n = some .badArgument := by
  simp [checkNamedLocker, h]

theorem serveServiceUnlatch_refused (tag n d : Nat) (st : Status) (hd : d ≤ 1)
    (h : checkNamedLocker s n = some st) :
    serveServiceUnlatch tag n d s = answer kServiceUnlatch tag st [] s := by
  have known : Door.ofCode d = some .k ∨ Door.ofCode d = some .c := by
    rcases Nat.le_one_iff_eq_zero_or_eq_one.mp hd with rfl | rfl <;> simp [Door.ofCode]
  rcases known with known | known <;> simp [serveServiceUnlatch, known, h]

theorem ofCode_door_none (d : Nat) (h : 1 < d) : Door.ofCode d = none := by
  obtain ⟨k, rfl⟩ : ∃ k, d = k + 2 := ⟨d - 2, by omega⟩
  rfl

theorem servePosted_busy (k : Kind) (tag n : Nat) (x : Bool) (c : PostedContent) (st : Status)
    (h : s.discovering = true) : servePosted k tag n x c st s = answer k tag .busy [] s := by
  simp [servePosted, h]

theorem servePosted_outside (k : Kind) (tag n : Nat) (x : Bool) (c : PostedContent) (st : Status)
    (h : s.discovering = false) (hn : 47 < n) : servePosted k tag n x c st s = answer k tag .badArgument [] s := by
  simp [servePosted, h, hn]

theorem checkLongOp_accepted (s : State) (tag : Nat) : checkLongOp s.accepted tag = checkLongOp s tag := by
  simp [checkLongOp, tagInTable]

theorem checkLongOp_refused (tag : Nat) (st : Status)
    (h : (s.txu.longOp ≠ none ∧ st = .busy) ∨
      (s.txu.longOp = none ∧ (∃ e ∈ s.txu.table, e.tag = some tag) ∧ st = .tagInUse)) :
    checkLongOp s tag = some st := by
  rcases h with ⟨running, rfl⟩ | ⟨idle, used, rfl⟩
  · simp [checkLongOp, Option.isSome_iff_ne_none.mpr running]
  · simp [checkLongOp, idle, tagInTable, used]

/-! ### Refusals of LKI (R137) -/

/-- A frame of a downward class that is complete and passes its check is served on the accepted state (R134, R136). -/
theorem receiveByte_served (b hi : Byte) (bytes : List Byte) (s : State) (hrx : s.lki.rx = .crc bytes (some hi))
    (hc : crc16 bytes = hi * 256 + b) (h : s.lki.placesHeld < 32)
    (hcls : bytes.getD 1 0 = 0x10 ∨ bytes.getD 1 0 = 0x11 ∨ bytes.getD 1 0 = 0x12) :
    exec (.receiveByte b) s =
      .next (chooseTransmit (serveFrame (bytes.getD 1 0) (bytes.getD 2 0) (bytes.getD 3 0) (bytes.drop 4)
        (State.accepted { s with lki := { s.lki with rx := .hunt, gapTimer := none } }))) := by
  have received : receive b s.clearPorts = completeFrame bytes (hi * 256 + b) s.clearPorts := by
    have framing : s.clearPorts.lki.rx = .crc bytes (some hi) := hrx
    simp only [receive, framing]
  have known : rd1 bytes 1 = clsOrder ∨ rd1 bytes 1 = clsModule ∨ rd1 bytes 1 = clsMgmt := hcls
  have taken := takeRequest_free
    (serveFrame (bytes.getD 1 0) (bytes.getD 2 0) (bytes.getD 3 0) (bytes.drop 4)) (s.clearPorts.setRx .hunt none) h
  refine congrArg Host.Outcome.next (received.trans ?_)
  unfold completeFrame
  rw [if_neg (not_not.mpr hc)]
  dsimp only
  rw [if_pos known]
  exact taken

theorem serveFrame_unknownKind (cls kind tag : Nat) (p : List Byte) (h : decodeRequest cls kind tag p = .unknownKind) :
    serveFrame cls kind tag p s = answer ⟨cls, kind⟩ tag .unknownKind [] s := by
  simp [serveFrame, h]

theorem serveFrame_badLength (cls kind tag : Nat) (p : List Byte) (h : decodeRequest cls kind tag p = .badLength) :
    serveFrame cls kind tag p s = answer ⟨cls, kind⟩ tag .badArgument [] s := by
  simp [serveFrame, h]

theorem sized_badLength (p : List Byte) (n : Nat) (i : Instr) (h : p.length ≠ n) : Decoded.sized p n i = .badLength := by
  simp [Decoded.sized, h]

theorem decodeRequest_unknownKind (cls kind tag last : Nat) (p : List Byte)
    (hc : (cls, last) ∈ [(0x10, 7), (0x11, 5), (0x12, 13)]) (hk : kind = 0 ∨ last < kind) :
    decodeRequest cls kind tag p = .unknownKind := by
  simp only [List.mem_cons, Prod.mk.injEq, List.not_mem_nil, or_false] at hc
  rcases hk with rfl | hk
  · rcases hc with ⟨rfl, rfl⟩ | ⟨rfl, rfl⟩ | ⟨rfl, rfl⟩ <;> rfl
  · obtain ⟨k, rfl⟩ : ∃ k, kind = k + (last + 1) := ⟨kind - (last + 1), by omega⟩
    rcases hc with ⟨rfl, rfl⟩ | ⟨rfl, rfl⟩ | ⟨rfl, rfl⟩ <;> rfl

/-- The payload length of each kind of class ORDER (R138). -/
def orderLengths : List (Nat × Nat) := [(1, 14), (2, 4), (3, 6), (4, 4), (5, 4), (6, 4), (7, 4)]

/-- The payload length of each kind of class MODULE that has one (R138). -/
def moduleLengths : List (Nat × Nat) := [(1, 2), (3, 4), (4, 2), (5, 1)]

/-- The payload length of each kind of class MGMT that has one (R138). -/
def mgmtLengths : List (Nat × Nat) :=
  [(1, 2), (3, 1), (5, 0), (6, 0), (7, 0), (8, 1), (9, 1), (10, 2), (11, 1), (12, 0), (13, 0)]

theorem decodeOrder_badLength (kind n tag : Nat) (p : List Byte)
    (hk : (kind, n) ∈ orderLengths) (hp : p.length ≠ n) :
    decodeOrder kind tag p = .badLength := by
  simp only [orderLengths, List.mem_cons, Prod.mk.injEq, List.not_mem_nil, or_false] at hk
  rcases hk with ⟨rfl, rfl⟩ | ⟨rfl, rfl⟩ | ⟨rfl, rfl⟩ | ⟨rfl, rfl⟩ | ⟨rfl, rfl⟩ | ⟨rfl, rfl⟩ | ⟨rfl, rfl⟩ <;>
    exact sized_badLength p _ _ hp

theorem decodeModule_badLength (kind n tag : Nat) (p : List Byte) (hk : (kind, n) ∈ moduleLengths)
    (hp : p.length ≠ n) : decodeModule kind tag p = .badLength := by
  simp only [moduleLengths, List.mem_cons, Prod.mk.injEq, List.not_mem_nil, or_false] at hk
  rcases hk with ⟨rfl, rfl⟩ | ⟨rfl, rfl⟩ | ⟨rfl, rfl⟩ | ⟨rfl, rfl⟩ <;> exact sized_badLength p _ _ hp

theorem decodeMgmt_badLength (kind n tag : Nat) (p : List Byte)
    (hk : (kind, n) ∈ mgmtLengths)
    (hp : p.length ≠ n) : decodeMgmt kind tag p = .badLength := by
  simp only [mgmtLengths, List.mem_cons, Prod.mk.injEq, List.not_mem_nil, or_false] at hk
  rcases hk with ⟨rfl, rfl⟩ | ⟨rfl, rfl⟩ | ⟨rfl, rfl⟩ | ⟨rfl, rfl⟩ | ⟨rfl, rfl⟩ | ⟨rfl, rfl⟩ | ⟨rfl, rfl⟩ |
      ⟨rfl, rfl⟩ | ⟨rfl, rfl⟩ | ⟨rfl, rfl⟩ | ⟨rfl, rfl⟩
  case inl => exact (if_congr Iff.rfl (sized_badLength p _ _ hp) rfl).trans (ite_self _)
  case inr.inl => exact (if_congr Iff.rfl rfl (sized_badLength p _ _ hp)).trans (ite_self _)
  all_goals exact sized_badLength p _ _ hp

/-- The frames refused for their length alone (R137, R138). -/
theorem decodeRequest_badLength (cls kind n tag : Nat) (p : List Byte)
    (hn : (cls, kind, n) ∈ orderLengths.map (Prod.mk 0x10) ++ (moduleLengths.map (Prod.mk 0x11) ++
      mgmtLengths.map (Prod.mk 0x12))) (hp : p.length ≠ n) :
    (cls = 0x10 ∨ cls = 0x11 ∨ cls = 0x12) ∧ decodeRequest cls kind tag p = .badLength := by
  have ofClass (c : Nat) (ls : List (Nat × Nat)) (hm : (cls, kind, n) ∈ ls.map (Prod.mk c)) :
      cls = c ∧ (kind, n) ∈ ls := by
    obtain ⟨x, hx, he⟩ := List.mem_map.mp hm
    cases he
    exact ⟨rfl, hx⟩
  simp only [List.mem_append] at hn
  rcases hn with hn | hn | hn <;> obtain ⟨rfl, hk⟩ := ofClass _ _ hn
  · exact ⟨.inl rfl, decodeOrder_badLength kind n tag p hk hp⟩
  · exact ⟨.inr (.inl rfl), decodeModule_badLength kind n tag p hk hp⟩
  · exact ⟨.inr (.inr rfl), decodeMgmt_badLength kind n tag p hk hp⟩

theorem decodeTableWrite_badLength (tag : Nat) (p : List Byte)
    (h : 2 < rd1 p 0 ∨ (rd1 p 0 = 0 ∧ p.length ≠ 7) ∨ (rd1 p 0 = 1 ∧ p.length ≠ 14) ∨ (rd1 p 0 = 2 ∧ p.length ≠ 7)) :
    decodeTableWrite tag p = .badLength := by
  unfold decodeTableWrite
  split
  · rfl
  · rcases h with h | ⟨h, hp⟩ | ⟨h, hp⟩ | ⟨h, hp⟩
    · obtain ⟨k, hk⟩ : ∃ k, rd1 p 0 = k + 3 := ⟨rd1 p 0 - 3, by omega⟩
      rw [hk]
      rfl
    all_goals rw [h]; exact sized_badLength p _ _ hp

theorem paramBytes_out (p : Nat) (h : p = 0 ∨ 16 < p) : paramBytes p = 0 := by
  rcases h with rfl | h
  · rfl
  · have unlisted : p ∉ [2, 3, 5, 6, 7, 8] := by simp; omega
    rw [paramBytes, if_neg (Nat.ne_zero_of_lt h), if_neg unlisted, if_neg (Nat.not_le.mpr h)]

theorem decodeParamSet_badLength (tag : Nat) (p : List Byte)
    (h : rd1 p 0 = 0 ∨ 16 < rd1 p 0 ∨ p.length ≠ (if rd1 p 0 ∈ [2, 3, 5, 6, 7, 8] then 3 else 2)) :
    decodeParamSet tag p = .badLength := by
  by_cases known : rd1 p 0 = 0 ∨ 16 < rd1 p 0
  · have none : paramBytes (rd1 p 0) = 0 := paramBytes_out _ known
    rw [decodeParamSet, none]
    rfl
  · obtain ⟨positive, small⟩ := not_or.mp known
    have length := (h.resolve_left positive).resolve_left small
    by_cases two : rd1 p 0 ∈ [2, 3, 5, 6, 7, 8]
    · have bytes : paramBytes (rd1 p 0) = 2 := by rw [paramBytes, if_neg positive, if_pos two]
      rw [if_pos two] at length
      rw [decodeParamSet, bytes]
      exact sized_badLength p _ _ length
    · have bytes : paramBytes (rd1 p 0) = 1 := by
        rw [paramBytes, if_neg positive, if_neg two, if_pos (Nat.le_of_not_lt small)]
      rw [if_neg two] at length
      rw [decodeParamSet, bytes]
      exact sized_badLength p _ _ length

/-- Settles O30: each refusal is the first check of the request's unit that fails. -/
theorem requestsRefusedByRule : Obligations.RequestsRefusedByRule := by
  refine ⟨fun tag id n s h => ?_, fun b hi bytes s hrx hcrc h => ?_⟩
  · have refused (i : Instr) (k : Kind) (st : Status) (hi : IsRequest i)
        (hs : serveRequest i s.accepted = answer k tag st [] s.accepted) :
        exec i s = .next (chooseTransmit (answer k tag st [] s.accepted)) := exec_answered i k tag st [] s h hi hs
    refine ⟨fun hd => ?_, fun x hd => ?_, fun hd ho => ?_, fun o age hd ho hp => ?_, fun hn => ?_, fun d hd => ?_,
      fun i hd hn hi => ?_, fun st hst => ?_⟩
    · have busy : s.accepted.discovering = true := by
        rw [accepted_discovering]
        exact Option.isSome_iff_ne_none.mpr hd
      have named (hn : n < 48) : checkNamedLocker s.accepted n = some .busy := checkNamedLocker_busy n busy hn
      refine ⟨fun _ _ _ _ _ => refused _ _ _ (by rfl) ?_, refused _ _ _ (by rfl) ?_, fun _ => refused _ _ _ (by rfl) ?_,
        refused _ _ _ (by rfl) ?_, refused _ _ _ (by rfl) ?_, refused _ _ _ (by rfl) ?_, refused _ _ _ (by rfl) ?_,
        fun _ => refused _ _ _ (by rfl) (servePosted_busy _ _ _ _ _ _ busy),
        fun _ => refused _ _ _ (by rfl) (servePosted_busy _ _ _ _ _ _ busy),
        fun _ _ => refused _ _ _ (by rfl) (servePosted_busy _ _ _ _ _ _ busy), fun _ => refused _ _ _ (by rfl) ?_,
        fun hn => ⟨refused _ _ _ (by rfl) ?_, refused _ _ _ (by rfl) ?_, refused _ _ _ (by rfl) ?_, fun d => refused _ _ _ (by rfl) ?_⟩⟩
      · simp only [serveRequest, serveBook, busy, ↓reduceIte]
      · simp only [serveRequest, serveCancel, busy, ↓reduceIte]
      · simp only [serveRequest, serveExtend, busy, ↓reduceIte]
      · simp only [serveRequest, serveLoadOpen, withPlacedOrder_busy _ _ _ _ busy]
      · simp only [serveRequest, serveRelease, withPlacedOrder_busy _ _ _ _ busy]
      · simp only [serveRequest, serveClear, withPlacedOrder_busy _ _ _ _ busy]
      · simp only [serveRequest, serveQueryOrder, busy, ↓reduceIte]
      · simp only [serveRequest, serveModuleRead, busy, ↓reduceIte]
      · simp only [serveRequest, serveServiceOn, named hn]
      · simp only [serveRequest, serveServiceOff, named hn]
      · simp only [serveRequest, serveClearLocker, named hn]
      · exact serveServiceUnlatch_refused tag n _ _ (by cases d <;> decide) (named hn)
    · have powering : powerOnDiscovering s.accepted = true := by simp [powerOnDiscovering, hd]
      refine refused _ _ _ (by rfl) ?_
      simp only [serveRequest, serveRestart, powering, ↓reduceIte]
    · have quiet := accepted_quiet hd
      have unknown : s.accepted.order? id = none := by rw [accepted_order, ho]
      refine ⟨refused _ _ _ (by rfl) ?_, refused _ _ _ (by rfl) ?_, refused _ _ _ (by rfl) ?_,
        refused _ _ _ (by rfl) ?_, refused _ _ _ (by rfl) ?_⟩
      · simp only [serveRequest, serveCancel, quiet, unknown, Bool.false_eq_true, ↓reduceIte]
      · simp only [serveRequest, serveLoadOpen, withPlacedOrder_unknown _ _ _ _ quiet unknown]
      · simp only [serveRequest, serveRelease, withPlacedOrder_unknown _ _ _ _ quiet unknown]
      · simp only [serveRequest, serveClear, withPlacedOrder_unknown _ _ _ _ quiet unknown]
      · simp only [serveRequest, serveQueryOrder, quiet, unknown, Bool.false_eq_true, ↓reduceIte]
    · have quiet := accepted_quiet hd
      have found : s.accepted.order? id = some o := by rw [accepted_order, ho]
      have waiting : o.locker = none := by simp [Order.locker, hp]
      refine ⟨refused _ _ _ (by rfl) ?_, refused _ _ _ (by rfl) ?_, refused _ _ _ (by rfl) ?_⟩
      · simp only [serveRequest, serveLoadOpen, withPlacedOrder_pending _ _ _ _ o quiet found waiting]
      · simp only [serveRequest, serveRelease, withPlacedOrder_pending _ _ _ _ o quiet found waiting]
      · simp only [serveRequest, serveClear, withPlacedOrder_pending _ _ _ _ o quiet found waiting]
    · have outside : checkNamedLocker s.accepted n = some .badArgument := checkNamedLocker_outside n hn
      refine ⟨refused _ _ _ (by rfl) ?_, refused _ _ _ (by rfl) ?_, refused _ _ _ (by rfl) ?_, fun d => refused _ _ _ (by rfl) ?_,
        fun hd => ?_⟩
      · simp only [serveRequest, serveServiceOn, outside]
      · simp only [serveRequest, serveServiceOff, outside]
      · simp only [serveRequest, serveClearLocker, outside]
      · rcases Nat.lt_or_ge 1 d with hd | hd
        · simp only [serveRequest, serveServiceUnlatch, ofCode_door_none d hd]
        · exact serveServiceUnlatch_refused tag n d _ hd outside
      · have quiet := accepted_quiet hd
        refine ⟨fun _ => refused _ _ _ (by rfl) (servePosted_outside _ _ _ _ _ _ quiet hn),
          fun _ => refused _ _ _ (by rfl) (servePosted_outside _ _ _ _ _ _ quiet hn),
          fun _ _ => refused _ _ _ (by rfl) (servePosted_outside _ _ _ _ _ _ quiet hn), fun i => refused _ _ _ (by rfl) ?_⟩
        simp [serveRequest, serveModuleRead, quiet, hn]
    · refine refused _ _ _ (by rfl) ?_
      simp only [serveRequest, serveServiceUnlatch, ofCode_door_none d hd]
    · have quiet := accepted_quiet hd
      have inside : ¬ (47 < n ∨ 255 < i) := by omega
      refine ⟨fun hp => refused _ _ _ (by rfl) ?_, fun hp => refused _ _ _ (by rfl) ?_, fun st ha ho hc => refused _ _ _ (by rfl) ?_⟩
      · simp [serveRequest, serveModuleRead, quiet, inside, hp]
      · simp [serveRequest, serveModuleRead, quiet, inside, hp]
      · simp [serveRequest, serveModuleRead, quiet, inside, ha, ho, checkServer_accepted, hc]
    · have check : checkLongOp s.accepted tag = some st := (checkLongOp_accepted s tag).trans (checkLongOp_refused tag st hst)
      refine ⟨refused _ _ _ (by rfl) ?_, refused _ _ _ (by rfl) ?_, refused _ _ _ (by rfl) ?_⟩
      · simp only [serveRequest, serveStore, check]
      · simp only [serveRequest, serveRescan, check]
      · simp only [serveRequest, serveBankReset, check]
  · intro cls kind tag p first a refused lengths
    have served (hcls : cls = 0x10 ∨ cls = 0x11 ∨ cls = 0x12) :
        exec (.receiveByte b) s = .next (chooseTransmit (serveFrame cls kind tag p a)) :=
      receiveByte_served b hi bytes s hrx hcrc h hcls
    have misread (hcls : cls = 0x10 ∨ cls = 0x11 ∨ cls = 0x12) (hd : decodeRequest cls kind tag p = .badLength) :
        refused .badArgument := by
      show exec (.receiveByte b) s = _
      rw [served hcls, serveFrame_badLength cls kind tag p hd]
    have mgmt (hcls : cls = 0x12) (hd : decodeMgmt kind tag p = .badLength) : refused .badArgument :=
      misread (.inr (.inr hcls)) (by rw [hcls]; exact hd)
    refine ⟨fun last hc hk => ?_, fun n hn hp => ?_, fun hc hk hp => ?_, fun hc hk hf => ?_, fun hc hk hf => ?_,
      fun hc hk hf => ?_, fun hc hk hf => ?_⟩
    · have known : cls = 0x10 ∨ cls = 0x11 ∨ cls = 0x12 := by
        simp only [List.mem_cons, Prod.mk.injEq, List.not_mem_nil, or_false] at hc
        exact hc.imp And.left (Or.imp And.left And.left)
      show exec (.receiveByte b) s = _
      rw [served known, serveFrame_unknownKind cls kind tag p (decodeRequest_unknownKind cls kind tag last p hc hk)]
    · obtain ⟨known, hd⟩ := decodeRequest_badLength cls kind n tag p hn hp
      exact misread known hd
    · refine misread (.inr (.inl hc)) ?_
      rw [hc, hk, hp]
      rfl
    · refine mgmt hc ?_
      rw [hk]
      exact if_neg (Nat.not_le.mpr hf)
    · refine mgmt hc ?_
      rw [hk]
      exact decodeTableWrite_badLength tag p hf
    · refine mgmt hc ?_
      rw [hk]
      exact if_pos (paramBytes_out _ hf)
    · refine mgmt hc ?_
      rw [hk]
      exact decodeParamSet_badLength tag p hf

end Sys2Proof.Proofs

/-! ## PARAM_SET by the type of the parameter (R37, R145, R174 to R176, R178, R180) -/

namespace Sys2Proof.Proofs

open Sys2Proof.Machine

variable {s : State}

/-- The parameters after the write of one whose entry attaches no act, or of UPSIZE. -/
theorem Params.write_plain (q : Params) (p w : Nat) (hp : p ∈ [1, 3, 4, 5, 6, 7, 8, 9, 10, 11, 12]) :
    q.write p w = { q with
      unlatchWindowS := if p = 1 then w else q.unlatchWindowS
      linkSilenceS := if p = 3 then w else q.linkSilenceS
      sampleStaleS := if p = 4 then w else q.sampleStaleS
      pollGapMs := if p = 5 then w else q.pollGapMs
      purgeSlots := if p = 6 then w else q.purgeSlots
      purgeLimit := if p = 7 then w else q.purgeLimit
      pendingWaitS := if p = 8 then w else q.pendingWaitS
      upsize := if p = 9 then decide (w = 1) else q.upsize
      isolate := if p = 10 then decide (w = 1) else q.isolate
      panelEnable := if p = 11 then decide (w = 1) else q.panelEnable
      reportMask := if p = 12 then w else q.reportMask } := by
  simp only [List.mem_cons, List.not_mem_nil, or_false] at hp
  rcases hp with rfl | rfl | rfl | rfl | rfl | rfl | rfl | rfl | rfl | rfl | rfl <;> rfl

/-- A written parameter reads back as it was taken (R174). -/
theorem paramValue_written (p w : Nat) (q : Params) (s : State) (hs : s.params = q.write p w)
    (hp : p ∈ [1, 2, 3, 4, 5, 6, 7, 8, 12] ∨ (p ∈ [9, 10, 11] ∧ w ≤ 1)) : paramValue s p = w := by
  simp only [List.mem_cons, List.not_mem_nil, or_false] at hp
  unfold paramValue
  rw [hs]
  rcases hp with hp | ⟨hp, hw⟩
  · rcases hp with rfl | rfl | rfl | rfl | rfl | rfl | rfl | rfl | rfl <;> rfl
  · have bit : w = 0 ∨ w = 1 := Nat.le_one_iff_eq_zero_or_eq_one.mp hw
    rcases hp with rfl | rfl | rfl <;> rcases bit with rfl | rfl <;> rfl

/-- No act follows the write of a parameter without one, nor a write of UPSIZE that does not raise it (R178). -/
theorem paramActs_none (p : Nat) (before : Bool) (s : State) (hp : p ∈ [1, 3, 4, 5, 6, 7, 8, 9, 10, 11, 12])
    (h9 : p = 9 → before = true ∨ s.params.upsize = false) : paramActs p before s = s := by
  simp only [List.mem_cons, List.not_mem_nil, or_false] at hp
  rcases hp with rfl | rfl | rfl | rfl | rfl | rfl | rfl | rfl | rfl | rfl | rfl
  case inr.inr.inr.inr.inr.inr.inr.inl =>
    refine if_neg fun raised => ?_
    rcases h9 rfl with h | h
    · exact absurd raised.1 (by simp [h])
    · exact absurd raised.2 (by simp [h])
  all_goals rfl

/-- An accepted write of a parameter other than STRICT_HOLD, by the state `t` its acts leave (R174). -/
theorem serveParamSet_written (tag p v w : Nat) (s t : State) (hv : acceptedValue p v = some w) (hp : p ≠ 16)
    (ht : paramActs p s.params.upsize (s.setParams (s.params.write p w)) = t) (hr : paramValue t p = w) :
    serveParamSet tag p v s =
      answer kParamSet tag (if w = v then .ok else .okClamped) [.b1 p, paramField p w] t := by
  unfold serveParamSet
  rw [hv]
  dsimp only
  rw [if_neg hp, ht, paramBody, hr]

/-- A frame's parameters are written into the working settings it found. -/
theorem accepted_setParams (q : Params) (s : State) :
    s.accepted.setParams q =
      { s.accepted with sst := { s.sst with working := { s.sst.working with params := q } } } := by
  rw [State.setParams, accepted_sst]

theorem acceptedValue_refused (p v : Nat) (h : (p ∈ [9, 10, 11, 13, 15, 16] ∧ 1 < v) ∨ (p = 12 ∧ 15 < v)) :
    acceptedValue p v = none := by
  simp only [List.mem_cons, List.not_mem_nil, or_false] at h
  rcases h with ⟨hp, hv⟩ | ⟨rfl, hv⟩
  · rcases hp with rfl | rfl | rfl | rfl | rfl | rfl <;> exact if_neg (Nat.not_le.mpr hv)
  · exact if_neg (Nat.not_le.mpr hv)

theorem serveParamSet_refused (tag p v : Nat) (hv : acceptedValue p v = none) :
    serveParamSet tag p v s = answer kParamSet tag .badArgument [] s := by
  simp [serveParamSet, hv]

theorem serveParamSet_strict (tag v : Nat) (hv : v ≤ 1) : serveParamSet tag 16 v s = writeStrictHold tag v s := by
  have taken : acceptedValue 16 v = some v := if_pos hv
  simp [serveParamSet, taken]

/-- Settles O42. -/
theorem paramSetByType : Obligations.ParamSetByType := by
  refine ⟨fun tag p v s h => ?_, fun tag v s h hv => ?_⟩
  · intro a limits q set held
    have served (w : Nat) (t : State) (hv : acceptedValue p v = some w) (hp : p ≠ 16)
        (ht : paramActs p s.params.upsize (a.setParams (s.params.write p w)) = t) (hr : paramValue t p = w) :
        exec (.paramSet tag p v) s =
          .next (chooseTransmit (answer kParamSet tag (if w = v then .ok else .okClamped) [.b1 p, paramField p w] t)) := by
      rw [exec_served (.paramSet tag p v) s rfl h, serveRequest]
      refine congrArg (fun u => Host.Outcome.next (chooseTransmit u)) (serveParamSet_written tag p v w a t hv hp ?_ hr)
      rw [accepted_params]
      exact ht
    have plain (w : Nat) (hp : p ∈ [1, 3, 4, 5, 6, 7, 8, 9, 10, 11, 12]) (hv : acceptedValue p v = some w)
        (bit : p ∈ [9, 10, 11] → w ≤ 1) (hu : p = 9 → s.params.upsize = true ∨ w = 0) : held w := by
      have written : a.setParams (s.params.write p w) =
          { a with sst := { s.sst with working := { s.sst.working with params := set w } } } := by
        rw [accepted_setParams, Params.write_plain _ p w hp]
      have value : paramValue (a.setParams (s.params.write p w)) p = w := by
        refine paramValue_written p w s.params _ rfl ?_
        simp only [List.mem_cons, List.not_mem_nil, or_false] at hp bit ⊢
        omega
      show exec (.paramSet tag p v) s = _ ∧ _
      rw [← written]
      refine ⟨served w _ hv (by rintro rfl; simp at hp) (paramActs_none p _ _ hp fun h9 => (hu h9).imp id ?_) value, value⟩
      rintro rfl
      rw [h9]
      rfl
    refine ⟨fun lo hi hm => ?_, fun hp => ?_, fun hp hv => ?_, fun hp hv hu => ?_, fun hp hv hu => ?_, fun hp => ?_,
      fun hp hv => ?_, fun hr => ?_⟩
    · simp only [limits, List.mem_cons, Prod.mk.injEq, List.not_mem_nil, or_false] at hm
      have numeric : p ∈ [1, 4, 5, 6, 7, 8] := by
        simp only [List.mem_cons, List.not_mem_nil, or_false]
        omega
      have clamped : acceptedValue p v = some (max lo (min v hi)) := by
        rcases hm with ⟨rfl, rfl, rfl⟩ | ⟨rfl, rfl, rfl⟩ | ⟨rfl, rfl, rfl⟩ | ⟨rfl, rfl, rfl⟩ | ⟨rfl, rfl, rfl⟩ |
          ⟨rfl, rfl, rfl⟩ <;> rfl
      simp only [List.mem_cons, List.not_mem_nil, or_false] at numeric
      refine plain _ ?_ clamped (fun hp => ?_) fun hp => by omega
      · simp only [List.mem_cons, List.not_mem_nil, or_false]
        omega
      · simp only [List.mem_cons, List.not_mem_nil, or_false] at hp
        omega
    · exact plain _ (by simp [hp]) (by rw [hp]; rfl) (by simp [hp]) (by simp [hp])
    · have accepted : acceptedValue p v = some v := by
        simp only [List.mem_cons, List.not_mem_nil, or_false] at hp
        rcases hp with rfl | rfl <;> exact if_pos hv
      refine plain _ ?_ accepted (fun _ => hv) fun h9 => ?_
      · simp only [List.mem_cons, List.not_mem_nil, or_false] at hp ⊢
        omega
      · simp [h9] at hp
    · exact plain _ (by simp [hp]) (by rw [hp]; exact if_pos hv) (fun _ => hv) fun _ => hu
    · have accepted : acceptedValue p v = some v := by rw [hp, hv]; rfl
      have raised : a.setParams (s.params.write p v) = { a with sst := { s.sst with working := { s.sst.working with
          params := { s.sst.working.params with upsize := true } } } } := by
        rw [accepted_setParams, hp, hv]
        rfl
      rw [← raised, served v (pendingSweep (a.setParams (s.params.write p v))) accepted (by omega) ?_ ?_]
      · rw [if_pos rfl, hp, hv]
        rfl
      · rw [hu, hp, hv]
        rfl
      · exact paramValue_written p v s.params _ ((pendingSweep_records _).params.trans rfl) (by simp [hp, hv])
    · intro w written
      have accepted : acceptedValue p v = some w := by rw [hp]; rfl
      have wrote : a.setParams (s.params.write p w) = written := by
        rw [accepted_setParams, hp]
        rfl
      have examined := RecordsOnly.foldl _ (fun x n => examineDoorHeld_records n x) (List.range 48) written
      rw [served w ((List.range 48).foldl (fun u n => examineDoorHeld n u) written) accepted (by omega)
        (by rw [wrote, hp]; rfl) ?_]
      · rw [hp]
        rfl
      · exact paramValue_written p w s.params _ (examined.params.trans (by rw [← wrote]; rfl)) (by simp [hp])
    · exact plain _ (by simp [hp]) (by rw [hp]; exact if_pos hv) (by simp [hp]) (by simp [hp])
    · exact exec_answered (.paramSet tag p v) kParamSet tag .badArgument [] s h rfl
        (serveParamSet_refused tag p v (acceptedValue_refused p v hr))
  · intro a
    have strict : s.accepted.sst.strictHold = s.sst.strictHold := by rw [accepted_sst]
    refine ⟨fun h0 hs => ?_, fun hv' => ?_⟩
    · refine exec_answered (.paramSet tag 16 v) kParamSet tag .strict [] s h rfl ?_
      refine (serveParamSet_strict tag v hv).trans (if_pos ⟨h0, strict.trans hs⟩)
    · have free : ¬ (v = 0 ∧ s.accepted.sst.strictHold = true) := by
        rw [strict]
        rcases hv' with rfl | hs
        · simp
        · simp [hs]
      have body (u : State) (hu : u.sst.strictHold = decide (v = 1)) : paramBody u 16 = [.b1 16, .b1 v] := by
        have value : paramValue u 16 = v := by
          show (if u.sst.strictHold then 1 else 0) = v
          rw [hu]
          rcases Nat.le_one_iff_eq_zero_or_eq_one.mp hv with rfl | rfl <;> rfl
        rw [paramBody, value]
        rfl
      rw [exec_served (.paramSet tag 16 v) s rfl h, serveRequest, serveParamSet_strict tag v hv, writeStrictHold, if_neg free]
      dsimp only
      rw [body _ rfl, State.withSst, accepted_sst]

end Sys2Proof.Proofs

/-! ## The charge of a held meal (R57 to R61) -/

namespace Sys2Proof.Proofs

open Sys2Proof.Machine

variable {s t u : State}

/-! ### Acts on one order -/

/-- What an act on the order `i` leaves: the placements, every other order, the references of the lockers, and every
locker that the order is not placed in. -/
structure ActsOn (i : Nat) (s t : State) : Prop where
  links : orderLinks t = orderLinks s
  order : ∀ j, j ≠ i → t.order? j = s.order? j
  locker : ∀ m, (i, some m) ∉ orderLinks s → t.locker m = s.locker m
  refs : ∀ m, (t.locker m).orderRef = (s.locker m).orderRef

theorem ActsOn.refl (i : Nat) (s : State) : ActsOn i s s := ⟨rfl, fun _ _ => rfl, fun _ _ => rfl, fun _ => rfl⟩

theorem ActsOn.trans {i : Nat} (h : ActsOn i s t) (k : ActsOn i t u) : ActsOn i s u where
  links := k.links.trans h.links
  order j hj := (k.order j hj).trans (h.order j hj)
  locker m hm := (k.locker m (by rwa [h.links])).trans (h.locker m hm)
  refs m := (k.refs m).trans (h.refs m)

theorem submit_actsOn (i : Nat) (k : ReportKind) (fs : List Field) (s : State) : ActsOn i s (submit k fs s) :=
  ⟨by simp [orderLinks], by simp, by simp, by simp⟩

theorem modHold_actsOn (i : Nat) (x : Hold) (s : State) :
    ActsOn i s (s.modOrder i fun o => { o with hold := some x }) where
  links := by
    unfold orderLinks
    rw [State.modOrder_orders, List.map_map]
    refine List.map_congr_left fun o _ => ?_
    by_cases hid : o.id = i <;> simp [hid, Order.locker]
  order j hj := by
    rw [s.modOrder_order i j (fun o => { o with hold := some x }) fun _ => rfl]
    cases h : s.order? j with
    | none => rfl
    | some o => rw [Option.map_some, if_neg (by rw [s.order_id j o h]; exact hj)]
  locker _ _ := rfl
  refs _ := rfl

theorem condemnNotice_orderRef (l : Locker) : l.condemnNotice.orderRef = l.orderRef := by
  rw [condemnNotice_eq]
  split
  · rfl
  · split <;> rfl

theorem condemn_order_ne (i j : Nat) (c : Cause) (s : State) (hj : j ≠ i) : (condemn i c s).order? j = s.order? j := by
  have marked : (s.modOrder i fun o => { o with condemned := some c }).order? j = s.order? j := by
    rw [s.modOrder_order i j (fun o => { o with condemned := some c }) fun _ => rfl]
    cases h : s.order? j with
    | none => rfl
    | some o => rw [Option.map_some, if_neg (by rw [s.order_id j o h]; exact hj)]
  unfold condemn
  split
  · rfl
  · split
    · rfl
    · dsimp only
      split <;> simpa [State.order?] using marked

theorem condemn_actsOn (i : Nat) (c : Cause) (s : State) : ActsOn i s (condemn i c s) where
  links := condemn_links i c s
  order j hj := condemn_order_ne i j c s hj
  locker m hm := by
    rcases condemn_locker i c s m with h | ⟨-, o, ho, hl⟩
    · exact h
    · exact absurd (hl ▸ orderLinks_of_order i o ho) hm
  refs m := by
    rcases condemn_locker i c s m with h | ⟨h, -⟩
    · rw [h]
    · rw [h, condemnNotice_orderRef]

theorem chargeOrder_actsOn (n : Nat) (l : Locker) (o : Order) (h : Hold) (s : State) :
    ActsOn o.id s (chargeOrder n l o h s) := by
  unfold chargeOrder
  dsimp only
  split
  · exact (modHold_actsOn _ _ s).trans (condemn_actsOn _ _ _)
  · split
    · exact (modHold_actsOn _ _ s).trans (submit_actsOn _ _ _ _)
    · exact modHold_actsOn _ _ s

/-! ### Which orders are charged (R57) -/

/-- A loaded order, not condemned, whose locker is in a phase of R57, is charged. -/
theorem chargeLocker_charged (n id : Nat) (o : Order) (h : Hold) (s : State) (hr : (s.locker n).orderRef = some id)
    (ho : s.order? id = some o) (hh : o.hold = some h) (hp : chargedPhase (s.locker n) = true)
    (hc : o.condemned = none) : chargeLocker n s = chargeOrder n (s.locker n) o h s := by
  simp [chargeLocker, heldOrder, hr, ho, hh, hp, hc]

theorem chargeLocker_spared (n id : Nat) (o : Order) (s : State) (hr : (s.locker n).orderRef = some id)
    (ho : s.order? id = some o)
    (hs : o.hold = none ∨ ¬ (chargedPhase (s.locker n) = true ∧ o.condemned = none)) : chargeLocker n s = s := by
  rcases hs with hs | hs
  · simp [chargeLocker, heldOrder, hr, ho, hs]
  · cases hh : o.hold with
    | none => simp [chargeLocker, heldOrder, hr, ho, hh]
    | some h =>
      have spared : (chargedPhase (s.locker n) && o.condemned.isNone) = false := by
        simpa [Option.isSome_iff_ne_none] using hs
      simp [chargeLocker, heldOrder, hr, ho, hh, spared]

/-- The charge at a locker acts on the order it refers to, if on any. -/
theorem chargeLocker_actsOn (n : Nat) (s : State) :
    chargeLocker n s = s ∨ ∃ id, (s.locker n).orderRef = some id ∧ ActsOn id s (chargeLocker n s) ∧
      ∀ o, s.order? id = some o → o.hold ≠ none := by
  unfold chargeLocker
  dsimp only
  split
  case h_1 o ho =>
    obtain ⟨id, hr, hf⟩ := Option.bind_eq_some_iff.mp ho
    split
    case h_1 h hh =>
      split
      · refine .inr ⟨id, hr, ?_, fun x hx => ?_⟩
        · have acts := chargeOrder_actsOn n (s.locker n) o h s
          rwa [s.order_id id o hf] at acts
        · rw [hf] at hx
          cases hx
          simp [hh]
      · exact .inl rfl
    · exact .inl rfl
  · exact .inl rfl

theorem chargeLocker_refs (n m : Nat) (s : State) : ((chargeLocker n s).locker m).orderRef = (s.locker m).orderRef := by
  rcases chargeLocker_actsOn n s with h | ⟨id, -, acts, -⟩
  · rw [h]
  · exact acts.refs m

theorem chargeLocker_links (n : Nat) (s : State) : orderLinks (chargeLocker n s) = orderLinks s := by
  rcases chargeLocker_actsOn n s with h | ⟨id, -, acts, -⟩
  · rw [h]
  · exact acts.links

/-- An order that no locker holds, or that is not loaded, stays as it is through the charges. -/
theorem charges_spare (ns : List Nat) (id : Nat) (o : Order) (s : State) (ho : s.order? id = some o)
    (hr : ∀ m, (s.locker m).orderRef = some id → o.hold = none) :
    (ns.foldl (fun s n => chargeLocker n s) s).order? id = some o := by
  induction ns generalizing s with
  | nil => exact ho
  | cons n ns ih =>
    refine ih (chargeLocker n s) ?_ fun m hm => hr m (by rwa [chargeLocker_refs] at hm)
    rcases chargeLocker_actsOn n s with h | ⟨i, hi, acts, loaded⟩
    · rw [h, ho]
    · have other : id ≠ i := by
        rintro rfl
        exact loaded o ho (hr n hi)
      rw [acts.order id other, ho]

/-- The locker `n` and the order `id` are spoken of by each other alone. -/
structure Paired (n id : Nat) (s : State) : Prop where
  refs : ∀ m, m ≠ n → (s.locker m).orderRef ≠ some id
  links : ∀ x ∈ orderLinks s, x.2 = some n → x.1 = id

theorem chargeLocker_paired {n id : Nat} (m : Nat) (h : Paired n id s) : Paired n id (chargeLocker m s) where
  refs k hk := by
    rw [chargeLocker_refs]
    exact h.refs k hk
  links := by
    rw [chargeLocker_links]
    exact h.links

/-- The charges of other lockers leave the order of a locker, and the locker, as they are. -/
theorem charges_apart {n id : Nat} (ns : List Nat) (s : State) (h : Paired n id s) (hn : n ∉ ns) :
    (ns.foldl (fun s n => chargeLocker n s) s).order? id = s.order? id ∧
      (ns.foldl (fun s n => chargeLocker n s) s).locker n = s.locker n ∧
      Paired n id (ns.foldl (fun s n => chargeLocker n s) s) := by
  induction ns generalizing s with
  | nil => exact ⟨rfl, rfl, h⟩
  | cons m ms ih =>
    obtain ⟨hm, hms⟩ := not_or.mp (mt List.mem_cons.mpr hn)
    have stays : (chargeLocker m s).order? id = s.order? id ∧ (chargeLocker m s).locker n = s.locker n := by
      rcases chargeLocker_actsOn m s with same | ⟨i, hi, acts, -⟩
      · rw [same]
        exact ⟨rfl, rfl⟩
      · have other : id ≠ i := by
          rintro rfl
          exact h.refs m (Ne.symm hm) hi
        exact ⟨acts.order id other, acts.locker n fun hx => other (h.links _ hx rfl).symm⟩
    obtain ⟨order, locker, paired⟩ := ih (chargeLocker m s) (chargeLocker_paired m h) hms
    exact ⟨order.trans stays.1, locker.trans stays.2, paired⟩

/-! ### What a charge does (R59 to R61) -/

/-- The order after the charge of one tick by the profile `p` and the sample `x`. -/
def chargedOrder (p : Profile) (x : Option Int) (o : Order) (h : Hold) : Order :=
  let h' := h.charge p.floor x
  let cause := h'.verdict p.coldLimit
  { o with
    hold := some { h' with warned := h'.warned || (cause.isNone && decide (h'.life ≤ p.warn)) }
    condemned := cause }

theorem chargedOrder_condemned (p : Profile) (x : Option Int) (o : Order) (h : Hold) (c : Cause)
    (hv : (h.charge p.floor x).verdict p.coldLimit = some c) :
    chargedOrder p x o h = { o with hold := some (h.charge p.floor x), condemned := some c } := by
  simp [chargedOrder, hv]

theorem chargedOrder_warned (p : Profile) (x : Option Int) (o : Order) (h : Hold) (hc : o.condemned = none)
    (hv : (h.charge p.floor x).verdict p.coldLimit = none) (hw : (h.charge p.floor x).life ≤ p.warn) :
    chargedOrder p x o h = { o with hold := some { h.charge p.floor x with warned := true } } := by
  simp [chargedOrder, hv, hw, hc]

theorem chargedOrder_worn (p : Profile) (x : Option Int) (o : Order) (h : Hold) (hc : o.condemned = none)
    (hv : (h.charge p.floor x).verdict p.coldLimit = none)
    (hw : ¬ ((h.charge p.floor x).warned = false ∧ (h.charge p.floor x).life ≤ p.warn)) :
    chargedOrder p x o h = { o with hold := some (h.charge p.floor x) } := by
  have same : ((h.charge p.floor x).warned || decide ((h.charge p.floor x).life ≤ p.warn)) = (h.charge p.floor x).warned := by
    cases hx : (h.charge p.floor x).warned with
    | true => rfl
    | false => simpa [hx] using hw
  simp [chargedOrder, hv, same, hc]

theorem modHold_order (x : Hold) (o : Order) (s : State) (ho : s.order? o.id = some o) :
    (s.modOrder o.id fun o => { o with hold := some x }).order? o.id = some { o with hold := some x } := by
  rw [s.modOrder_order o.id o.id (fun o => { o with hold := some x }) fun _ => rfl, ho]
  simp

/-- The charge of an order at its locker: its record, and the notice at the locker where it is condemned. -/
theorem chargeOrder_result (n : Nat) (o : Order) (h : Hold) (s : State) (ho : s.order? o.id = some o)
    (hc : o.condemned = none) (hl : o.locker = some n) (hn : n < 48) :
    let o' := chargedOrder (s.profile o.profile) (freshSample s (s.locker n)) o h
    (chargeOrder n (s.locker n) o h s).order? o.id = some o' ∧
      (chargeOrder n (s.locker n) o h s).locker n =
        if o'.condemned.isSome then (s.locker n).condemnNotice else s.locker n := by
  intro o'
  have held (x : Hold) := modHold_order x o s ho
  unfold chargeOrder
  dsimp only
  split
  case h_1 c hv =>
    obtain ⟨-, -, at_n, order, -⟩ := condemn_first o.id n c _ _
      (held (h.charge (s.profile o.profile).floor (freshSample s (s.locker n)))) hc hl hn
    rw [show o' = _ from chargedOrder_condemned _ _ o h c hv]
    exact ⟨order, at_n⟩
  case h_2 hv =>
    split
    case isTrue hw =>
      rw [show o' = _ from chargedOrder_warned _ _ o h hc hv hw.2, submit_order, held, submit_locker, hc]
      exact ⟨rfl, rfl⟩
    case isFalse hw =>
      rw [show o' = _ from chargedOrder_worn _ _ o h hc hv hw, held, hc]
      exact ⟨rfl, rfl⟩

end Sys2Proof.Proofs

/-! ## Ages at the hold tick (R46, R47) -/

namespace Sys2Proof.Proofs

open Sys2Proof.Machine

variable {s t u : State}

/-! ### Pending ages (R46) -/

theorem mem_queue_of_pending (hs : s.OrdersConsistent) (id age : Nat) (o : Order) (ho : s.order? id = some o)
    (hp : o.status = .pending age) : id ∈ s.oru.queue := by
  obtain ⟨-, -, -, hqueue⟩ := hs
  rw [hqueue]
  refine List.mem_map.mpr ⟨o, List.mem_filter.mpr ⟨s.order_mem id o ho, ?_⟩, s.order_id id o ho⟩
  simp [Order.isPending, hp]

theorem expirePending_pending (id age : Nat) (o : Order) (s : State) (ho : s.order? id = some o)
    (hs : o.status = .pending age) :
    expirePending id s =
      if s.params.pendingWaitS ≠ 0 ∧ s.params.pendingWaitS ≤ age then
        removeOrder id (submit .bookExpired [.b4 id, .b2 age] s)
      else s := by
  simp [expirePending, ho, hs, pendingExpired]

/-- The expiry of an order finds every other order as before. -/
theorem expirePending_order_ne (id i : Nat) (s : State) (hi : i ≠ id) : (expirePending id s).order? i = s.order? i := by
  unfold expirePending
  split
  · split
    · split
      · rw [removeOrder_order, if_neg hi, submit_order]
      · rfl
    · rfl
  · rfl

/-- A pending order has no locker, so that its expiry changes none. -/
theorem expirePending_locker (id m : Nat) (s : State) : (expirePending id s).locker m = s.locker m := by
  unfold expirePending
  split
  case h_1 o ho =>
    split
    case h_1 a hs =>
      split
      · rw [removeOrder_locker_ne id m _ fun x hx => ?_, submit_locker]
        rw [submit_order, ho] at hx
        cases hx
        simp [Order.locker, hs]
      · rfl
    · rfl
  · rfl

theorem foldl_expirePending_order_ne (ids : List Nat) (i : Nat) (s : State) (hi : i ∉ ids) :
    (ids.foldl (fun s id => expirePending id s) s).order? i = s.order? i := by
  induction ids generalizing s with
  | nil => rfl
  | cons id ids ih =>
    obtain ⟨hne, hni⟩ := not_or.mp (mt List.mem_cons.mpr hi)
    exact (ih (expirePending id s) hni).trans (expirePending_order_ne id i s hne)

theorem foldl_expirePending_locker (ids : List Nat) (m : Nat) (s : State) :
    (ids.foldl (fun s id => expirePending id s) s).locker m = s.locker m := by
  induction ids generalizing s with
  | nil => rfl
  | cons id ids ih => exact (ih (expirePending id s)).trans (expirePending_locker id m s)

/-- The orders found in a table rewritten one by one. -/
theorem mapped_order (g : Order → Order) (hid : ∀ o, (g o).id = o.id) (i : Nat) (s : State) :
    State.order? { s with oru := { s.oru with orders := s.oru.orders.map g } } i = (s.order? i).map g :=
  find_map_id s.oru.orders g hid i

theorem agePending_id (o : Order) : o.agePending.id = o.id := by
  rw [agePending_eq]

theorem agePending_of_placed (o : Order) (n : Nat) (hl : o.locker = some n) : o.agePending = o := by
  unfold Order.agePending
  split
  case h_1 a hs => simp [Order.locker, hs] at hl
  case h_2 => rfl

theorem agePendingOrders_locker (m : Nat) (s : State) : (agePendingOrders s).locker m = s.locker m :=
  foldl_expirePending_locker _ m _

/-- A placed order is not a matter of pending ages. -/
theorem agePendingOrders_placed (id n : Nat) (o : Order) (s : State) (hs : s.OrdersConsistent)
    (ho : s.order? id = some o) (hl : o.locker = some n) : (agePendingOrders s).order? id = some o := by
  have aged := mapped_order Order.agePending agePending_id id s
  rw [ho, Option.map_some, agePending_of_placed o n hl] at aged
  refine (foldl_expirePending_order_ne _ id _ fun hq => ?_).trans aged
  obtain ⟨-, hids, -, hqueue⟩ := hs
  rw [hqueue] at hq
  obtain ⟨x, hx, hxi⟩ := List.mem_map.mp hq
  obtain ⟨hmem, hpending⟩ := List.mem_filter.mp hx
  have same : x = o := List.inj_on_of_nodup_map hids hmem (s.order_mem id o ho) (hxi.trans (s.order_id id o ho).symm)
  subst same
  unfold Order.isPending at hpending
  unfold Order.locker at hl
  split at hl <;> simp_all

/-- A pending order grows older, and leaves when it has waited PENDING_WAIT_S. -/
theorem agePendingOrders_pending (id age : Nat) (o : Order) (s : State) (hs : s.OrdersConsistent)
    (ho : s.order? id = some o) (hp : o.status = .pending age) :
    (agePendingOrders s).order? id =
      if s.params.pendingWaitS ≠ 0 ∧ s.params.pendingWaitS ≤ min (age + 1) 65535 then none
      else some { o with status := .pending (min (age + 1) 65535) } := by
  have older : o.agePending = { o with status := .pending (min (age + 1) 65535) } := by
    simp [Order.agePending, hp, satAdd]
  have aged := mapped_order Order.agePending agePending_id id s
  rw [ho, Option.map_some, older] at aged
  obtain ⟨before, behind, hq⟩ := List.append_of_mem (mem_queue_of_pending hs id age o ho hp)
  have once : id ∉ before ∧ id ∉ behind := by
    have hd := queue_nodup hs
    rw [hq, List.nodup_append, List.nodup_cons] at hd
    obtain ⟨-, ⟨hb, -⟩, apart⟩ := hd
    exact ⟨fun h => apart id h id (List.mem_cons_self ..) rfl, hb⟩
  unfold agePendingOrders
  dsimp only
  rw [hq, List.foldl_append, List.foldl_cons, foldl_expirePending_order_ne behind id _ once.2]
  generalize hu : before.foldl (fun s id => expirePending id s) _ = u
  have reached : u.order? id = some { o with status := .pending (min (age + 1) 65535) } := by
    rw [← hu, foldl_expirePending_order_ne before id _ once.1]
    exact aged
  have params : u.params = s.params := by
    rw [← hu]
    exact (RecordsOnly.foldl _ (fun x i => expirePending_records i x) before _).params
  rw [expirePending_pending id _ _ u reached rfl, params]
  split
  · rw [removeOrder_order, if_pos rfl]
  · exact reached

/-! ### Reserved ages (R47) -/

theorem insertByRank_perm (rank : Order → Nat) (o : Order) (os : List Order) :
    (insertByRank rank o os).Perm (o :: os) := by
  induction os with
  | nil => rfl
  | cons x os ih =>
    unfold insertByRank
    split
    · rfl
    · exact (ih.cons x).trans (.swap o x os)

theorem sortByRank_perm (rank : Order → Nat) (os : List Order) : (sortByRank rank os).Perm os := by
  induction os with
  | nil => rfl
  | cons o os ih => exact (insertByRank_perm rank o _).trans (ih.cons o)

/-- Several LOAD_LATEs mark an order that is among the reported ones once. -/
theorem marksLate_mem (os : List Order) (x : Order) (hn : (os.map Order.id).Nodup) (hx : x ∈ os) :
    marksLate os x = markLate x x := by
  obtain ⟨before, behind, rfl⟩ := List.append_of_mem hx
  have apart : (∀ o ∈ before, x.id ≠ o.id) ∧ ∀ o ∈ behind, x.id ≠ o.id := by
    rw [List.map_append, List.map_cons, List.nodup_append, List.nodup_cons] at hn
    obtain ⟨-, ⟨hb, -⟩, hd⟩ := hn
    exact ⟨fun o ho h => hd o.id (List.mem_map_of_mem ho) x.id (List.mem_cons_self ..) h.symm,
      fun o ho h => hb (h ▸ List.mem_map_of_mem ho)⟩
  have marked : (markLate x x).id = x.id := by rw [markLate_eq]
  have first : marksLate before x = x := marksLate_of_ne before x apart.1
  have rest : marksLate behind (markLate x x) = markLate x x :=
    marksLate_of_ne behind _ fun o ho => by rw [marked]; exact apart.2 o ho
  unfold marksLate at *
  rw [List.foldl_append, List.foldl_cons, first, rest]

theorem markLate_not_due (o x : Order) (h : loadLateDue o = false) : markLate o x = x := by
  unfold markLate
  split <;> simp [h]

theorem ageReserved_id (o : Order) : o.ageReserved.id = o.id := by
  rw [ageReserved_eq]

/-- What the LOAD_LATEs of a tick make of an order of the table: late, where its own falls due. -/
theorem loadLates_order (os : List Order) (id : Nat) (s : State) (hs : s.OrdersConsistent)
    (perm : os.Perm (s.oru.orders.filter loadLateDue)) :
    (os.foldl (fun s o => examineLoadLate o s) s).order? id = (s.order? id).map fun o => markLate o o := by
  have marked : (os.foldl (fun s o => examineLoadLate o s) s).order? id = (s.order? id).map (marksLate os) := by
    unfold State.order?
    rw [foldl_examineLoadLate_oru]
    exact find_map_id _ _ (fun o => by rw [marksLate_eq]) id
  rw [marked]
  cases ho : s.order? id with
  | none => rfl
  | some o =>
    refine congrArg some (?_ : marksLate os o = markLate o o)
    obtain ⟨-, hids, -, -⟩ := hs
    have mem := s.order_mem id o ho
    have nodup : (os.map Order.id).Nodup :=
      (perm.map Order.id).nodup_iff.mpr (hids.sublist (List.filter_sublist.map Order.id))
    cases hdue : loadLateDue o with
    | true => exact marksLate_mem os o nodup (perm.mem_iff.mpr (List.mem_filter.mpr ⟨mem, hdue⟩))
    | false =>
      rw [markLate_not_due o o hdue]
      refine marksLate_of_ne os o fun y hy he => ?_
      obtain ⟨hmem, hy⟩ := List.mem_filter.mp (perm.mem_iff.mp hy)
      rw [← List.inj_on_of_nodup_map hids mem hmem he, hdue] at hy
      exact absurd hy (by simp)

/-- What reserved ages make of an order: older, and late where its deadline has come. -/
theorem ageReservedOrders_order (id : Nat) (s : State) (hs : s.OrdersConsistent) :
    (ageReservedOrders s).order? id = (s.order? id).map fun o => markLate o.ageReserved o.ageReserved := by
  have aged := mapped_order Order.ageReserved ageReserved_id id s
  have table := (mapStatus_kept Order.ageReserved s ageReserved_eq fun _ o _ => ageReserved_isPending o).tables hs
  refine (loadLates_order _ id _ table (sortByRank_perm _ _)).trans ?_
  rw [aged, Option.map_map]
  rfl

theorem ageReservedOrders_locker (m : Nat) (s : State) : (ageReservedOrders s).locker m = s.locker m :=
  foldl_examineLoadLate_locker _ m _

/-- Reserved ages leave an order that waits, or that is loaded, as it is. -/
theorem ageReserved_still (o : Order) (h : o.isPending = true ∨ o.loaded = true) :
    markLate o.ageReserved o.ageReserved = o := by
  have same : o.ageReserved = o := by
    unfold Order.ageReserved
    split
    case h_1 n a late hs =>
      rcases h with h | h
      · simp [Order.isPending, hs] at h
      · rw [if_pos h]
    case h_2 => rfl
  rw [same]
  refine markLate_not_due o o ?_
  unfold loadLateDue
  split
  case h_1 n a late hs =>
    rcases h with h | h
    · simp [Order.isPending, hs] at h
    · simp [h]
  case h_2 => rfl

/-- A placed order that is not loaded grows older, and is late from its deadline on. -/
theorem ageReserved_waits (o : Order) (n age : Nat) (late : Bool) (hs : o.status = .placed n age late)
    (hh : o.hold = none) :
    markLate o.ageReserved o.ageReserved =
      { o with
        status := .placed n (min (age + 1) 65535)
          (late || (decide (o.deadline ≠ 0) && decide (o.deadline ≤ min (age + 1) 65535))) } := by
  have aged : o.ageReserved = { o with status := .placed n (min (age + 1) 65535) late } := by
    simp [Order.ageReserved, hs, Order.loaded, hh, satAdd]
  rw [aged]
  cases late with
  | true => simp [markLate, loadLateDue]
  | false =>
    generalize min (age + 1) 65535 = a
    have due : loadLateDue { o with status := .placed n a false } =
        (decide (o.deadline ≠ 0) && decide (o.deadline ≤ a)) := by
      simp [loadLateDue, Order.loaded, hh]
    rw [Bool.false_or, ← due]
    cases hd : loadLateDue { o with status := .placed n a false } with
    | true => simp [markLate, hd]
    | false => exact markLate_not_due _ _ hd

end Sys2Proof.Proofs

/-! ## The hold tick (R46, R47, R56 to R61) -/

namespace Sys2Proof.Proofs

open Sys2Proof.Machine

variable {s : State}

/-! ### The tables and the orders they list (R33, R34) -/

theorem unlisted_of_unknown (hs : s.OrdersConsistent) (id : Nat) (ho : s.order? id = none) :
    id ∉ s.oru.queue ∧ ∀ c, (c, id) ∉ s.oru.codeMap := by
  obtain ⟨hmap, -, -, hqueue⟩ := hs
  have absent (o : Order) (hm : o ∈ s.oru.orders) : o.id ≠ id := by
    simpa using List.find?_eq_none.mp ho o hm
  refine ⟨fun hq => ?_, fun c hc => ?_⟩
  · rw [hqueue] at hq
    obtain ⟨o, hm, hid⟩ := List.mem_map.mp hq
    exact absent o (List.mem_of_mem_filter hm) hid
  · rw [hmap] at hc
    obtain ⟨o, hm, he⟩ := List.mem_map.mp hc
    exact absent o hm (congrArg Prod.snd he)

/-! ### The tick and its three passes (R56, R57) -/

/-- The state in which a tick is taken: the rest of its period has passed, the next one begins (R56). -/
def ticked (e : Nat) (s : State) : State := { s.clearPorts.elapse (1000 - e) with hau := ⟨some 0⟩ }

/-- The charges of a tick (R57). -/
def chargeAll (s : State) : State := (List.range 48).foldl (fun s n => chargeLocker n s) s

theorem exec_holdTick (e : Nat) (s : State) (he : s.hau.tickTimer = some e) :
    exec .holdTick s = .next (chooseTransmit (holdTick (ticked e s))) := by
  show execHoldTick s = _
  have running : s.clearPorts.hau.tickTimer = some e := he
  simp only [execHoldTick, running]
  rfl

theorem holdTick_passes (s : State) : holdTick s = ageReservedOrders (agePendingOrders (chargeAll s)) := rfl

theorem ticked_consistent (e : Nat) (hs : s.OrdersConsistent) : (ticked e s).OrdersConsistent := hs

theorem ticked_orderRef (e m : Nat) (s : State) : ((ticked e s).locker m).orderRef = (s.locker m).orderRef := by
  show ((s.clearPorts.elapse (1000 - e)).locker m).orderRef = _
  by_cases hm : m < 48
  · rw [State.elapse_locker _ _ _ hm]
    rfl
  · rw [State.locker_out _ _ (by omega), State.locker_out _ _ (by omega)]

theorem chargeAll_consistent (hs : s.OrdersConsistent) : (chargeAll s).OrdersConsistent :=
  (RecordsKept.foldl _ (fun x n => chargeLocker_kept n x) _ s).tables hs

theorem chargeAll_params (s : State) : (chargeAll s).params = s.params :=
  (RecordsOnly.foldl _ (fun x n => chargeLocker_records n x) _ s).params

theorem holdTick_locker (m : Nat) (s : State) : (holdTick s).locker m = (chargeAll s).locker m :=
  (ageReservedOrders_locker m _).trans (agePendingOrders_locker m _)

/-- A placed order after the tick, from its record after the charges. -/
theorem holdTick_placed (id n : Nat) (o : Order) (s : State) (hs : s.OrdersConsistent)
    (ho : (chargeAll s).order? id = some o) (hl : o.locker = some n) :
    (holdTick s).order? id = some (markLate o.ageReserved o.ageReserved) := by
  have table := chargeAll_consistent hs
  rw [holdTick_passes, ageReservedOrders_order id _ ((agePendingOrders_kept _).tables table),
    agePendingOrders_placed id n o _ table ho hl, Option.map_some]

/-- A pending order after the tick, from its record after the charges. -/
theorem holdTick_pending (id age : Nat) (o : Order) (s : State) (hs : s.OrdersConsistent)
    (ho : (chargeAll s).order? id = some o) (hp : o.status = .pending age) :
    (holdTick s).order? id =
      if s.params.pendingWaitS ≠ 0 ∧ s.params.pendingWaitS ≤ min (age + 1) 65535 then none
      else some { o with status := .pending (min (age + 1) 65535) } := by
  have table := chargeAll_consistent hs
  rw [holdTick_passes, ageReservedOrders_order id _ ((agePendingOrders_kept _).tables table),
    agePendingOrders_pending id age o _ table ho hp, chargeAll_params]
  split
  · rfl
  · exact congrArg some (ageReserved_still _ (.inl rfl))

/-- What the charges do to the order of the locker `n`, where the two are spoken of by each other alone. -/
theorem chargeAll_charged (n id : Nat) (o : Order) (h : Hold) (s : State) (paired : Paired n id s) (hn : n < 48)
    (hr : (s.locker n).orderRef = some id) (ho : s.order? id = some o) (hl : o.locker = some n) (hh : o.hold = some h)
    (hp : chargedPhase (s.locker n) = true) (hc : o.condemned = none) :
    let o' := chargedOrder (s.profile o.profile) (freshSample s (s.locker n)) o h
    (chargeAll s).order? id = some o' ∧
      (chargeAll s).locker n = if o'.condemned.isSome then (s.locker n).condemnNotice else s.locker n := by
  intro o'
  obtain ⟨before, behind, split⟩ := List.append_of_mem (List.mem_range.mpr hn)
  have once : n ∉ before ∧ n ∉ behind := by
    have nodup := List.nodup_range (n := 48)
    rw [split, List.nodup_append, List.nodup_cons] at nodup
    obtain ⟨-, ⟨hb, -⟩, apart⟩ := nodup
    exact ⟨fun h => apart n h n (List.mem_cons_self ..) rfl, hb⟩
  unfold chargeAll
  rw [split, List.foldl_append, List.foldl_cons]
  obtain ⟨order, locker, paired'⟩ := charges_apart before s paired once.1
  have records := RecordsOnly.foldl _ (fun x m => chargeLocker_records m x) before s
  generalize before.foldl (fun s n => chargeLocker n s) s = v at order locker paired' records ⊢
  have found : v.order? o.id = some o := by rw [s.order_id id o ho, order, ho]
  have charge : chargeLocker n v = chargeOrder n (v.locker n) o h v :=
    chargeLocker_charged n id o h v (by rw [locker, hr]) (by rw [order, ho]) hh (by rw [locker, hp]) hc
  obtain ⟨order', locker', -⟩ := charges_apart behind _ (chargeLocker_paired n paired') once.2
  obtain ⟨record, notice⟩ := chargeOrder_result n o h v found hc hl hn
  have sample : freshSample v (v.locker n) = freshSample s (s.locker n) := by
    unfold freshSample
    rw [locker, records.params]
  rw [← charge, sample, records.profile] at record notice
  rw [s.order_id id o ho] at record
  exact ⟨order'.trans record, locker'.trans (notice.trans (by rw [locker]))⟩

/-- The two passes after the charges, the LOAD_LATEs in a free order (R46, R47; log entry 12). -/
theorem ages_by_folds (charged : State) :
    let aged : State := { charged with oru := { charged.oru with orders := charged.oru.orders.map Order.agePending } }
    let waited : State := charged.oru.queue.foldl (fun v id => expirePending id v) aged
    let reserved : State := { waited with oru := { waited.oru with orders := waited.oru.orders.map Order.ageReserved } }
    ∃ late : List Order, late.Perm (reserved.oru.orders.filter loadLateDue) ∧
      ageReservedOrders (agePendingOrders charged) = late.foldl (fun v o => examineLoadLate o v) reserved :=
  ⟨_, sortByRank_perm _ _, rfl⟩

/-! ### The charge by cases (R58 to R61) -/

theorem chargedPhase_iff (l : Locker) :
    chargedPhase l = true ↔ l.phase = .holding ∨ l.phase = .pickup ∨ (l.phase = .offline ∧ l.resume = some .holding) := by
  simp [chargedPhase, or_assoc]

theorem freshSample_stale (l : Locker) (s : State)
    (h : ¬ (l.sampleAge ≤ s.params.sampleStaleS * 1000 ∧ l.phase ≠ .offline) ∨ l.sample = none) :
    freshSample s l = none := by
  unfold freshSample
  split
  · rfl
  case isFalse hf =>
    obtain ⟨online, fresh⟩ := not_or.mp hf
    exact h.resolve_left (not_not.mpr ⟨Nat.le_of_not_lt fresh, online⟩)

theorem freshSample_fresh (l : Locker) (s : State)
    (h : l.sampleAge ≤ s.params.sampleStaleS * 1000 ∧ l.phase ≠ .offline) : freshSample s l = l.sample := by
  obtain ⟨fresh, online⟩ := h
  exact if_neg (not_or.mpr ⟨online, Nat.not_lt.mpr fresh⟩)

theorem charge_warm (floor T : Int) (h : Hold) (hT : floor ≤ T) :
    h.charge floor (some T) = { h with life := h.life - 1 } := by
  simp [Hold.charge, wear, exposes, hT]

theorem charge_cold (floor T : Int) (h : Hold) (hT : T < floor) :
    h.charge floor (some T) = { h with
      life := h.life - min 8 (1 + ((floor - T) / 50).toNat)
      cold := min (h.cold + 1) 65535 } := by
  simp [Hold.charge, wear, exposes, hT, Int.not_le.mpr hT, satAdd]

theorem charge_unknown (floor : Int) (h : Hold) :
    h.charge floor none = { h with life := h.life - 8, cold := min (h.cold + 1) 65535 } := by
  simp [Hold.charge, wear, exposes, satAdd]

/-- Two changes of one order, one after the other. -/
theorem modOrder_modOrder (i : Nat) (f g : Order → Order) (s : State) (hg : ∀ o, (g o).id = o.id) :
    (s.modOrder i g).modOrder i f = s.modOrder i fun o => f (g o) := by
  have both : ((s.oru.orders.map fun o => if o.id == i then g o else o).map fun o => if o.id == i then f o else o) =
      s.oru.orders.map fun o => if o.id == i then f (g o) else o := by
    rw [List.map_map]
    refine List.map_congr_left fun o _ => ?_
    by_cases h : o.id = i <;> simp [h, hg]
  unfold State.modOrder
  dsimp only
  rw [both]

/-- The condemnation of a charged order at its locker (R48, R60). -/
theorem condemn_held (n id : Nat) (c : Cause) (o : Order) (h : Hold) (s : State) (ho : s.order? id = some o)
    (hl : o.locker = some n) (hc : o.condemned = none) :
    condemn id c (s.modOrder id fun x => { x with hold := some h }) =
      (submit .condemned [.b4 id, .b1 c.code, .b1 n] (s.modOrder id fun x =>
        { x with hold := some h, condemned := some c })).setLocker n (s.locker n).condemnNotice := by
  have hid := s.order_id id o ho
  have held := modHold_order h o s (hid ▸ ho)
  have both := modOrder_modOrder id (fun o => { o with condemned := some c }) (fun o => { o with hold := some h }) s
    fun _ => rfl
  rw [hid] at held
  rw [condemn_placed id n c _ _ held hc hl, State.modLocker_eq, submit_locker, both]
  rfl

theorem chargeOrder_condemns (n : Nat) (l : Locker) (c : Cause) (o : Order) (h : Hold) (s : State)
    (hv : (h.charge (s.profile o.profile).floor (freshSample s l)).verdict (s.profile o.profile).coldLimit = some c) :
    chargeOrder n l o h s = condemn o.id c (s.modOrder o.id fun x =>
      { x with hold := some (h.charge (s.profile o.profile).floor (freshSample s l)) }) := by
  unfold chargeOrder
  dsimp only
  rw [hv]

theorem chargeOrder_survives (n : Nat) (l : Locker) (o : Order) (h : Hold) (s : State)
    (hv : (h.charge (s.profile o.profile).floor (freshSample s l)).verdict (s.profile o.profile).coldLimit = none) :
    chargeOrder n l o h s =
      let h' := h.charge (s.profile o.profile).floor (freshSample s l)
      if h'.warned = false ∧ h'.life ≤ (s.profile o.profile).warn then
        submit .nearExpiry [.b4 o.id, .b1 n, .b2 h'.life, .b2 (s.profile o.profile).warn]
          (s.modOrder o.id fun x => { x with hold := some { h' with warned := true } })
      else s.modOrder o.id fun x => { x with hold := some h' } := by
  unfold chargeOrder
  dsimp only
  rw [hv]

/-- The hold fields after a charge, written out by the sample (R59). -/
theorem charge_eq (floor : Int) (x : Option Int) (h : Hold) :
    h.charge floor x =
      ⟨h.life - (match x with
          | none => 8
          | some T => if floor ≤ T then 1 else min 8 (1 + ((floor - T) / 50).toNat)),
        if (match x with | none => true | some T => decide (T < floor)) then min (h.cold + 1) 65535 else h.cold,
        h.warned⟩ := by
  cases x <;> rfl

theorem verdict_none_of (limit : Nat) (h : Hold) (hl : h.life ≠ 0) (hc : h.cold < limit) : h.verdict limit = none := by
  simp [Hold.verdict, hl, hc]

theorem examineLoadLate_due (o : Order) (n age : Nat) (s : State) (hs : o.status = .placed n age false)
    (hh : o.hold = none) (hd : o.deadline ≠ 0) (ha : o.deadline ≤ age) :
    examineLoadLate o s = submit .loadLate [.b4 o.id, .b1 n, .b2 o.deadline]
      (s.modOrder o.id fun x => { x with status := .placed n age true }) := by
  have due : loadLateDue o = true := by simp [loadLateDue, Order.loaded, hs, hh, hd, ha]
  simp [examineLoadLate, hs, due]

/-- Settles O47: the three passes of the tick, each by its effect on one order. -/
theorem holdTickByRule : Obligations.HoldTickByRule := by
  refine ⟨fun e n id age late o h s hs he hn hp hr hrefs hclaims ho hst hc hh => ?_,
    fun e id age o s hs he hrefs ho hst => ?_, fun e id n age late o s hs he ho hst hh => ?_, fun e s he => ?_,
    fun n id o h s hn hr ho hh hl => ?_, fun o s => ⟨fun n age late hst hh hd ha hlate => ?_, fun age ho hst hw hwa => ?_⟩⟩
  · intro u l p fresh
    have orderRef := ticked_orderRef e
    have paired : Paired n id (ticked e s) := by
      refine ⟨fun m hm => by rw [orderRef]; exact hrefs m hm, fun x hx hxn => ?_⟩
      obtain ⟨y, hy, rfl⟩ := List.mem_map.mp hx
      exact hclaims y hy hxn
    have phase : l.phase = (s.locker n).phase := State.elapse_phase _ _ _
    have resume : l.resume = (s.locker n).resume := by
      show ((s.clearPorts.elapse (1000 - e)).locker n).resume = _
      rw [State.elapse_locker _ _ _ hn]
      rfl
    have hl : o.locker = some n := by simp [Order.locker, hst]
    have charging : chargedPhase l = true := by
      rw [chargedPhase_iff, phase, resume]
      exact hp
    obtain ⟨record, notice⟩ := chargeAll_charged n id o h (ticked e s) paired hn (by rw [orderRef, hr]) ho hl hh charging hc
    have record : (chargeAll (ticked e s)).order? id = some (chargedOrder p (freshSample s l) o h) := record
    have notice : (chargeAll (ticked e s)).locker n =
        if (chargedOrder p (freshSample s l) o h).condemned.isSome then l.condemnNotice else l := notice
    have after := holdTick_placed id n _ _ (ticked_consistent e hs) record hl
    rw [ageReserved_still _ (.inr rfl)] at after
    rw [← holdTick_locker] at notice
    have records := holdTick_records (ticked e s)
    refine ⟨_, _, _, exec_holdTick e s he, ?_, ?_, ?_, ?_, ?_, ?_, (chooseTransmit_order _ _).trans after, rfl, rfl, rfl,
      fun T hf hT hw => ?_, fun T hf hT hw => ?_, fun hf => ?_, rfl, fun ha => ?_, fun ha => ?_⟩
    · rw [chooseTransmit_hau, records.hau]; rfl
    · rw [chooseTransmit_upMs, records.upMs]; rfl
    · rw [chooseTransmit_sst, records.sst]; rfl
    · rw [chooseTransmit_txu, records.txu]; rfl
    · rw [chooseTransmit_hta, records.hta]; rfl
    · rw [chooseTransmit_bbm, records.bbm]; rfl
    · rw [freshSample_fresh l s hf, hT, charge_warm _ _ h hw]
      exact ⟨rfl, rfl⟩
    · rw [freshSample_fresh l s hf, hT, charge_cold _ _ h hw]
      exact ⟨rfl, rfl⟩
    · rw [freshSample_stale l s hf, charge_unknown]
      exact ⟨rfl, rfl⟩
    · have alive : (h.charge p.floor (freshSample s l)).verdict p.coldLimit = none := ha
      show (h.warned || (((h.charge p.floor (freshSample s l)).verdict p.coldLimit).isNone && _)) = _
      rw [alive]
      rfl
    · have cause : ((h.charge p.floor (freshSample s l)).verdict p.coldLimit).isSome = true :=
        Option.isSome_iff_ne_none.mpr ha
      have noticed : (chooseTransmit (holdTick (ticked e s))).locker n = l.condemnNotice := by
        rw [chooseTransmit_locker, notice]
        exact if_pos cause
      rw [noticed, condemnNotice_eq]
      refine ⟨?_, fun holding => by simp [holding], fun pickup => by simp [pickup], fun offline => ?_⟩
      · show (h.warned || (((h.charge p.floor (freshSample s l)).verdict p.coldLimit).isNone && _)) = h.warned
        rw [Option.isNone_eq_false_iff.mpr cause, Bool.false_and, Bool.or_false]
      · have resumes : l.resume = some .holding := by
          rw [phase] at offline
          rw [resume]
          simpa [offline] using hp
        simp [offline, resumes]
  · intro wait age'
    refine ⟨_, exec_holdTick e s he, ?_⟩
    have spared : (chargeAll (ticked e s)).order? id = some o :=
      charges_spare _ id o (ticked e s) ho fun m hm => absurd ((ticked_orderRef e m s).symm.trans hm) (hrefs m)
    have after := holdTick_pending id age o (ticked e s) (ticked_consistent e hs) spared hst
    have table := (holdTick_kept (ticked e s)).tables (ticked_consistent e hs)
    rw [chooseTransmit_order, chooseTransmit_oru]
    refine ⟨fun stays => ?_, fun hw hwa => ?_⟩
    · have waits : ¬ (wait ≠ 0 ∧ wait ≤ age') := by omega
      have found := after.trans (if_neg waits)
      exact ⟨found, mem_queue_of_pending table id age' _ found rfl⟩
    · have gone := after.trans (if_pos ⟨hw, hwa⟩)
      exact ⟨gone, unlisted_of_unknown table id gone⟩
  · intro age' due
    refine ⟨_, exec_holdTick e s he, ?_⟩
    have spared : (chargeAll (ticked e s)).order? id = some o := charges_spare _ id o (ticked e s) ho fun _ _ => hh
    rw [chooseTransmit_order, holdTick_placed id n o _ (ticked_consistent e hs) spared (by simp [Order.locker, hst]),
      ageReserved_waits o n age late hst hh]
  · intro u charged aged waited reserved
    have ticks : exec .holdTick s = .next (chooseTransmit (ageReservedOrders (agePendingOrders charged))) :=
      exec_holdTick e s he
    clear_value charged
    obtain ⟨late, perm, passes⟩ := ages_by_folds charged
    exact ⟨late, perm, ticks.trans (congrArg (fun v => Host.Outcome.next (chooseTransmit v)) passes)⟩
  · intro l p fresh wear cold h' charged withOrder noticed condemned
    have charge : h.charge p.floor (freshSample s l) = h' := charge_eq _ _ _
    have hid := s.order_id id o ho
    have begun (hch : charged) : chargeLocker n s = chargeOrder n l o h s :=
      chargeLocker_charged n id o h s hr ho hh ((chargedPhase_iff l).mpr hch.1) hch.2
    have condemns (c : Cause) (hch : charged) (hv : h'.verdict p.coldLimit = some c) : condemned c := by
      have notice : (s.locker n).condemnNotice = noticed := by
        obtain ⟨holding | pickup | ⟨offline, resume⟩, -⟩ := hch
        · simp [condemnNotice_eq, noticed, l, holding]
        · simp [condemnNotice_eq, noticed, l, pickup]
        · simp [condemnNotice_eq, noticed, l, offline, resume]
      show chargeLocker n s = _
      rw [begun hch, chargeOrder_condemns n l c o h s (by rw [charge]; exact hv), charge, hid,
        condemn_held n id c o h' s ho hl hch.2, notice, submit_setLocker]
      rfl
    have survives (hch : charged) (hl' : h'.life ≠ 0) (hc' : h'.cold < p.coldLimit) :=
      (begun hch).trans (chargeOrder_survives n l o h s (by rw [charge]; exact verdict_none_of _ _ hl' hc'))
    refine ⟨fun hch => ?_, fun hch hz => condemns .expired hch ?_, fun hch hl' hc' => condemns .cold hch ?_,
      fun hch hl' hc' hw hle => ?_, fun hch hl' hc' hw => ?_⟩
    · refine chargeLocker_spared n id o s hr ho (.inr fun both => hch ⟨(chargedPhase_iff l).mp both.1, both.2⟩)
    · exact if_pos hz
    · exact (if_neg hl').trans (if_pos hc')
    · rw [survives hch hl' hc', charge, hid]
      exact if_pos ⟨hw, hle⟩
    · rw [survives hch hl' hc', charge, hid]
      refine if_neg fun ⟨unwarned, low⟩ => hw.elim (fun warned => ?_) fun high => absurd low (Nat.not_le.mpr high)
      exact absurd (unwarned.symm.trans warned) (by simp)
  · subst hlate
    exact examineLoadLate_due o n age s hst hh hd ha
  · rw [expirePending_pending o.id age o s ho hst, if_pos ⟨hw, hwa⟩]

end Sys2Proof.Proofs

/-! ## Hold lives under the acts on the records (R14, R49, R55, R59) -/

namespace Sys2Proof.Proofs

open Sys2Proof.Machine

variable {s t u : State} {id : Nat}

/-! ### The hold life of an order -/

/-- The hold life that a table gives the order `id`; below every number while the order is not in the table or not
loaded (R55), so that a comparison says where a life may come from. -/
def lifeIn (os : List Order) (id : Nat) : WithBot Nat :=
  match (os.find? fun o => o.id == id).bind Order.hold with
  | some h => (h.life : WithBot Nat)
  | none => ⊥

theorem lifeIn_nil (id : Nat) : lifeIn [] id = ⊥ := rfl

theorem lifeIn_of_order {o : Order} {h : Hold} (ho : s.order? id = some o) (hh : o.hold = some h) :
    lifeIn s.oru.orders id = h.life := by
  unfold lifeIn
  unfold State.order? at ho
  rw [ho, Option.bind_some, hh]

/-- A table rewritten order by order gives each order the life of its rewritten hold fields. -/
theorem lifeIn_map (os : List Order) (g : Order → Order) (hid : ∀ o, (g o).id = o.id)
    (hh : ∀ o, os.find? (fun x => x.id == id) = some o → (g o).hold = o.hold) :
    lifeIn (os.map g) id = lifeIn os id := by
  unfold lifeIn
  rw [find_map_id os g hid]
  cases hf : os.find? fun o => o.id == id with
  | none => rfl
  | some o => rw [Option.map_some, Option.bind_some, Option.bind_some, hh o hf]

@[simp] theorem lifeIn_removed (os : List Order) (i : Nat) :
    lifeIn (os.filter fun o => o.id != i) id = if id = i then ⊥ else lifeIn os id := by
  unfold lifeIn
  rw [List.find?_filter]
  by_cases hi : id = i
  · subst hi
    rw [if_pos rfl, List.find?_eq_none.mpr (by simp)]
    rfl
  · rw [if_neg hi]
    congr 3
    funext o
    by_cases ho : o.id = id <;> simp [ho, hi]

/-- A record not yet loaded brings no life with it (R40). -/
theorem lifeIn_admitted (os : List Order) (o : Order) (hh : o.hold = none) : lifeIn (os ++ [o]) id = lifeIn os id := by
  unfold lifeIn
  rw [List.find?_append]
  cases os.find? fun o => o.id == id with
  | some x => rfl
  | none =>
    by_cases ho : o.id = id
    · simp [ho, hh]
    · simp [ho]

theorem modOrder_life (i : Nat) (f : Order → Order) (s : State) (hid : ∀ o, (f o).id = o.id)
    (hh : ∀ o, (f o).hold = o.hold) : lifeIn (s.modOrder i f).oru.orders id = lifeIn s.oru.orders id := by
  refine lifeIn_map _ _ (fun o => ?_) fun o _ => ?_
  · split <;> simp [hid]
  · split <;> simp [hh]

/-- Writing the hold fields of another order. -/
theorem modHold_life_ne (i : Nat) (f : Order → Option Hold) (s : State) (hi : i ≠ id) :
    lifeIn (s.modOrder i fun o => { o with hold := f o }).oru.orders id = lifeIn s.oru.orders id := by
  refine lifeIn_map _ _ (fun o => ?_) fun o ho => ?_
  · split <;> rfl
  · have : o.id = id := s.order_id id o ho
    rw [if_neg (by simpa [this] using Ne.symm hi)]

/-- Writing the hold fields of an order with a life that is not above its own. -/
theorem modHold_life_le (i : Nat) (o : Order) (h x : Hold) (s : State) (ho : s.order? i = some o)
    (hh : o.hold = some h) (hx : x.life ≤ h.life) :
    lifeIn (s.modOrder i fun o => { o with hold := some x }).oru.orders id ≤ lifeIn s.oru.orders id := by
  by_cases hi : i = id
  · subst hi
    have found := s.modOrder_order i i (fun o => { o with hold := some x }) fun _ => rfl
    rw [ho, Option.map_some, if_pos (s.order_id i o ho)] at found
    rw [lifeIn_of_order found rfl, lifeIn_of_order ho hh]
    exact WithBot.coe_le_coe.mpr hx
  · exact (modHold_life_ne i (fun _ => some x) s hi).le

/-- An act repeated that keeps every life. -/
theorem foldl_life {α : Type} (f : State → α → State)
    (hf : ∀ x a, lifeIn (f x a).oru.orders id = lifeIn x.oru.orders id) (as : List α) (s : State) :
    lifeIn (as.foldl f s).oru.orders id = lifeIn s.oru.orders id := by
  induction as generalizing s with
  | nil => rfl
  | cons a as ih => rw [List.foldl_cons, ih, hf]

/-- An act repeated that raises no life. -/
theorem foldl_life_le {α : Type} (f : State → α → State)
    (hf : ∀ x a, lifeIn (f x a).oru.orders id ≤ lifeIn x.oru.orders id) (as : List α) (s : State) :
    lifeIn (as.foldl f s).oru.orders id ≤ lifeIn s.oru.orders id := by
  induction as generalizing s with
  | nil => exact le_rfl
  | cons a as ih => exact (ih _).trans (hf s a)

/-! ### Orders (chapter 02) -/

theorem removeOrder_life_le (i : Nat) (s : State) :
    lifeIn (removeOrder i s).oru.orders id ≤ lifeIn s.oru.orders id := by
  rw [removeOrder_orders, lifeIn_removed]
  split
  · exact bot_le
  · exact le_rfl

@[simp] theorem condemn_life (i : Nat) (c : Cause) (s : State) :
    lifeIn (condemn i c s).oru.orders id = lifeIn s.oru.orders id := by
  have cause := modOrder_life (id := id) i (fun o => { o with condemned := some c }) s (fun _ => rfl) fun _ => rfl
  unfold condemn
  split
  · rfl
  · split
    · rfl
    · dsimp only
      split <;> simpa using cause

theorem withdrawLost_life_le (i : Nat) (s : State) :
    lifeIn (withdrawLost i s).oru.orders id ≤ lifeIn s.oru.orders id :=
  (removeOrder_life_le i _).trans (condemn_life i .lost s).le

@[simp] theorem join_life (i n : Nat) (s : State) :
    lifeIn (join i n s).oru.orders id = lifeIn s.oru.orders id := by
  rw [join_orders]
  refine lifeIn_map _ _ (fun o => ?_) fun o _ => ?_ <;> split <;> rfl

@[simp] theorem placePending_life (o : Order) (n : Nat) (s : State) :
    lifeIn (placePending o n s).oru.orders id = lifeIn s.oru.orders id := by
  simp [placePending]

@[simp] theorem becameFree_life (n : Nat) (s : State) :
    lifeIn (becameFree n s).oru.orders id = lifeIn s.oru.orders id := by
  unfold becameFree
  dsimp only
  split
  · rfl
  · split <;> simp

@[simp] theorem announceFree_life (n : Nat) (s : State) :
    lifeIn (announceFree n s).oru.orders id = lifeIn s.oru.orders id := by
  unfold announceFree
  split <;> simp

theorem sweepOver_life (ids : List Nat) (s : State) :
    lifeIn (sweepOver ids s).oru.orders id = lifeIn s.oru.orders id := by
  induction ids generalizing s with
  | nil => rfl
  | cons i rest ih =>
    unfold sweepOver
    split
    · split <;> simp [ih]
    · exact ih s

@[simp] theorem pendingSweep_life (s : State) : lifeIn (pendingSweep s).oru.orders id = lifeIn s.oru.orders id :=
  sweepOver_life _ s

@[simp] theorem recomputeFence_life (s : State) :
    lifeIn (recomputeFence s).oru.orders id = lifeIn s.oru.orders id := by
  have moved : (fenceMoved s).oru.orders = s.oru.orders := by
    rw [fenceMoved_listsOnly s]
    rfl
  rw [recomputeFence_eq]
  split <;> simp [moved]

/-! ### Lockers (chapter 01) -/

@[simp] theorem doorFault_life (n : Nat) (f : Finding) (s : State) :
    lifeIn (doorFault n f s).oru.orders id = lifeIn s.oru.orders id := by
  unfold doorFault
  dsimp only
  split
  · rfl
  · split <;> simp

@[simp] theorem setExcluded_life (n : Nat) (s : State) :
    lifeIn (setExcluded n s).oru.orders id = lifeIn s.oru.orders id := by
  unfold setExcluded
  split <;> simp

@[simp] theorem heaterCheck_life (n : Nat) (on mark : Bool) (s : State) :
    lifeIn (heaterCheck n on mark s).oru.orders id = lifeIn s.oru.orders id := by
  unfold heaterCheck
  dsimp only
  split
  · split <;> simp
  · rfl

@[simp] theorem faultChecks_life (n : Nat) (on mark : Bool) (s : State) :
    lifeIn (faultChecks n on mark s).oru.orders id = lifeIn s.oru.orders id := by
  unfold faultChecks
  dsimp only
  split <;> simp

@[simp] theorem goOffline_life (n : Nat) (c : OfflineCause) (s : State) :
    lifeIn (goOffline n c s).oru.orders id = lifeIn s.oru.orders id := by
  rw [(goOffline_keeps n c s).1]

theorem quarantine_life_le (n : Nat) (s : State) :
    lifeIn (quarantine n s).oru.orders id ≤ lifeIn s.oru.orders id := by
  unfold quarantine
  dsimp only
  split
  · rw [submit_oru]
    exact (withdrawLost_life_le _ _).trans (by simp)
  · simp

@[simp] theorem doorCommandEnd_life (e : Entry) (o : CmdOutcome) (s : State) :
    lifeIn (doorCommandEnd e o s).oru.orders id = lifeIn s.oru.orders id := by
  unfold doorCommandEnd
  dsimp only
  generalize hb : (if e.request.phase = some (((s.modLocker e.locker _).locker e.locker).phase) then _ else _) = b
  have reverted : b.oru.orders = s.oru.orders := by
    rw [← hb]
    split <;> simp
  split
  · simp
  · split
    · simp [reverted]
    · split <;> simp [reverted]
    · rw [reverted]

@[simp] theorem lockerCommandEnd_life (e : Entry) (o : CmdOutcome) (s : State) :
    lifeIn (lockerCommandEnd e o s).oru.orders id = lifeIn s.oru.orders id := by
  unfold lockerCommandEnd
  split
  · simp
  · split <;> simp

/-! ### The completions of the transient phases (R14, R16, R18) -/

/-- A loading that ends gives a life to the order of its locker alone. -/
theorem completeLoading_life (n : Nat) (s : State) (hn : (s.locker n).orderRef.getD 0 ≠ id) :
    lifeIn (completeLoading n s).oru.orders id = lifeIn s.oru.orders id := by
  have started (x : State) :
      lifeIn (startHold ((s.locker n).orderRef.getD 0) x).oru.orders id = lifeIn x.oru.orders id :=
    modHold_life_ne _ (fun o => some ⟨o.budget, 0, false⟩) x hn
  unfold completeLoading
  dsimp only
  split
  · split
    · rw [submit_oru, started, moveTo_orders]
    · simp [loadEmpty]
  · simp [loadEmpty]

theorem completePickup_life_le (n : Nat) (s : State) :
    lifeIn (completePickup n s).oru.orders id ≤ lifeIn s.oru.orders id := by
  unfold completePickup
  dsimp only
  split
  · split
    · rw [moveToUnlessExcluded, moveTo_orders]
      exact (removeOrder_life_le _ _).trans (by simp)
    · rw [moveTo_orders, submit_oru]
      exact (modOrder_life _ _ s (by simp) (by simp)).le
  · simp

theorem completeClearing_life_le (n : Nat) (s : State) :
    lifeIn (completeClearing n s).oru.orders id ≤ lifeIn s.oru.orders id := by
  unfold completeClearing
  dsimp only
  split
  · split
    · rw [moveToUnlessExcluded, moveTo_orders]
      split
      · exact (removeOrder_life_le _ _).trans (by simp)
      · simp
    · simp
  · simp

theorem completeTransient_life_le (n : Nat) (s : State)
    (hn : (s.locker n).phase = .loading → (s.locker n).orderRef.getD 0 ≠ id) :
    lifeIn (completeTransient n s).oru.orders id ≤ lifeIn s.oru.orders id := by
  unfold completeTransient
  dsimp only
  split
  · exact le_rfl
  · split
    · exact le_rfl
    · split
      case h_1 hp => exact (completeLoading_life n s (hn hp)).le
      case h_2 => exact completePickup_life_le n s
      case h_3 => exact completeClearing_life_le n s
      case h_4 => exact le_rfl

/-! ### Polls (R5, R8) -/

theorem resolveOffline_life_le (n : Nat) (s : State) :
    lifeIn (resolveOffline n s).oru.orders id ≤ lifeIn s.oru.orders id := by
  unfold resolveOffline
  dsimp only
  split
  · exact le_rfl
  · split
    · split
      · simp [moveToUnlessExcluded]
      · exact quarantine_life_le n s
    · split
      · simp [moveToUnlessExcluded]
      · exact quarantine_life_le n s

theorem occupancyCheck_life_le (n : Nat) (s : State) :
    lifeIn (occupancyCheck n s).oru.orders id ≤ lifeIn s.oru.orders id := by
  unfold occupancyCheck
  dsimp only
  split
  · split
    · exact quarantine_life_le n s
    · exact le_rfl
  · exact le_rfl

@[simp] theorem examineDoorHeld_oru (n : Nat) (s : State) : (examineDoorHeld n s).oru = s.oru := by
  unfold examineDoorHeld
  dsimp only
  split <;> simp

@[simp] theorem doorHeldBookkeeping_oru (n : Nat) (b : Locker) (s : State) :
    (doorHeldBookkeeping n b s).oru = s.oru := by
  unfold doorHeldBookkeeping
  dsimp only
  split
  · rfl
  · split <;> simp

theorem moveTo_orderRef (p : Phase) (n : Nat) (s : State) (hp : p ≠ .purging) (m : Nat) :
    ((moveTo p n s).locker m).orderRef = (s.locker m).orderRef := by
  by_cases hm : m = n
  · subst hm
    by_cases hn : m < 48
    · rw [moveTo_locker_same _ _ _ hn, enter_orderRef, if_neg hp]
    · rw [State.locker_out _ _ (by omega), State.locker_out _ _ (by omega)]
  · rw [moveTo_locker_ne _ _ _ _ hm]

theorem modLocker_orderRef (n : Nat) (f : Locker → Locker) (s : State) (hf : ∀ l, (f l).orderRef = l.orderRef)
    (m : Nat) : ((s.modLocker n f).locker m).orderRef = (s.locker m).orderRef := by
  by_cases hm : m = n
  · subst hm
    by_cases hn : m < 48
    · rw [State.modLocker_same _ _ _ hn, hf]
    · rw [State.modLocker_eq, State.setLocker_out _ _ _ (by omega)]
  · rw [State.modLocker_ne _ _ _ _ hm]

/-- The fault checks take no order from its locker (R20, R21). -/
theorem faultChecks_orderRef (n : Nat) (on mark : Bool) (s : State) (m : Nat) :
    ((faultChecks n on mark s).locker m).orderRef = (s.locker m).orderRef := by
  have served (x : State) : ((moveTo .service n x).locker m).orderRef = (x.locker m).orderRef :=
    moveTo_orderRef .service n x (by simp) m
  have door (f : Finding) : ((doorFault n f s).locker m).orderRef = (s.locker m).orderRef := by
    unfold doorFault
    dsimp only
    split
    · rfl
    · split
      · rw [(condemn_actsOn _ _ _).refs, submit_locker, served]
      · rw [submit_locker, served]
  have excluded (x : State) : ((setExcluded n x).locker m).orderRef = (x.locker m).orderRef := by
    unfold setExcluded
    split
    · rfl
    · rw [submit_locker]
      exact modLocker_orderRef n _ x (by simp) m
  have heater (x : State) : ((heaterCheck n on mark x).locker m).orderRef = (x.locker m).orderRef := by
    unfold heaterCheck
    dsimp only
    split
    · split
      · rw [served, excluded]
      · exact excluded x
    · rfl
  unfold faultChecks
  dsimp only
  split
  · rw [heater, door]
  · exact heater s

theorem ifStill_life_le (p : Phase) (n : Nat) (f : State → State) (s : State)
    (hf : (s.locker n).phase = p → lifeIn (f s).oru.orders id ≤ lifeIn s.oru.orders id) :
    lifeIn (ifStill p n f s).oru.orders id ≤ lifeIn s.oru.orders id := by
  unfold ifStill
  split
  case isTrue hp => exact hf hp
  case isFalse => exact le_rfl

/-- A good poll gives a life to the order of a LOADING locker alone: the steps before its completion leave the locker's
order where it is (R8, R14). -/
theorem goodPoll_life_le (n : Nat) (o : Observation) (mark : Bool) (s : State)
    (hn : (s.locker n).phase = .loading → (s.locker n).orderRef.getD 0 ≠ id) :
    lifeIn (goodPoll n o mark s).oru.orders id ≤ lifeIn s.oru.orders id := by
  unfold goodPoll
  dsimp only
  generalize hp : (s.locker n).phase = p at hn ⊢
  generalize hx : faultChecks n o.heaterOn mark (s.modLocker n (Locker.observe o)) = x
  have checked : lifeIn x.oru.orders id = lifeIn s.oru.orders id := by simp [← hx]
  have ref : (x.locker n).orderRef = (s.locker n).orderRef := by
    rw [← hx, faultChecks_orderRef]
    exact modLocker_orderRef n (Locker.observe o) s (fun _ => rfl) n
  have resolved := ifStill_life_le (id := id) p n (resolveOffline n) x fun _ => resolveOffline_life_le n x
  have settled : p = .loading → ifStill p n (resolveOffline n) x = x := by
    rintro rfl
    unfold ifStill resolveOffline
    split
    case isTrue hl => simp [hl]
    case isFalse => rfl
  generalize ifStill p n (resolveOffline n) x = y at resolved settled ⊢
  have completed := ifStill_life_le (id := id) p n (completeTransient n) y fun hy =>
    completeTransient_life_le n y fun hl => by
      have loading : p = .loading := hy.symm.trans hl
      rw [settled loading, ref]
      exact hn loading
  rw [doorHeldBookkeeping_oru]
  calc _ ≤ _ := ifStill_life_le p n _ _ fun _ => occupancyCheck_life_le n _
    _ ≤ _ := completed
    _ ≤ _ := resolved
    _ = _ := checked

/-! ### Purges, probes and lockers set aside (R24, R188, R190) -/

@[simp] theorem purgeDone_life (n : Nat) (s : State) :
    lifeIn (purgeDone n s).oru.orders id = lifeIn s.oru.orders id := by
  unfold purgeDone
  split <;> simp [moveToUnlessExcluded]

@[simp] theorem setAsideAll_orders (s : State) : (setAsideAll s).oru.orders = s.oru.orders := by
  rw [setAsideAll_frame s]

@[simp] theorem settleProbed_life (n : Nat) (on mark : Bool) (s : State) :
    lifeIn (settleProbed n on mark s).oru.orders id = lifeIn s.oru.orders id := by
  unfold settleProbed
  dsimp only
  split
  · simp
  · split
    · split <;> simp
    · split <;> simp [moveToUnlessExcluded]

/-! ### The hold tick (R46, R47, R59) -/

/-- A tick wears a life down (R59). -/
theorem chargeOrder_life_le (n i : Nat) (l : Locker) (o : Order) (h : Hold) (s : State) (ho : s.order? i = some o)
    (hh : o.hold = some h) : lifeIn (chargeOrder n l o h s).oru.orders id ≤ lifeIn s.oru.orders id := by
  have found : s.order? o.id = some o := by rw [s.order_id i o ho, ho]
  have worn (w : Bool) := modHold_life_le (id := id) o.id o h
    { h.charge (s.profile o.profile).floor (freshSample s l) with warned := w } s found hh (Nat.sub_le _ _)
  unfold chargeOrder
  dsimp only
  split
  · rw [condemn_life]
    exact worn _
  · split
    · rw [submit_oru]
      exact worn true
    · exact worn _

theorem chargeLocker_life_le (n : Nat) (s : State) :
    lifeIn (chargeLocker n s).oru.orders id ≤ lifeIn s.oru.orders id := by
  unfold chargeLocker
  dsimp only
  split
  case h_1 o ho =>
    obtain ⟨i, -, found⟩ := Option.bind_eq_some_iff.mp ho
    split
    case h_1 h hh =>
      split
      · exact chargeOrder_life_le n i _ o h s found hh
      · exact le_rfl
    case h_2 => exact le_rfl
  case h_2 => exact le_rfl

theorem expirePending_life_le (i : Nat) (s : State) :
    lifeIn (expirePending i s).oru.orders id ≤ lifeIn s.oru.orders id := by
  unfold expirePending
  split
  · split
    · split
      · exact (removeOrder_life_le i _).trans (by simp)
      · exact le_rfl
    · exact le_rfl
  · exact le_rfl

theorem holdTick_life_le (s : State) : lifeIn (holdTick s).oru.orders id ≤ lifeIn s.oru.orders id := by
  have reserved (x : State) : lifeIn (ageReservedOrders x).oru.orders id = lifeIn x.oru.orders id := by
    unfold ageReservedOrders
    dsimp only
    rw [foldl_examineLoadLate_oru]
    refine (lifeIn_map _ _ (fun o => by rw [marksLate_eq]) fun o _ => by rw [marksLate_eq]).trans ?_
    exact lifeIn_map _ _ ageReserved_id fun o _ => by rw [ageReserved_eq]
  have pending (x : State) : lifeIn (agePendingOrders x).oru.orders id ≤ lifeIn x.oru.orders id :=
    (foldl_life_le _ (fun v i => expirePending_life_le i v) _ _).trans
      (lifeIn_map _ _ agePending_id fun o _ => by rw [agePending_eq]).le
  calc _ = _ := reserved _
    _ ≤ _ := pending _
    _ ≤ _ := foldl_life_le _ (fun x n => chargeLocker_life_le n x) _ s

end Sys2Proof.Proofs

/-! ## Hold life rises only by EXTEND (R55, R63, R65, R180) -/

namespace Sys2Proof.Proofs

open Sys2Proof.Machine

variable {s t u : State} {id : Nat}

/-! ### Commands and the bus (chapters 05 and 06) -/

@[simp] theorem endCommand_life (q : Nat) (o : CmdOutcome) (s : State) :
    lifeIn (endCommand q o s).oru.orders id = lifeIn s.oru.orders id := by
  unfold endCommand endConfirmed
  split
  · rw [completeEntry_oru, lockerCommandEnd_life]
  · split
    · rw [endPosted_oru]
    · rfl

@[simp] theorem endLongOp_oru (st : Status) (s : State) : (endLongOp st s).oru = s.oru := (endLongOp_frame st s).2.1

@[simp] theorem startGap_oru (s : State) : (startGap s).oru = s.oru := by
  unfold startGap
  split <;> rfl

@[simp] theorem beginCycle_oru (s : State) : (beginCycle s).oru = s.oru := by
  unfold beginCycle
  dsimp only
  split <;> simp

@[simp] theorem endOfPoll_oru (s : State) : (endOfPoll s).oru = s.oru := (endOfPoll_givenAway s).1

@[simp] theorem cycleAfterLayoutWrite_oru (s : State) : (cycleAfterLayoutWrite s).oru = s.oru := by
  unfold cycleAfterLayoutWrite
  split <;> simp

@[simp] theorem cycleAfterQuiet_oru (s : State) : (cycleAfterQuiet s).oru = s.oru := by
  unfold cycleAfterQuiet
  split <;> simp

@[simp] theorem chooseBus_oru (s : State) : (chooseBus s).oru = s.oru := (chooseBus_givenAway s).1

@[simp] theorem startPulse_orders (s : State) : (startPulse s).oru.orders = s.oru.orders := by
  rw [startPulse_oru s]

@[simp] theorem afterExchange_orders (s : State) : (afterExchange s).oru.orders = s.oru.orders := by
  unfold afterExchange
  split <;> simp

/-! ### The frame start and discovery (chapters 04 and 10) -/

@[simp] theorem frameStart_life (s : State) : lifeIn (frameStart s).oru.orders id = lifeIn s.oru.orders id := by
  have fed (f : Nat) (x : State) : (latchFeed f x).oru = x.oru := by
    unfold latchFeed
    dsimp only
    split
    · rw [submit_oru]
    · split
      · rw [submit_oru]
      · rfl
  have suspended (n : Nat) (x : State) : (suspendOrResume n x).oru = x.oru := by
    unfold suspendOrResume
    dsimp only
    split
    · rfl
    · split
      · simp
      · split <;> simp
  have inhibited (n : Nat) (x : State) : (examineInhibit n x).oru = x.oru := by
    unfold examineInhibit
    dsimp only
    split
    · split
      · simp
      · split <;> simp
    · rfl
  unfold frameStart grantFrame latchFeeds
  dsimp only
  rw [foldl_creditAndStarve_oru]
  dsimp only
  rw [foldl_life _ fun x n => by rw [inhibited], foldl_life _ fun x n => by rw [suspended],
    foldl_life _ fun x n => purgeDone_life n x, foldl_life _ fun x f => by rw [fed]]

@[simp] theorem endDiscovery_life (k : DiscoveryKind) (s : State) :
    lifeIn (endDiscovery k s).oru.orders id = lifeIn s.oru.orders id := by
  cases k <;> simp [endDiscovery, reportStarted]

@[simp] theorem endDiscoveryIfSurveyed_life (s : State) :
    lifeIn (endDiscoveryIfSurveyed s).oru.orders id = lifeIn s.oru.orders id := by
  unfold endDiscoveryIfSurveyed
  split
  · split <;> simp
  · rfl

@[simp] theorem beginProbing_life (s : State) : lifeIn (beginProbing s).oru.orders id = lifeIn s.oru.orders id := by
  unfold beginProbing
  split <;> simp

@[simp] theorem beginDiscovery_orders (k : DiscoveryKind) (s : State) :
    (beginDiscovery k s).oru.orders = s.oru.orders := by
  unfold beginDiscovery pulseIfIdle
  cases k <;> dsimp only <;> split <;> simp

/-! ### The ends of exchanges (R91, R92) -/

/-- No LOADING locker refers to the order: its meal is not being loaded again. -/
def NotLoading (id : Nat) (s : State) : Prop :=
  ∀ n, (s.locker n).phase = .loading → (s.locker n).orderRef.getD 0 ≠ id

theorem pollEnded_life_le (n : Nat) (r : Option Observation) (m : Bool) (s : State) (hs : NotLoading id s) :
    lifeIn (pollEnded n r m s).oru.orders id ≤ lifeIn s.oru.orders id := by
  unfold pollEnded
  dsimp only
  rw [afterExchange_orders, endOfPoll_oru]
  split
  · exact goodPoll_life_le n _ _ (clearExchange s) (hs n)
  · rw [failedPoll_orders]
    exact le_rfl

@[simp] theorem probeEnded_life (n : Nat) (r : Option Observation) (m : Bool) (s : State) :
    lifeIn (probeEnded n r m s).oru.orders id = lifeIn s.oru.orders id := by
  unfold probeEnded endOfProbe
  dsimp only
  rw [afterExchange_orders, endDiscoveryIfSurveyed_life, State.withLtu_oru]
  split
  · simp [probeAnswered, tallyAnswered, clearExchange]
  · simp [probeFailed, countFailedPoll, clearExchange]

@[simp] theorem commandEnded_life (q : Nat) (o : CmdOutcome) (s : State) :
    lifeIn (commandEnded q o s).oru.orders id = lifeIn s.oru.orders id := by
  unfold commandEnded
  dsimp only
  rw [afterExchange_orders, endCommand_life]
  split <;> rfl

theorem attemptFailed_life_le (s : State) (hs : NotLoading id s) :
    lifeIn (attemptFailed s).oru.orders id ≤ lifeIn s.oru.orders id := by
  unfold attemptFailed
  split
  · split
    · exact le_rfl
    · exact pollEnded_life_le _ _ _ s hs
  · split
    · exact le_rfl
    · exact (probeEnded_life _ _ _ s).le
  · split
    · exact le_rfl
    · exact (commandEnded_life _ _ s).le
  · exact le_rfl

theorem attemptSucceeded_life_le (r : Reply) (s : State) (hs : NotLoading id s) :
    lifeIn (attemptSucceeded r s).oru.orders id ≤ lifeIn s.oru.orders id := by
  unfold attemptSucceeded
  split
  · exact pollEnded_life_le _ _ _ s hs
  · exact pollEnded_life_le _ _ _ s hs
  · exact (probeEnded_life _ _ _ s).le
  · exact (probeEnded_life _ _ _ s).le
  · exact (commandEnded_life _ _ s).le
  · exact le_rfl

/-! ### Requests of class ORDER (chapters 01 to 03) -/

/-- A booked order is not loaded (R40). -/
theorem serveBook_life (tag i code cls p bu de : Nat) (s : State) :
    lifeIn (serveBook tag i code cls p bu de s).oru.orders id = lifeIn s.oru.orders id := by
  have admitted (o : Order) (hh : o.hold = none) : lifeIn (admitOrder o s).oru.orders id = lifeIn s.oru.orders id :=
    lifeIn_admitted _ o hh
  unfold serveBook
  split
  · simp
  · split
    · simp
    · split
      · simp
      · dsimp only
        unfold bookAllocate
        split
        · rw [answer_oru, join_life, admitted _ rfl]
        · split
          · rw [answer_oru]
            exact admitted _ rfl
          · simp

theorem serveCancel_life_le (tag i : Nat) (s : State) :
    lifeIn (serveCancel tag i s).oru.orders id ≤ lifeIn s.oru.orders id := by
  have removed := removeOrder_life_le (id := id) i s
  unfold serveCancel
  split
  · simp
  · split
    · simp
    · split
      · rw [answer_oru]
        exact removed
      · unfold cancelPlaced
        dsimp only
        split
        · rw [answer_oru, announceFree_life, moveToUnlessExcluded, moveTo_orders]
          exact removed
        · simp
        · simp
        · simp
        · split
          · rw [answer_oru, State.modLocker_oru]
            exact removed
          all_goals simp
        · simp

/-- Under STRICT_HOLD no EXTEND is taken (R63). -/
theorem serveExtend_strict (tag i x : Nat) (s : State) (hs : s.sst.strictHold = true) :
    (serveExtend tag i x s).oru = s.oru := by
  unfold serveExtend
  split
  · simp
  · split
    · simp
    · split <;> simp

theorem takeDoorCommand_oru (r : CmdRequest) (tag n : Nat) (d : Door) (enter : State → State) (s : State)
    (he : ∀ x, (enter x).oru = x.oru) : (takeDoorCommand r tag n d enter s).oru = s.oru := by
  unfold takeDoorCommand
  split
  · simp
  · simp [he, addEntry]

theorem withPlacedOrder_oru (k : Kind) (tag i : Nat) (rest : Nat → State → State) (s : State)
    (hr : ∀ n, (rest n s).oru = s.oru) : (withPlacedOrder k tag i rest s).oru = s.oru := by
  unfold withPlacedOrder
  split
  · simp
  · split
    · simp
    · split
      · simp
      · exact hr _

/-- A door request does not touch the order it names (R13, R15, R17). -/
theorem serveLoadOpen_oru (tag i : Nat) (s : State) : (serveLoadOpen tag i s).oru = s.oru := by
  refine withPlacedOrder_oru _ _ _ _ s fun n => ?_
  split
  · simp
  · exact takeDoorCommand_oru _ _ _ _ _ s fun _ => rfl

theorem serveRelease_oru (tag i : Nat) (s : State) : (serveRelease tag i s).oru = s.oru := by
  refine withPlacedOrder_oru _ _ _ _ s fun n => ?_
  split
  · simp
  · exact takeDoorCommand_oru _ _ _ _ _ s fun _ => rfl

theorem serveClear_oru (tag i : Nat) (s : State) : (serveClear tag i s).oru = s.oru := by
  refine withPlacedOrder_oru _ _ _ _ s fun n => ?_
  split
  · simp
  · exact takeDoorCommand_oru _ _ _ _ _ s fun _ => rfl

theorem serveQueryOrder_oru (tag i : Nat) (s : State) : (serveQueryOrder tag i s).oru = s.oru := by
  unfold serveQueryOrder
  split
  · simp
  · split <;> simp

/-! ### Requests of class MODULE (chapter 06) -/

theorem servePosted_oru (k : Kind) (tag n : Nat) (ok : Bool) (c : PostedContent) (st : Status) (s : State) :
    (servePosted k tag n ok c st s).oru = s.oru := by
  unfold servePosted
  repeat' split
  all_goals simp [addPosted]

theorem serveModuleRead_oru (tag n item : Nat) (s : State) : (serveModuleRead tag n item s).oru = s.oru := by
  unfold serveModuleRead
  repeat' split
  all_goals simp [addEntry]

theorem serveAbort_life (tag target : Nat) (s : State) :
    lifeIn (serveAbort tag target s).oru.orders id = lifeIn s.oru.orders id := by
  unfold serveAbort
  split
  · split
    · rw [answer_oru, endConfirmed, completeEntry_oru, lockerCommandEnd_life]
    · simp
  · split <;> simp

/-! ### Requests of class MGMT (chapters 01, 06, 07, 09, 10) -/

@[simp] theorem layoutAccepted_life (n : Nat) (e : LayoutEntry) (s : State) :
    lifeIn (layoutAccepted n e s).oru.orders id = lifeIn s.oru.orders id := by
  unfold layoutAccepted
  dsimp only
  split
  · split
    · simp
    · split <;> simp
  · simp

theorem writeLayout_life (tag n p c f w : Nat) (s : State) :
    lifeIn (writeLayout tag n p c f w s).oru.orders id = lifeIn s.oru.orders id := by
  unfold writeLayout refuseWrite
  split
  · simp
  · split
    · split
      · simp
      · split <;> simp [answerWrite]
    · simp

theorem writeProfile_oru (tag i : Nat) (sp fl ov : Int) (c w g b : Nat) (s : State) :
    (writeProfile tag i sp fl ov c w g b s).oru = s.oru := by
  unfold writeProfile refuseWrite
  split
  · simp
  · split
    · simp
    · split <;> simp [answerWrite]

theorem writeFeed_oru (tag f n sh fo : Nat) (s : State) : (writeFeed tag f n sh fo s).oru = s.oru := by
  unfold writeFeed refuseWrite
  split
  · simp
  · split <;> simp [answerWrite]

theorem serveTableWrite_life (tag i : Nat) (r : TableRecord) (s : State) :
    lifeIn (serveTableWrite tag i r s).oru.orders id = lifeIn s.oru.orders id := by
  cases r with
  | layout p c f w => exact writeLayout_life _ _ _ _ _ _ s
  | profile sp fl ov c w g b =>
    show lifeIn (writeProfile _ _ _ _ _ _ _ _ _ s).oru.orders id = _
    rw [writeProfile_oru]
  | feed n sh fo =>
    show lifeIn (writeFeed _ _ _ _ _ s).oru.orders id = _
    rw [writeFeed_oru]

theorem serveTableRead_oru (tag a i : Nat) (s : State) : (serveTableRead tag a i s).oru = s.oru := by
  unfold serveTableRead
  split <;> simp

theorem serveParamGet_oru (tag p : Nat) (s : State) : (serveParamGet tag p s).oru = s.oru := by
  unfold serveParamGet
  split <;> simp

theorem serveParamSet_life (tag p v : Nat) (s : State) :
    lifeIn (serveParamSet tag p v s).oru.orders id = lifeIn s.oru.orders id := by
  have acts (x : Bool) (y : State) : lifeIn (paramActs p x y).oru.orders id = lifeIn y.oru.orders id := by
    unfold paramActs
    split
    · exact foldl_life _ (fun z n => by rw [examineDoorHeld_oru]) _ y
    · split <;> simp
    all_goals simp
  unfold serveParamSet
  split
  · simp
  · split
    · unfold writeStrictHold
      split <;> simp
    · rw [answer_oru, acts, State.setParams_oru]

theorem serveStore_oru (tag : Nat) (s : State) : (serveStore tag s).oru = s.oru := by
  unfold serveStore
  split <;> simp [beginStore, acceptLongOp]

theorem serveRescan_orders (tag : Nat) (s : State) : (serveRescan tag s).oru.orders = s.oru.orders := by
  unfold serveRescan
  split
  · simp
  · split <;> simp [acceptLongOp]

theorem serveBankReset_orders (tag : Nat) (s : State) : (serveBankReset tag s).oru.orders = s.oru.orders := by
  unfold serveBankReset
  split <;> simp [acceptLongOp]

theorem serveServiceOn_orders (tag n : Nat) (s : State) : (serveServiceOn tag n s).oru.orders = s.oru.orders := by
  unfold serveServiceOn
  split
  · simp
  · split
    · split <;> simp
    · simp

theorem serveServiceOff_orders (tag n : Nat) (s : State) : (serveServiceOff tag n s).oru.orders = s.oru.orders := by
  unfold serveServiceOff
  split
  · simp
  · dsimp only
    split
    · simp
    · split <;> simp

theorem serveServiceUnlatch_oru (tag n d : Nat) (s : State) : (serveServiceUnlatch tag n d s).oru = s.oru := by
  unfold serveServiceUnlatch
  split
  · simp
  · split
    · simp
    · split
      · simp
      · exact takeDoorCommand_oru _ _ _ _ _ s fun _ => rfl

theorem serveClearLocker_oru (tag n : Nat) (s : State) : (serveClearLocker tag n s).oru = s.oru := by
  unfold serveClearLocker
  split
  · simp
  · split
    · simp
    · exact takeDoorCommand_oru _ _ _ _ _ s fun _ => rfl

/-- RESTART reverts reservations at LTU; no order is touched (R130). -/
theorem serveRestart_oru (tag : Nat) (s : State) : (serveRestart tag s).oru = s.oru := by
  have reported (rs : List (Option Nat × Nat)) (x : State) : (reportDiscarded rs x).oru = x.oru := by
    unfold reportDiscarded
    induction rs generalizing x with
    | nil => rfl
    | cons r rs ih => rw [List.foldl_cons, ih, reportRefused, submit_oru]
  unfold serveRestart
  split
  · simp
  · rw [reported, submitReportsLost_oru, answer_oru, restartCommands_eq, State.withTxu_oru,
      discardFound_plainEnd.foldl_oru, State.withLki_oru]

/-! ### Every request -/

/-- No request but EXTEND raises a life, and none does under STRICT_HOLD (R65). -/
theorem serveRequest_life_le (i : Instr) (s : State)
    (hi : s.sst.strictHold = true ∨ ∀ tag x n, i ≠ .extend tag x n) :
    lifeIn (serveRequest i s).oru.orders id ≤ lifeIn s.oru.orders id := by
  have same {v : State} (h : v.oru.orders = s.oru.orders) : lifeIn v.oru.orders id ≤ lifeIn s.oru.orders id := by
    rw [h]
  have oru {v : State} (h : v.oru = s.oru) := same (congrArg Oru.orders h)
  cases i with
  | book => exact (serveBook_life _ _ _ _ _ _ _ s).le
  | cancel => exact serveCancel_life_le _ _ s
  | extend tag x n =>
    rcases hi with hs | hx
    · exact oru (serveExtend_strict tag x n s hs)
    · exact absurd rfl (hx tag x n)
  | loadOpen => exact oru (serveLoadOpen_oru _ _ s)
  | release => exact oru (serveRelease_oru _ _ s)
  | clear => exact oru (serveClear_oru _ _ s)
  | queryOrder => exact oru (serveQueryOrder_oru _ _ s)
  | lamp => exact oru (servePosted_oru _ _ _ _ _ _ s)
  | label => exact oru (servePosted_oru _ _ _ _ _ _ s)
  | moduleWrite => exact oru (servePosted_oru _ _ _ _ _ _ s)
  | moduleRead => exact oru (serveModuleRead_oru _ _ _ s)
  | abort => exact (serveAbort_life _ _ s).le
  | tableRead => exact oru (serveTableRead_oru _ _ _ s)
  | tableWrite => exact (serveTableWrite_life _ _ _ s).le
  | paramGet => exact oru (serveParamGet_oru _ _ s)
  | paramSet => exact (serveParamSet_life _ _ _ s).le
  | store => exact oru (serveStore_oru _ s)
  | rescan => exact same (serveRescan_orders _ s)
  | bankReset => exact same (serveBankReset_orders _ s)
  | serviceOn => exact same (serveServiceOn_orders _ _ s)
  | serviceOff => exact same (serveServiceOff_orders _ _ s)
  | serviceUnlatch => exact oru (serveServiceUnlatch_oru _ _ _ s)
  | clearLocker => exact oru (serveClearLocker_oru _ _ s)
  | status => exact oru (answer_oru _ _ _ _ s)
  | restart => exact oru (serveRestart_oru _ s)
  | _ => exact le_rfl

theorem takeRequest_life_le (serve : State → State) (s : State)
    (hs : lifeIn (serve s.accepted).oru.orders id ≤ lifeIn s.accepted.oru.orders id) :
    lifeIn (takeRequest serve s).oru.orders id ≤ lifeIn s.oru.orders id := by
  unfold takeRequest
  split
  · simp
  · simpa using hs

/-- A byte can bring an EXTEND, so that it raises no life only under STRICT_HOLD (R133, R65). -/
theorem receive_life_le (b : Byte) (s : State) (hs : s.sst.strictHold = true) :
    lifeIn (receive b s).oru.orders id ≤ lifeIn s.oru.orders id := by
  have frame (bytes : List Byte) (check : Nat) :
      lifeIn (completeFrame bytes check s).oru.orders id ≤ lifeIn s.oru.orders id := by
    unfold completeFrame
    dsimp only
    split
    · simp
    · split
      · refine takeRequest_life_le _ (s.setRx .hunt none) ?_
        unfold serveFrame
        split
        · exact serveRequest_life_le _ _ (.inl (by simpa using hs))
        · simp
        · simp
      · simp
  unfold receive
  split
  · split <;> simp
  · split <;> simp
  · dsimp only
    split <;> simp
  · simp
  · exact frame _ _

/-! ### The panel (R156 to R162) -/

theorem takeScan_oru (chars : List Nat) (s : State) : (takeScan chars s).oru = s.oru := by
  have refused (m : PanelMessage) (c : PanelCause) (i n : Option Nat) : (refuseScan m c i n s).oru = s.oru := by
    simp [refuseScan, reportRefused, display]
  have unknown : (countUnknown s).oru = s.oru := by
    unfold countUnknown
    split <;> simp [display]
  have release (i n : Nat) : (panelRelease i n s).oru = s.oru := by
    unfold panelRelease
    split
    · exact refused _ _ _ _
    · split
      · simp [addEntry]
      · exact refused _ _ _ _
  have decided (o : Order) : (decideScan o s).oru = s.oru := by
    unfold decideScan
    split
    · exact refused _ _ _ _
    · split
      · exact refused _ _ _ _
      · split
        · exact refused _ _ _ _
        · split
          · exact refused _ _ _ _
          · exact release _ _
  unfold takeScan
  split
  · exact refused _ _ _ _
  · split
    · exact refused _ _ _ _
    · split
      · exact refused _ _ _ _
      · split
        · exact unknown
        · split
          · exact unknown
          · exact decided _

/-! ### Every command -/

/-- The outcome of a command, if it is a next state, gives the order `id` no life above its own. -/
def NoHigherLife (id : Nat) (s : State) (o : Host.Outcome State Fault Refusal) : Prop :=
  ∀ t, o = .next t → lifeIn t.oru.orders id ≤ lifeIn s.oru.orders id

theorem noHigherLife_next (h : lifeIn t.oru.orders id ≤ lifeIn s.oru.orders id) : NoHigherLife id s (.next t) := by
  rintro _ ⟨⟩
  exact h

theorem noHigherLife_same (h : t.oru.orders = s.oru.orders) : NoHigherLife id s (.next t) :=
  noHigherLife_next (by rw [h])

theorem execGapTimerExpiry_life (s : State) : NoHigherLife id s (execGapTimerExpiry s) := by
  unfold execGapTimerExpiry
  dsimp only
  split <;> exact noHigherLife_same (by simp)

theorem execSilenceTimerExpiry_life (s : State) : NoHigherLife id s (execSilenceTimerExpiry s) := by
  unfold execSilenceTimerExpiry
  dsimp only
  split
  · exact noHigherLife_same rfl
  · split <;> exact noHigherLife_same rfl

theorem execTransmitEnd_life (s : State) : NoHigherLife id s (execTransmitEnd s) := by
  unfold execTransmitEnd
  dsimp only
  split <;> exact noHigherLife_same (by simp)

theorem execWindowTimerExpiry_life (s : State) : NoHigherLife id s (execWindowTimerExpiry s) := by
  unfold execWindowTimerExpiry
  dsimp only
  split <;> exact noHigherLife_same rfl

theorem execLockoutTimerExpiry_life (s : State) : NoHigherLife id s (execLockoutTimerExpiry s) := by
  unfold execLockoutTimerExpiry
  dsimp only
  split <;> exact noHigherLife_same rfl

theorem execPollGapTimerExpiry_life (s : State) : NoHigherLife id s (execPollGapTimerExpiry s) := by
  unfold execPollGapTimerExpiry
  dsimp only
  split <;> exact noHigherLife_same (by simp)

theorem execDoorHeld_life (n : Nat) (s : State) : NoHigherLife id s (execDoorHeld n s) := by
  unfold execDoorHeld
  dsimp only
  split <;> exact noHigherLife_same (by simp)

theorem execPulseEnd_life (s : State) : NoHigherLife id s (execPulseEnd s) := by
  unfold execPulseEnd
  dsimp only
  split <;> exact noHigherLife_same rfl

theorem execStoreEnd_life (x : Bool) (s : State) : NoHigherLife id s (execStoreEnd x s) := by
  unfold execStoreEnd
  dsimp only
  split <;> exact noHigherLife_same (by simp [finishStore])

theorem execBroadcastEnd_life (s : State) : NoHigherLife id s (execBroadcastEnd s) := by
  unfold execBroadcastEnd
  dsimp only
  split <;> exact noHigherLife_same (by simp [endBroadcast])

theorem execHoldTick_life (s : State) : NoHigherLife id s (execHoldTick s) := by
  unfold execHoldTick
  dsimp only
  split
  · exact noHigherLife_same rfl
  · refine noHigherLife_next ?_
    rw [chooseTransmit_oru]
    exact holdTick_life_le _

theorem execFrameStart_life (l0 l1 l2 l3 : Bool) (s : State) : NoHigherLife id s (execFrameStart l0 l1 l2 l3 s) := by
  unfold execFrameStart
  dsimp only
  split
  · exact noHigherLife_same rfl
  · exact noHigherLife_next (by simp)

theorem execQuietEnd_life (s : State) : NoHigherLife id s (execQuietEnd s) := by
  have notice (x : State) : lifeIn (endNotice x).oru.orders id = lifeIn x.oru.orders id := by
    unfold endNotice
    split
    · simp
    · split <;> simp
  unfold execQuietEnd
  dsimp only
  split
  · refine noHigherLife_next ?_
    rw [chooseTransmit_oru, chooseBus_oru, cycleAfterQuiet_oru, notice]
    exact le_rfl
  · exact noHigherLife_same rfl

theorem execReplyReceived_life (frame : List Byte) (s : State) (hs : NotLoading id s) :
    NoHigherLife id s (execReplyReceived frame s) := by
  unfold execReplyReceived
  dsimp only
  split
  · exact noHigherLife_same rfl
  · split
    · refine noHigherLife_next ?_
      rw [chooseTransmit_oru]
      exact attemptSucceeded_life_le _ s.clearPorts hs
    · refine noHigherLife_next ?_
      rw [chooseTransmit_oru]
      exact attemptFailed_life_le s.clearPorts hs

theorem execReplyTimeout_life (s : State) (hs : NotLoading id s) : NoHigherLife id s (execReplyTimeout s) := by
  unfold execReplyTimeout
  dsimp only
  split
  · refine noHigherLife_next ?_
    rw [chooseTransmit_oru]
    exact attemptFailed_life_le s.clearPorts hs
  · exact noHigherLife_same rfl

/-- A command raises no life, EXTEND and a byte that may complete one apart, which raise none under STRICT_HOLD. -/
theorem exec_life (i : Instr) (s : State)
    (hi : s.sst.strictHold = true ∨ ((∀ tag x n, i ≠ .extend tag x n) ∧ ∀ b, i ≠ .receiveByte b))
    (hs : NotLoading id s) : NoHigherLife id s (exec i s) := by
  by_cases request : IsRequest i
  · rw [exec_request i s request]
    refine noHigherLife_next (takeRequest_life_le _ s (serveRequest_life_le i s.accepted ?_))
    rw [accepted_sst]
    exact hi.imp_right And.left
  cases i with
  | receiveByte b =>
    rcases hi with strict | ⟨-, other⟩
    · exact noHigherLife_next (receive_life_le b s.clearPorts strict)
    · exact absurd rfl (other b)
  | gapTimerExpiry => exact execGapTimerExpiry_life s
  | silenceTimerExpiry => exact execSilenceTimerExpiry_life s
  | transmitEnd => exact execTransmitEnd_life s
  | scan chars => exact noHigherLife_same (by rw [chooseTransmit_oru, takeScan_oru]; rfl)
  | windowTimerExpiry => exact execWindowTimerExpiry_life s
  | lockoutTimerExpiry => exact execLockoutTimerExpiry_life s
  | powerOn l0 l1 l2 l3 =>
    refine noHigherLife_next ?_
    rw [beginDiscovery_orders]
    exact bot_le
  | holdTick => exact execHoldTick_life s
  | frameStart l0 l1 l2 l3 => exact execFrameStart_life l0 l1 l2 l3 s
  | pollGapTimerExpiry => exact execPollGapTimerExpiry_life s
  | doorHeld n => exact execDoorHeld_life n s
  | pulseEnd => exact execPulseEnd_life s
  | quietEnd => exact execQuietEnd_life s
  | storeEnd x => exact execStoreEnd_life x s
  | replyReceived f => exact execReplyReceived_life f s hs
  | replyTimeout => exact execReplyTimeout_life s hs
  | broadcastEnd => exact execBroadcastEnd_life s
  | _ => exact absurd rfl request

/-- Settles O15: no act but EXTEND and the end of LOADING gives an order a life above its own. -/
theorem holdLifeRisesOnlyByExtend : Obligations.HoldLifeRisesOnlyByExtend := by
  intro c s t id o o' h h' hid hloading hc ho hh ht ho' hh'
  have notLoading : NotLoading id s := by
    intro n hp
    have other := hloading n hp
    cases hr : (s.locker n).orderRef with
    | none => exact Ne.symm hid
    | some i =>
      rw [hr] at other
      simpa using other
  have life := exec_life c s hc notLoading t ht
  rw [lifeIn_of_order ho hh, lifeIn_of_order ho' hh'] at life
  exact WithBot.coe_le_coe.mp life

end Sys2Proof.Proofs

/-! ## EXTEND and the writes of profiles and feeds (R53, R63 to R65, R170, R172) -/

namespace Sys2Proof.Proofs

open Sys2Proof.Machine

variable {s : State}

/-! ### EXTEND (R63 to R65) -/

/-- The checks of R63, in order. -/
theorem serveExtend_checks (tag id x : Nat) (s : State) :
    (s.discovering = true → serveExtend tag id x s = answer kExtend tag .busy [] s) ∧
      (s.discovering = false → ¬ (1 ≤ x ∧ x ≤ 3600) →
        serveExtend tag id x s = answer kExtend tag .badArgument [] s) ∧
      (s.discovering = false → 1 ≤ x ∧ x ≤ 3600 → s.order? id = none →
        serveExtend tag id x s = answer kExtend tag .unknownOrder [] s) ∧
      ∀ o, s.discovering = false → 1 ≤ x ∧ x ≤ 3600 → s.order? id = some o →
        serveExtend tag id x s =
          if s.sst.strictHold then answer kExtend tag .strict [] s
          else if o.condemned.isSome then answer kExtend tag .tooLate [] s
          else applyExtend tag x o s := by
  have outside : (x = 0 ∨ 3600 < x) ↔ ¬ (1 ≤ x ∧ x ≤ 3600) := by omega
  unfold serveExtend
  simp only [outside]
  refine ⟨fun hd => if_pos hd, fun hd hx => ?_, fun hd hx ho => ?_, fun o hd hx ho => ?_⟩
  · rw [if_neg (by simp [hd]), if_pos hx]
  · rw [if_neg (by simp [hd]), if_neg (not_not.mpr hx), ho]
  · rw [if_neg (by simp [hd]), if_neg (not_not.mpr hx), ho]

/-- Settles O29. -/
theorem extendByRule : Obligations.ExtendByRule := by
  refine ⟨fun tag id x o s h hd hlow hhigh ho hs hc => ?_, fun tag id x s h => ?_⟩
  · intro a raised
    have found : a.order? id = some o := by simpa [a] using ho
    have served : exec (.extend tag id x) s = .next (chooseTransmit (applyExtend tag x o a)) := by
      obtain ⟨-, -, -, known⟩ := serveExtend_checks tag id x a
      rw [exec_served (.extend tag id x) s rfl h, serveRequest, known o (accepted_quiet hd) ⟨hlow, hhigh⟩ found]
      simp [a, hs, hc]
    have written (f : Order → Order) : a.modOrder o.id f = raised f := by
      simp only [s.order_id id o ho, State.modOrder, raised, a, accepted_oru]
    refine ⟨fun hh => ?_, fun y hy => ?_⟩
    · rw [served]
      simp only [applyExtend, hh, written]
    · rw [served]
      simp only [applyExtend, hy, written, extendHold, a, accepted_profile]
  · intro refused inRange
    obtain ⟨busy, outside, unknown, known⟩ := serveExtend_checks tag id x s.accepted
    have answered (st : Status) (hst : serveExtend tag id x s.accepted = answer kExtend tag st [] s.accepted) :
        refused st :=
      exec_answered (.extend tag id x) kExtend tag st [] s h rfl hst
    have quiet (hd : s.ltu.discovery = none) : s.accepted.discovering = false := accepted_quiet hd
    refine ⟨fun hd => answered _ (busy ?_), fun hd hx => answered _ (outside (quiet hd) hx),
      fun hd hx ho => answered _ (unknown (quiet hd) hx ?_), fun hd hx ho hs => answered _ ?_,
      fun o hd hx ho hs hc => answered _ ?_⟩
    · simpa [State.discovering, Option.isSome_iff_ne_none] using hd
    · simpa using ho
    · obtain ⟨o, ho⟩ := Option.ne_none_iff_exists'.mp ho
      rw [known o (quiet hd) hx (by simpa using ho), if_pos (by simpa using hs)]
    · rw [known o (quiet hd) hx (by simpa using ho), if_neg (by simp [hs]),
        if_pos (Option.isSome_iff_ne_none.mpr hc)]

/-! ### PROFILE and FEED writes (R53, R170, R172) -/

/-- An accepted write is answered OK where the record holds what was written, else OK_CLAMPED (R170). -/
theorem answerWrite_eq (tag table index : Nat) (clamped : Bool) (asWritten : Prop) [Decidable asWritten]
    (record : List Field) (s : State) (hc : clamped = true ↔ ¬ asWritten) :
    answerWrite tag table index clamped record s =
      answer kTableWrite tag (if asWritten then .ok else .okClamped) ([.b1 table, .b1 index] ++ record) s := by
  unfold answerWrite
  by_cases he : asWritten
  · rw [if_pos he, if_neg (by simp [hc, he])]
  · rw [if_neg he, if_pos (hc.mpr he)]

/-- An accepted PROFILE write: each field in its range (R53). -/
theorem writeProfile_taken (tag i : Nat) (S F O : Int) (cold warn gain base : Nat) (s : State) (hi : i ≤ 7)
    (hs : (s.sst.strictHold && profileNamed s i) = false) (ho : -400 < F ∧ F < S ∧ S < O ∧ O ≤ 1200) :
    let p : Profile := ⟨S, F, O, max 30 (min cold 1800), min warn 3600, min gain 255, min base 20⟩
    writeProfile tag i S F O cold warn gain base s =
      answer kTableWrite tag
        (if p.coldLimit = cold ∧ p.warn = warn ∧ p.gain = gain ∧ p.base = base then .ok else .okClamped)
        ([.b1 1, .b1 i] ++ p.fields)
        (s.withWorking { s.sst.working with profiles := vset s.sst.working.profiles i p }) := by
  unfold writeProfile
  rw [if_neg (Nat.not_lt.mpr hi), if_neg (by simp [hs]), if_pos ho]
  dsimp only
  rw [answerWrite_eq _ _ _ _ (clamp 30 1800 cold = cold ∧ clamp 0 3600 warn = warn ∧ clamp 0 255 gain = gain ∧
    clamp 0 20 base = base) _ _ (by simp only [Bool.or_eq_true, decide_eq_true_eq, ne_eq, not_and_or, or_assoc])]
  simp only [clamp, Nat.zero_max]

theorem boolOf_bit (v : Nat) (hv : v ≤ 1) : boolOf v = some (decide (v = 1)) := by
  rcases Nat.le_one_iff_eq_zero_or_eq_one.mp hv with rfl | rfl <;> rfl

/-- An accepted FEED write: the budgets in range, in steps of 10 W (R170, R172). -/
theorem writeFeed_taken (tag f normal shed force : Nat) (s : State) (hf : f ≤ 3) (hb : force ≤ 1) :
    let tens (w : Nat) : Nat := min w 12000 / 10 * 10
    writeFeed tag f normal shed force s =
      answer kTableWrite tag (if tens normal = normal ∧ tens shed = shed then .ok else .okClamped)
        [.b1 2, .b1 f, .b2 (tens normal), .b2 (tens shed), .b1 force]
        (s.withWorking { s.sst.working with
          feeds := vset s.sst.working.feeds f ⟨tens normal, tens shed, decide (force = 1)⟩ }) := by
  have sent : Field.flag (decide (force = 1)) = .b1 force := by
    rcases Nat.le_one_iff_eq_zero_or_eq_one.mp hb with rfl | rfl <;> rfl
  unfold writeFeed
  rw [if_neg (Nat.not_lt.mpr hf), boolOf_bit force hb]
  simp only [clampTens, clamp, Nat.zero_max]
  rw [answerWrite_eq _ _ _ _ (min normal 12000 / 10 * 10 = normal ∧ min shed 12000 / 10 * 10 = shed) _ _
    (by simp only [Bool.or_eq_true, decide_eq_true_eq, ne_eq, not_and_or]), FeedEntry.fields, sent]
  rfl

/-- The working settings of a frame's state are those it found. -/
theorem accepted_withWorking (w : Settings) (s : State) :
    s.accepted.withWorking w = { s.accepted with sst := { s.sst with working := w } } := by
  rw [State.withWorking, State.withSst, accepted_sst]

/-- Settles O41. -/
theorem profileAndFeedWritesByRule : Obligations.ProfileAndFeedWritesByRule := by
  refine ⟨fun tag i S F O cold warn gain base s h => ?_, fun tag f normal shed force s h => ?_⟩
  · intro a c refused strict inOrder p
    have answered (st : Status) (body : List Field) (t : State)
        (hst : writeProfile tag i S F O cold warn gain base a = answer kTableWrite tag st body t) :
        exec c s = .next (chooseTransmit (answer kTableWrite tag st body t)) :=
      (exec_served c s rfl h).trans (congrArg (fun u => Host.Outcome.next (chooseTransmit u)) hst)
    have held : (a.sst.strictHold && profileNamed a i) = true ↔ strict := by
      simp [a, strict, profileNamed]
    refine ⟨fun hi => answered _ _ _ (if_pos hi), fun hi hs => answered _ _ _ ?_, fun hi hs ho => answered _ _ _ ?_,
      fun hi hs ho => answered _ _ _ ?_⟩
    · rw [writeProfile, if_neg (Nat.not_lt.mpr hi), if_pos (held.mpr hs), refuseWrite]
    · rw [writeProfile, if_neg (Nat.not_lt.mpr hi), if_neg (mt held.mp hs), if_neg ho, refuseWrite]
    · rw [writeProfile_taken tag i S F O cold warn gain base a hi (Bool.not_eq_true _ ▸ mt held.mp hs) ho,
        accepted_withWorking, accepted_sst]
      rfl
  · intro a c tens
    have served : exec c s = .next (chooseTransmit (writeFeed tag f normal shed force a)) := exec_served c s rfl h
    refine ⟨fun hr => ?_, fun hf hb => ?_⟩
    · rw [served, writeFeed]
      rcases hr with hf | hb
      · rw [if_pos hf, refuseWrite]
      · rw [boolOf_none force hb, ite_self, refuseWrite]
    · rw [served, writeFeed_taken tag f normal shed force a hf hb, accepted_withWorking, accepted_sst]

end Sys2Proof.Proofs

/-! ## The two laws of the fill (R69, R72, R81, R87) -/

namespace Sys2Proof.Proofs

open Sys2Proof.Machine

variable {s t u : State} {demands : List Nat}

/-! ### The feeds as latched for the frame (R72) -/

/-- Whether a feed is shed by its line or by FORCE_SHED (R72). -/
def shedNow (s : State) (f : Nat) : Bool := vget s.shedLines f false || (s.feedEntry f).force

/-- The budget of a feed by its shed state (R72). -/
def budgetNow (s : State) (f : Nat) : Nat :=
  if shedNow s f then (s.feedEntry f).shed else (s.feedEntry f).normal

theorem latchFeed_onlyLink (f : Nat) (s : State) : OnlyLink (feedLatched f s) (latchFeed f s) := by
  rw [latchFeed_eq]
  split
  · exact submit_onlyLink _ _ _
  · split
    · exact submit_onlyLink _ _ _
    · exact rfl

/-- `t` is `s` with the shed state and the budget of the feeds `fs` latched; what they are latched from, and the frame
timer, stay. -/
structure FeedsLatched (fs : List Nat) (s t : State) : Prop where
  sst : t.sst = s.sst
  shedLines : t.shedLines = s.shedLines
  frameTimer : t.hta.frameTimer = s.hta.frameTimer
  isShed : ∀ g, g < 4 → t.isShed g = if g ∈ fs then shedNow s g else s.isShed g
  budget : ∀ g, g < 4 → t.budget g = if g ∈ fs then budgetNow s g else s.budget g

theorem FeedsLatched.shedNow_eq {fs : List Nat} (h : FeedsLatched fs s t) (g : Nat) : shedNow t g = shedNow s g := by
  unfold shedNow State.feedEntry
  rw [h.shedLines, h.sst]

theorem FeedsLatched.budgetNow_eq {fs : List Nat} (h : FeedsLatched fs s t) (g : Nat) :
    budgetNow t g = budgetNow s g := by
  unfold budgetNow State.feedEntry
  rw [h.shedNow_eq, h.sst]

theorem feedLatched_latched (f : Nat) (s : State) : FeedsLatched [f] s (feedLatched f s) := by
  have latched {α : Type} (v : Vector α 4) (x : Nat → α) (d : α) (g : Nat) (hg : g < 4) :
      vget (vset v f (x f)) g d = if g ∈ [f] then x g else vget v g d := by
    by_cases h : g = f
    · subst h
      rw [vget_vset_same _ _ _ _ hg, if_pos List.mem_cons_self]
    · rw [vget_vset_ne _ _ _ _ _ h, if_neg (mt List.mem_singleton.mp h)]
  exact ⟨rfl, rfl, rfl, latched _ (shedNow s) _, latched _ (budgetNow s) _⟩

theorem latchFeed_latched (f : Nat) (s : State) : FeedsLatched [f] s (latchFeed f s) := by
  have link := latchFeed_onlyLink f s
  obtain ⟨sst, lines, timer, isShed, budget⟩ := feedLatched_latched f s
  exact ⟨link.sst.trans sst, link.shedLines.trans lines, (congrArg Hta.frameTimer link.hta).trans timer,
    fun g hg => (link.isShed g).trans (isShed g hg), fun g hg => (link.budget g).trans (budget g hg)⟩

theorem foldl_latchFeed_latched (fs : List Nat) (s : State) :
    FeedsLatched fs s (fs.foldl (fun s f => latchFeed f s) s) := by
  induction fs generalizing s with
  | nil => exact ⟨rfl, rfl, rfl, fun _ _ => by simp, fun _ _ => by simp⟩
  | cons f rest ih =>
    have first := latchFeed_latched f s
    have later := ih (latchFeed f s)
    refine ⟨later.sst.trans first.sst, later.shedLines.trans first.shedLines,
      later.frameTimer.trans first.frameTimer, fun g hg => ?_, fun g hg => ?_⟩
    · rw [List.foldl_cons, later.isShed g hg, first.isShed g hg, first.shedNow_eq]
      simp only [List.mem_cons, List.not_mem_nil, or_false]
      split <;> simp [*]
    · rw [List.foldl_cons, later.budget g hg, first.budget g hg, first.budgetNow_eq]
      simp only [List.mem_cons, List.not_mem_nil, or_false]
      split <;> simp [*]

theorem latchFeeds_latched (s : State) : FeedsLatched [0, 1, 2, 3] s (latchFeeds s) := foldl_latchFeed_latched _ s

theorem mem_feeds (f : Nat) : f ∈ [0, 1, 2, 3] ↔ f < 4 := by
  simp only [List.mem_cons, List.not_mem_nil, or_false]
  omega

theorem latchFeeds_isShed (s : State) (f : Nat) (hf : f < 4) : (latchFeeds s).isShed f = shedNow s f := by
  rw [(latchFeeds_latched s).isShed f hf, if_pos ((mem_feeds f).mpr hf)]

theorem latchFeeds_budget (s : State) (f : Nat) (hf : f < 4) : (latchFeeds s).budget f = budgetNow s f := by
  rw [(latchFeeds_latched s).budget f hf, if_pos ((mem_feeds f).mpr hf)]

/-! ### Demand is at most 20 (R75 to R77) -/

theorem profileDemand_le (p : Profile) (sample : Option Int) : profileDemand p sample ≤ 20 := by
  cases sample with
  | none => exact Nat.min_le_right _ _
  | some temp =>
    rw [profileDemand, Int.toNat_le]
    exact max_le (by decide) (min_le_left _ _)

theorem demandOf_le (done : List Nat) (s : State) (n : Nat) : demandOf done s n ≤ 20 := by
  have held : (match heldOrder s (s.locker n) with
      | some o => if o.condemned.isSome then 0 else profileDemand (s.profile o.profile) (freshSample s (s.locker n))
      | none => 0) ≤ 20 := by
    split
    · split
      · omega
      · exact profileDemand_le _ _
    · omega
  unfold demandOf
  dsimp only
  split
  · omega
  · split
    · exact held
    · exact held
    · exact held
    · split <;> omega
    · omega

/-! ### One locker's turn (R80) -/

/-- A turn of a locker of power `p` within the budget `b` that takes the slots `new`: each grant adds the power to its
slot, no slot goes over the budget, no more than `d` slots are taken. -/
structure Turn (p b d : Nat) (loads loads' new : List Nat) : Prop where
  size : loads'.length = loads.length
  adds : ∀ k, loads'.getD k 0 = loads.getD k 0 + p * new.count k
  within : ∀ k, loads.getD k 0 ≤ b → loads'.getD k 0 ≤ b
  few : new.length ≤ d

theorem Turn.idle (p b d : Nat) (loads : List Nat) : Turn p b d loads loads [] :=
  ⟨rfl, fun _ => by simp, fun _ h => h, Nat.zero_le d⟩

theorem getD_set (xs : List Nat) (i x k : Nat) (hi : i < xs.length) :
    (xs.set i x).getD k 0 = if k = i then x else xs.getD k 0 := by
  by_cases h : k = i
  · simp [h, hi]
  · simp [h, List.getD_eq_getElem?_getD, Ne.symm h]

/-- A slot granted while its load stays within the budget, before the rest of the turn. -/
theorem Turn.grant {p b d cur : Nat} {loads loads' new : List Nat} (hcur : cur < loads.length)
    (room : loads.getD cur 0 + p ≤ b) (rest : Turn p b d (loads.set cur (loads.getD cur 0 + p)) loads' new) :
    Turn p b (d + 1) loads loads' (cur :: new) := by
  refine ⟨by simpa using rest.size, fun k => ?_, fun k hk => rest.within k ?_, by simpa using rest.few⟩
  · rw [rest.adds, getD_set _ _ _ _ hcur]
    by_cases h : k = cur
    · subst h
      rw [if_pos rfl, List.count_cons_self, Nat.mul_add_one]
      omega
    · rw [if_neg h, List.count_cons_of_ne (Ne.symm h)]
  · rw [getD_set _ _ _ _ hcur]
    split
    · exact room
    · exact hk

theorem fillSlots_turn (p b k d cur : Nat) (loads got : List Nat) (hcur : cur < 20) (size : loads.length = 20) :
    ∃ new, Turn p b d loads (fillSlots p b k d cur loads got).2.1 new ∧
      (fillSlots p b k d cur loads got).2.2 = got ++ new ∧ (fillSlots p b k d cur loads got).1 < 20 := by
  induction k generalizing d cur loads got with
  | zero => exact ⟨[], Turn.idle .., by simp [fillSlots], hcur⟩
  | succ k ih =>
    have next : (cur + 1) % 20 < 20 := Nat.mod_lt _ (by decide)
    cases d with
    | zero => exact ⟨[], Turn.idle .., by simp [fillSlots], hcur⟩
    | succ d =>
      obtain ⟨-, -, step⟩ := fillSlots_step p b k d cur loads got
      rw [step]
      split
      case isTrue room =>
        obtain ⟨new, turn, slots, cursor⟩ :=
          ih d _ (loads.set cur (loads.getD cur 0 + p)) (got ++ [cur]) next (by simpa using size)
        exact ⟨cur :: new, turn.grant (size ▸ hcur) room,
          by rw [slots, List.append_assoc, List.singleton_append], cursor⟩
      case isFalse => exact ih (d + 1) _ loads got next size

/-! ### The fill of a feed (R80) -/

/-- The rated powers of the lockers granted a slot. -/
def slotPower (s : State) (grants : List (Nat × List Nat)) (k : Nat) : Nat :=
  ((grants.filter fun g => g.2.contains k).map fun g => (s.locker g.1).power).sum

/-- A fill that keeps the two laws: each slot's load covers what is granted in it and is within the budget, no locker
is granted more than its demand. -/
structure FillKeeps (s : State) (demands : List Nat) (b : Nat) (x : Fill) : Prop where
  cursor : x.cursor < 20
  size : x.loads.length = 20
  covers : ∀ k, slotPower s x.grants k ≤ x.loads.getD k 0
  within : ∀ k, x.loads.getD k 0 ≤ b
  demanded : ∀ g ∈ x.grants, g.2.length ≤ demands.getD g.1 0

theorem start_keeps (s : State) (demands : List Nat) (b : Nat) : FillKeeps s demands b Fill.start := by
  have empty (k : Nat) : Fill.start.loads.getD k 0 = 0 := by
    simp only [Fill.start, List.getD_eq_getElem?_getD, List.getElem?_replicate]
    split <;> rfl
  exact ⟨by decide, rfl, fun _ => Nat.zero_le _, fun k => by rw [empty]; exact Nat.zero_le b,
    fun g hg => absurd hg List.not_mem_nil⟩

theorem slotPower_append (s : State) (grants : List (Nat × List Nat)) (n : Nat) (slots : List Nat) (k : Nat) :
    slotPower s (grants ++ [(n, slots)]) k =
      slotPower s grants k + if slots.contains k then (s.locker n).power else 0 := by
  unfold slotPower
  rw [List.filter_append, List.map_append, List.sum_append]
  split <;> simp_all

theorem fillLocker_keeps {b : Nat} {x : Fill} (h : FillKeeps s demands b x) (n : Nat) :
    FillKeeps s demands b (fillLocker s demands b x n) := by
  obtain ⟨new, turn, slots, cursor⟩ :=
    fillSlots_turn (s.locker n).power b 20 (demands.getD n 0) x.cursor x.loads [] h.cursor h.size
  rw [List.nil_append] at slots
  refine ⟨cursor, turn.size.trans h.size, fun k => ?_, fun k => turn.within k (h.within k), fun g hg => ?_⟩
  · unfold fillLocker
    dsimp only
    rw [slots, slotPower_append, turn.adds]
    refine Nat.add_le_add (h.covers k) ?_
    split
    case isTrue taken =>
      exact Nat.le_mul_of_pos_right _ (List.count_pos_iff.mpr (List.contains_iff_mem.mp taken))
    case isFalse => exact Nat.zero_le _
  · rcases List.mem_append.mp hg with old | last
    · exact h.demanded g old
    · rw [List.mem_singleton.mp last, slots]
      exact turn.few

theorem fillFeed_keeps (s : State) (demands : List Nat) (f : Nat) :
    FillKeeps s demands (s.budget f) (fillFeed s demands f) := by
  have folded (ns : List Nat) (x : Fill) (h : FillKeeps s demands (s.budget f) x) :
      FillKeeps s demands (s.budget f) (ns.foldl (fillLocker s demands (s.budget f)) x) := by
    induction ns generalizing x with
    | nil => exact h
    | cons n rest ih => exact ih _ (fillLocker_keeps h n)
  exact folded _ _ (start_keeps s demands _)

/-! ### The heat map keeps the laws (R81, R87) -/

/-- A slot in a locker's entry was granted by the fill of its feed. -/
theorem mem_mapEntry (s : State) (demands : List Nat) (n k : Nat) (h : k ∈ mapEntry (allGrants s demands) n) :
    k < 20 ∧ ∃ g ∈ (fillFeed s demands (s.locker n).feed).grants, g.1 = n ∧ g.2.contains k = true := by
  simp only [mapEntry_eq, List.mem_filter, List.mem_range, List.any_eq_true, Bool.and_eq_true, beq_iff_eq] at h
  obtain ⟨hk, f, -, g, hg, rfl, hslot⟩ := h
  have ordered : g.1 ∈ grantOrder s demands f := fillFeed_keys s demands f ▸ List.mem_map_of_mem hg
  rw [mem_grantOrder_feed s demands f g.1 ordered]
  exact ⟨hk, g, hg, rfl, hslot⟩

theorem mapEntry_nodup (grants : List (Nat × List Nat)) (n : Nat) : (mapEntry grants n).Nodup :=
  List.nodup_range.filter _

theorem mapEntry_length_le (s : State) (demands : List Nat) (n : Nat) :
    (mapEntry (allGrants s demands) n).length ≤ demands.getD n 0 := by
  have entry : (mapEntry (allGrants s demands) n).length ≤
      ((((allGrants s demands).find? fun g => g.1 == n).map Prod.snd).getD []).length := by
    refine ((mapEntry_nodup _ n).subperm fun k hk => ?_).length_le
    exact List.contains_iff_mem.mp (List.mem_filter.mp hk).2
  refine entry.trans ?_
  cases hfind : (allGrants s demands).find? fun g => g.1 == n with
  | none => exact Nat.zero_le _
  | some g =>
    obtain ⟨f, -, hg⟩ := List.mem_flatMap.mp (List.mem_of_find?_eq_some hfind)
    have key : g.1 = n := by simpa using List.find?_some hfind
    exact key ▸ (fillFeed_keeps s demands f).demanded g hg

/-- The lockers of a feed whose entries hold a slot. -/
def grantedSlot (s : State) (demands : List Nat) (f k : Nat) : List Nat :=
  (List.range 48).filter fun n =>
    decide ((s.locker n).feed = f) && (mapEntry (allGrants s demands) n).contains k

/-- The first law: the powers granted a slot are within the feed's budget (R81). -/
theorem grantedSlot_power_le (s : State) (demands : List Nat) (f k : Nat) :
    ((grantedSlot s demands f k).map fun n => (s.locker n).power).sum ≤ s.budget f := by
  have once : (grantedSlot s demands f k).Nodup := List.nodup_range.filter _
  have granted : grantedSlot s demands f k ⊆
      ((fillFeed s demands f).grants.filter fun g => g.2.contains k).map Prod.fst := by
    intro n hn
    obtain ⟨-, hn⟩ := List.mem_filter.mp hn
    obtain ⟨feed, slot⟩ := Bool.and_eq_true_iff.mp hn
    obtain ⟨-, g, hg, rfl, hslot⟩ := mem_mapEntry s demands n k (List.contains_iff_mem.mp slot)
    rw [of_decide_eq_true feed] at hg
    exact List.mem_map_of_mem (List.mem_filter.mpr ⟨hg, hslot⟩)
  obtain ⟨ns, same, sub⟩ := once.subperm granted
  have fill := fillFeed_keeps s demands f
  calc ((grantedSlot s demands f k).map fun n => (s.locker n).power).sum
      = (ns.map fun n => (s.locker n).power).sum := (same.map _).sum_eq.symm
    _ ≤ slotPower s (fillFeed s demands f).grants k := by
        have le := (sub.map fun n => (s.locker n).power).sum_le_sum fun _ _ => Nat.zero_le _
        rwa [List.map_map] at le
    _ ≤ (fillFeed s demands f).loads.getD k 0 := fill.covers k
    _ ≤ s.budget f := fill.within k

/-! ### The laws after the credit (R81, R87) -/

theorem grantFrame_entry (demands : List Nat) (s : State) (n : Nat) (hn : n < 48) :
    vget (grantFrame demands s).hta.heatMap n [] = mapEntry (allGrants s demands) n := by
  rw [grantFrame_heatMap, frameMap_get demands s n hn]

/-- The laws of a frame: the first law in every slot, the second for every locker (R81). -/
structure FrameLaws (t : State) : Prop where
  power : ∀ f k, (((List.range 48).filter fun n =>
      decide ((t.locker n).feed = f) && (vget t.hta.heatMap n []).contains k).map
    fun n => (t.locker n).power).sum ≤ t.budget f
  granted : ∀ n, n < 48 → (t.locker n).granted = (vget t.hta.heatMap n []).length
  once : ∀ n, n < 48 → (vget t.hta.heatMap n []).Nodup
  slot : ∀ n, n < 48 → ∀ k ∈ vget t.hta.heatMap n [], k < 20
  grantedLe : ∀ n, n < 48 → (t.locker n).granted ≤ (t.locker n).demand
  demandLe : ∀ n, n < 48 → (t.locker n).demand ≤ 20

theorem FrameLaws.congr (h : FrameLaws s) (hta : t.hta = s.hta) (locker : ∀ n, t.locker n = s.locker n) :
    FrameLaws t := by
  obtain ⟨power, granted, once, slot, grantedLe, demandLe⟩ := h
  unfold State.budget at power
  simp only [← hta, ← locker] at power granted once slot grantedLe demandLe
  exact ⟨power, granted, once, slot, grantedLe, demandLe⟩

theorem grantFrame_laws (demands : List Nat) (s : State) (small : ∀ n, n < 48 → demands.getD n 0 ≤ 20) :
    FrameLaws (grantFrame demands s) := by
  have record (n : Nat) (hn : n < 48) :
      (grantFrame demands s).locker n =
        credited demands (frameMap demands s) (Config.allLockers.map (tierOf s)) s.params.purgeSlots n (s.locker n) :=
    grantFrame_locker demands s n hn
  have feed (n : Nat) (hn : n < 48) : ((grantFrame demands s).locker n).feed = (s.locker n).feed := by
    rw [record n hn]
    rfl
  have rated (n : Nat) (hn : n < 48) : ((grantFrame demands s).locker n).power = (s.locker n).power := by
    rw [record n hn]
    rfl
  have demand (n : Nat) (hn : n < 48) : ((grantFrame demands s).locker n).demand = demands.getD n 0 := by
    rw [record n hn]
    rfl
  have granted (n : Nat) (hn : n < 48) :
      ((grantFrame demands s).locker n).granted = (vget (grantFrame demands s).hta.heatMap n []).length := by
    rw [record n hn, grantFrame_heatMap]
    rfl
  refine ⟨fun f k => ?_, granted, fun n hn => ?_, fun n hn k hk => ?_, fun n hn => ?_, fun n hn => ?_⟩
  · have slots : ((List.range 48).filter fun n => decide (((grantFrame demands s).locker n).feed = f) &&
        (vget (grantFrame demands s).hta.heatMap n []).contains k) = grantedSlot s demands f k := by
      refine List.filter_congr fun n hn => ?_
      rw [feed n (List.mem_range.mp hn), grantFrame_entry demands s n (List.mem_range.mp hn)]
    have powers : ((grantedSlot s demands f k).map fun n => ((grantFrame demands s).locker n).power) =
        (grantedSlot s demands f k).map fun n => (s.locker n).power :=
      List.map_congr_left fun n hn => rated n (List.mem_range.mp (List.mem_of_mem_filter hn))
    rw [slots, powers, (grantFrame_records demands s).budget]
    exact grantedSlot_power_le s demands f k
  · rw [grantFrame_entry demands s n hn]
    exact mapEntry_nodup _ n
  · rw [grantFrame_entry demands s n hn] at hk
    exact (mem_mapEntry s demands n k hk).1
  · rw [granted n hn, demand n hn, grantFrame_entry demands s n hn]
    exact mapEntry_length_le s demands n
  · rw [demand n hn]
    exact small n hn

/-! ### The frame start (R69, R71) -/

/-- After the feeds are latched, a frame start touches records only until it grants, and every demand it grants by is
at most 20. -/
theorem frameStart_grants (s : State) :
    ∃ demands seen, frameStart s = grantFrame demands seen ∧
      RecordsOnly (latchFeeds { s with hta := { s.hta with frameTimer := some 0 } }) seen ∧
      ∀ n, n < 48 → demands.getD n 0 ≤ 20 := by
  refine ⟨_, _, frameStart_eq s, ?_, fun n hn => ?_⟩
  · exact ((RecordsOnly.foldl _ (fun x n => purgeDone_records n x) _ _).trans
      (RecordsOnly.foldl _ (fun x n => suspendOrResume_records n x) _ _)).trans
      (RecordsOnly.foldl _ (fun x n => examineInhibit_records n x) _ _)
  · exact (allLockers_map_getD _ n hn).trans_le (demandOf_le _ _ n)

/-- What a frame start leaves: the timer at 0, the settings as they were, each feed as latched, the map WAITING, the
laws of the fill. -/
structure FrameStarted (s t : State) : Prop where
  frameTimer : t.hta.frameTimer = some 0
  sst : t.sst = s.sst
  isShed : ∀ f, f < 4 → t.isShed f = shedNow s f
  budget : ∀ f, f < 4 → t.budget f = budgetNow s f
  laws : FrameLaws t

theorem frameStart_started (s : State) : FrameStarted s (frameStart s) ∧ (frameStart s).bbm.mapState = .waiting := by
  obtain ⟨demands, seen, granted, records, small⟩ := frameStart_grants s
  have latched := latchFeeds_latched { s with hta := { s.hta with frameTimer := some 0 } }
  have frame := grantFrame_records demands seen
  rw [granted]
  refine ⟨⟨?_, ?_, fun f hf => ?_, fun f hf => ?_, grantFrame_laws demands seen small⟩, ?_⟩
  · rw [frame.hta]
    exact (congrArg Hta.frameTimer records.hta).trans latched.frameTimer
  · exact (frame.sst.trans records.sst).trans latched.sst
  · exact ((frame.isShed f).trans (records.isShed f)).trans (latchFeeds_isShed _ f hf)
  · exact ((frame.budget f).trans (records.budget f)).trans (latchFeeds_budget _ f hf)
  · rw [frame.bbm]
    rfl

theorem FrameStarted.congr (h : FrameStarted s t) (hta : u.hta = t.hta) (sst : u.sst = t.sst)
    (locker : ∀ n, u.locker n = t.locker n) : FrameStarted s u := by
  have same {α : Type} (f : Hta → α) : f u.hta = f t.hta := congrArg f hta
  exact ⟨(same Hta.frameTimer).trans h.frameTimer, sst.trans h.sst,
    fun f hf => (same fun x => vget x.shed f false).trans (h.isShed f hf),
    fun f hf => (same fun x => vget x.budgets f 0).trans (h.budget f hf), h.laws.congr hta locker⟩

/-- A map that waits goes on a free bus before anything else, and stays where the bus is not free (R89, R96, R98). -/
theorem chooseBus_waiting (s : State) (h : s.bbm.mapState = .waiting) :
    chooseBus s = if busFree s then beginBroadcast s else s := by
  rw [chooseBus, chooseBusLoop, if_pos h]

theorem chooseBus_handsMap (h : FrameStarted s t) (waiting : t.bbm.mapState = .waiting) :
    FrameStarted s (chooseBus t) ∧ ((chooseBus t).bbm.mapState = .waiting ∨ (chooseBus t).bbm.mapState = .sending) := by
  rw [chooseBus_waiting t waiting]
  split
  · exact ⟨h.congr rfl rfl fun _ => rfl, .inr rfl⟩
  · exact ⟨h, .inl waiting⟩

theorem vget_lines (l0 l1 l2 l3 : Bool) (f : Nat) :
    vget #v[l0, l1, l2, l3] f false = [l0, l1, l2, l3].getD f false := by
  unfold vget
  split
  case isTrue h => simp [List.getD_eq_getElem?_getD, h]
  case isFalse h => simp [List.getD_eq_getElem?_getD, h]

/-- Settles O48: the frame start keeps the laws of the fill, and the choices that end the event touch neither the
records nor HTA. -/
theorem frameKeepsWithinTheBudget : Obligations.FrameKeepsWithinTheBudget := by
  intro e l0 l1 l2 l3 s running
  obtain ⟨started, waiting⟩ :=
    frameStart_started { s.clearPorts.elapse (2000 - e) with shedLines := #v[l0, l1, l2, l3] }
  obtain ⟨chosen, handed⟩ := chooseBus_handsMap started waiting
  refine ⟨_, (frameStart_exec l0 l1 l2 l3 s).2 e running, ?_⟩
  generalize chooseBus _ = u at chosen handed ⊢
  obtain ⟨timer, sst, isShed, budget, laws⟩ :=
    chosen.congr (chooseTransmit_hta u) (chooseTransmit_sst u) (chooseTransmit_locker u)
  refine ⟨timer, sst, by rwa [chooseTransmit_bbm], fun f hf => ⟨?_, ?_, fun k _ => laws.power f k⟩, fun n hn =>
    ⟨laws.granted n hn, laws.once n hn, laws.slot n hn, laws.grantedLe n hn, laws.demandLe n hn⟩⟩
  · rw [isShed f hf, shedNow, vget_lines]
    rfl
  · rw [budget f hf, isShed f hf]
    rfl

end Sys2Proof.Proofs

/-! ## The end of a broadcast, of the poll gap and of the reset line (R98, R99, R108, R110, R128, R188, R191) -/

namespace Sys2Proof.Proofs

open Sys2Proof.Machine

variable {s : State}

/-! ### The bank with no locker to poll (R99) -/

/-- Every locker ABSENT: a poll cycle that begins finds nobody (R99). -/
def AllAbsent (s : State) : Prop := ∀ n, n < 48 → (s.locker n).phase = .absent

theorem nextPolled_zero_isNone_iff (s : State) : (nextPolled s 0).isNone ↔ AllAbsent s := by
  simp [nextPolled_none_iff, AllAbsent]

theorem not_allAbsent_iff (s : State) : ¬ AllAbsent s ↔ ∃ n, n < 48 ∧ (s.locker n).phase ≠ .absent := by
  simp [AllAbsent]

theorem AllAbsent.of_phase {t : State} (h : AllAbsent s) (same : ∀ n, (t.locker n).phase = (s.locker n).phase) :
    AllAbsent t := fun n hn => (same n).trans (h n hn)

/-- A cycle that finds a locker to poll RUNS from 0 (R99). -/
theorem beginCycle_polls (s : State) (h : ¬ AllAbsent s) :
    beginCycle s = { s with bbm := { s.bbm with cycle := .running, cursor := 0, pollGap := none } } := by
  unfold beginCycle
  exact if_neg fun none => h ((nextPolled_zero_isNone_iff _).mp none)

/-- A cycle that finds nobody ends at once (R99). -/
theorem beginCycle_ends (s : State) (h : AllAbsent s) :
    beginCycle s = startGap { s with bbm := { s.bbm with cycle := .running, cursor := 0, pollGap := none } } := by
  unfold beginCycle
  exact if_pos ((nextPolled_zero_isNone_iff _).mpr h)

theorem beginCycle_rests (s : State) (h : AllAbsent s) (gap : s.params.pollGapMs ≠ 0) :
    beginCycle s =
      { s with bbm := { s.bbm with cycle := .gap, cursor := 0, pollGap := some (0, s.params.pollGapMs) } } := by
  rw [beginCycle_ends s h]
  exact startGap_pos _ gap

theorem beginCycle_restarts (s : State) (h : AllAbsent s) (gap : s.params.pollGapMs = 0) :
    beginCycle s = { s with bbm := { s.bbm with cycle := .running, cursor := 0, pollGap := none } } := by
  rw [beginCycle_ends s h]
  exact startGap_zero _ gap

/-! ### BROADCAST_END (R98, R188) -/

theorem exec_broadcastEnd (off : Nat) (hx : s.bbm.exchange = some (.broadcast off)) :
    exec .broadcastEnd s = .next (chooseTransmit (afterwards s (endBroadcast s.clearPorts))) := by
  have hx' : s.clearPorts.bbm.exchange = some (.broadcast off) := hx
  simp only [exec, execBroadcastEnd, hx']
  rw [afterExchange_afterwards (s := s) (endBroadcast s.clearPorts) rfl rfl]

theorem endBroadcast_sending (h : s.bbm.mapState = .sending) :
    endBroadcast s.clearPorts = { s with ports := [], bbm := { s.bbm with exchange := none, mapState := .sent } } := by
  simp [endBroadcast, h, State.withBbm, State.clearPorts]

theorem endBroadcast_superseded (h : s.bbm.mapState ≠ .sending) :
    endBroadcast s.clearPorts = { s with ports := [], bbm := { s.bbm with exchange := none } } := by
  simp [endBroadcast, h, State.withBbm, State.clearPorts]

/-! ### POLL_GAP_TIMER_EXPIRY (R99) -/

theorem exec_pollGapTimerExpiry (e len : Nat) (h : s.bbm.pollGap = some (e, len)) :
    exec .pollGapTimerExpiry s =
      .next (chooseTransmit (chooseBus (beginCycle (s.clearPorts.elapse (len - e))))) := by
  have h' : s.clearPorts.bbm.pollGap = some (e, len) := h
  simp only [exec, execPollGapTimerExpiry, h']

/-- Settles O56. -/
theorem broadcastAndPollGapEnd : Obligations.BroadcastAndPollGapEnd := by
  refine ⟨fun s off hx => ⟨fun h => ?_, fun h => ?_⟩, fun s e len h => ⟨fun found => ?_, fun absent gap => ?_⟩⟩
  · rw [exec_broadcastEnd off hx, endBroadcast_sending h]
    rfl
  · rw [exec_broadcastEnd off hx, endBroadcast_superseded h]
    rfl
  · rw [exec_pollGapTimerExpiry e len h, beginCycle_polls]
    rw [not_allAbsent_iff]
    simpa using found
  · have absent' : AllAbsent (s.clearPorts.elapse (len - e)) := AllAbsent.of_phase (s := s) absent (by simp)
    rw [exec_pollGapTimerExpiry e len h, beginCycle_rests _ absent' gap]
    rfl

/-! ### Who is left to probe (R189) -/

/-- A locker the next probe can target: populated, not in SERVICE, at or above the cursor (R189). -/
def LeftToProbe (s : State) : Prop :=
  ∃ n, n < 48 ∧ s.ltu.probeCursor ≤ n ∧ (s.locker n).populated = true ∧ (s.locker n).phase ≠ .service

theorem nextProbed_isNone_iff (s : State) : (nextProbed s s.ltu.probeCursor).isNone ↔ ¬ LeftToProbe s := by
  simp only [nextProbed, Config.allLockers, LeftToProbe, Option.isNone_iff_eq_none, List.find?_eq_none, List.mem_range,
    Bool.and_eq_true, decide_eq_true_eq, not_exists, not_and, and_imp]

theorem endDiscoveryIfSurveyed_left (k : DiscoveryKind) (hd : s.ltu.discovery = some ⟨k, .probing⟩)
    (h : LeftToProbe s) : endDiscoveryIfSurveyed s = s := by
  simp only [endDiscoveryIfSurveyed, hd]
  exact if_neg fun none => (nextProbed_isNone_iff s).mp none.2 h

theorem endDiscoveryIfSurveyed_surveyed (k : DiscoveryKind) (hd : s.ltu.discovery = some ⟨k, .probing⟩)
    (hp : s.ltu.probing = none) (h : ¬ LeftToProbe s) : endDiscoveryIfSurveyed s = endDiscovery k s := by
  simp only [endDiscoveryIfSurveyed, hd]
  exact if_pos ⟨by rw [hp]; rfl, (nextProbed_isNone_iff s).mpr h⟩

@[simp] theorem elapse_populated (s : State) (d n : Nat) :
    ((s.elapse d).locker n).populated = (s.locker n).populated := by
  by_cases h : n < 48
  · rw [s.elapse_locker d n h]
    rfl
  · rw [State.locker_out _ _ (by omega), State.locker_out _ _ (by omega)]

/-! ### PULSE_END and QUIET_END (R108, R110) -/

theorem exec_pulseEnd (h : s.bbm.line = .pulse) :
    let u := s.clearPorts.elapse (100 - s.bbm.lineMs)
    exec .pulseEnd s = .next { u with bbm := { u.bbm with line := .quiet, lineMs := 0 } } := by
  have h' : s.clearPorts.bbm.line = .pulse := h
  simp only [exec, execPulseEnd, h', if_true]
  rfl

/-- The state in which the end notice is handed: the quiet time has passed and the line is IDLE (R108). -/
def quietOver (s : State) : State :=
  let u := s.clearPorts.elapse (500 - s.bbm.lineMs)
  { u with bbm := { u.bbm with line := .idle, lineMs := 0 } }

theorem exec_quietEnd (h : s.bbm.line = .quiet) :
    exec .quietEnd s = .next (chooseTransmit (chooseBus (cycleAfterQuiet (endNotice (quietOver s))))) := by
  have h' : s.clearPorts.bbm.line = .quiet := h
  simp only [exec, execQuietEnd, h', if_true]
  rfl

/-- The state in which a discovery that waited for its pulse is PROBING (R188). -/
def probingFrom (k : DiscoveryKind) (s : State) : State :=
  { s with ltu := { s.ltu with discovery := some ⟨k, .probing⟩ } }

theorem endNotice_discovery (k : DiscoveryKind) (hd : s.ltu.discovery = some ⟨k, .reset⟩) :
    endNotice s = endDiscoveryIfSurveyed (probingFrom k s) := by
  simp only [endNotice, beginProbing, hd]
  rfl

theorem endNotice_bankReset (tag : Option Nat) (hd : s.ltu.discovery = none)
    (hop : s.txu.longOp = some ⟨.bankReset, tag⟩) : endNotice s = endLongOp .ok s := by
  simp only [endNotice, hd, hop]

theorem endNotice_none (hd : s.ltu.discovery = none) (hop : ∀ tag, s.txu.longOp ≠ some ⟨.bankReset, tag⟩) :
    endNotice s = s := by
  simp only [endNotice, hd]

/-- A requested long operation ends with its DONE, and its place is freed (R128). -/
theorem endLongOp_requested (k : LongOpKind) (tag : Nat) (st : Status) (hop : s.txu.longOp = some ⟨k, some tag⟩) :
    endLongOp st s =
      { submitTagged tag .done [.b1 tag, .b1 k.code, .b1 st.code] s with txu := { s.txu with longOp := none } } := by
  simp only [endLongOp, hop, State.withTxu, submitTagged_txu]

/-- The power-on discovery holds the place without a tag, and frees it without a DONE (R127, R128). -/
theorem endLongOp_untagged (k : LongOpKind) (st : Status) (hop : s.txu.longOp = some ⟨k, none⟩) :
    endLongOp st s = { s with txu := { s.txu with longOp := none } } := by
  simp only [endLongOp, hop, State.withTxu]

/-- A report is the same whatever the bus does. -/
theorem submitTagged_bus (tag : Nat) (k : ReportKind) (fs : List Field) (b : Bbm) (s : State) :
    submitTagged tag k fs { s with bbm := b } = { submitTagged tag k fs s with bbm := b } := by
  by_cases on : groupEnabled s.params k.group = true
  · have taken : submitTagged tag k fs s = s.withLki (enqueueReport ⟨k, s.uptime, tag, fs⟩ s.lki) := if_pos on
    rw [taken]
    exact if_pos on
  · have masked : submitTagged tag k fs s = s := if_neg on
    rw [masked]
    exact if_neg on

theorem quietOver_leftToProbe_iff (k : DiscoveryKind) (s : State) :
    LeftToProbe (probingFrom k (quietOver s)) ↔ LeftToProbe s := by
  have phase n : ((probingFrom k (quietOver s)).locker n).phase = (s.locker n).phase :=
    State.elapse_phase s.clearPorts _ n
  have populated n : ((probingFrom k (quietOver s)).locker n).populated = (s.locker n).populated :=
    elapse_populated s.clearPorts _ n
  unfold LeftToProbe
  simp only [phase, populated]
  rfl

theorem cycleAfterQuiet_polls (h : s.bbm.cycle ≠ .running ∨ s.bbm.cursor ≠ 0 ∨ ¬ AllAbsent s) :
    cycleAfterQuiet s = s := by
  rw [cycleAfterQuiet, if_neg]
  rintro ⟨running, start, none⟩
  rcases h with h | h | h
  · exact h running
  · exact h start
  · exact h ((nextPolled_zero_isNone_iff s).mp none)

theorem cycleAfterQuiet_rests (running : s.bbm.cycle = .running) (start : s.bbm.cursor = 0) (absent : AllAbsent s) :
    cycleAfterQuiet s = startGap s := by
  rw [cycleAfterQuiet, if_pos ⟨running, start, (nextPolled_zero_isNone_iff s).mpr absent⟩]

/-- Settles O46. -/
theorem resetLineByItsTimes : Obligations.ResetLineByItsTimes := by
  refine fun s => ⟨exec_pulseEnd, fun h => ⟨fun tag hd hop => ?_, fun k n hd hn hc hp hs => ?_,
    fun k hd hp none => ?_, fun hd hop => ?_⟩, fun h => cycleAfterQuiet_polls ?_, fun running start absent gap => ?_⟩
  · have hd' : (quietOver s).ltu.discovery = none := hd
    have hop' : (quietOver s).txu.longOp = some ⟨.bankReset, some tag⟩ := hop
    rw [exec_quietEnd h, endNotice_bankReset (some tag) hd' hop',
      endLongOp_requested .bankReset tag .ok hop', quietOver, submitTagged_bus]
    rfl
  · have hd' : (quietOver s).ltu.discovery = some ⟨k, .reset⟩ := hd
    rw [exec_quietEnd h, endNotice_discovery k hd',
      endDiscoveryIfSurveyed_left k rfl ((quietOver_leftToProbe_iff k s).mpr ⟨n, hn, hc, hp, hs⟩)]
    rfl
  · have hd' : (quietOver s).ltu.discovery = some ⟨k, .reset⟩ := hd
    have surveyed : ¬ LeftToProbe s := by
      rintro ⟨n, hn, hc, hpop, hserv⟩
      exact hserv (none n hn hc hpop)
    rw [exec_quietEnd h, endNotice_discovery k hd', endDiscoveryIfSurveyed_surveyed (s := probingFrom k (quietOver s)) k
      rfl hp (mt (quietOver_leftToProbe_iff k s).mp surveyed)]
    rfl
  · have hd' : (quietOver s).ltu.discovery = none := hd
    rw [exec_quietEnd h, endNotice_none hd' hop]
    rfl
  · rwa [not_allAbsent_iff]
  · rw [cycleAfterQuiet_rests running start absent, startGap_pos s gap]

end Sys2Proof.Proofs

/-! ## Probes and the end of a discovery (R92, R94, R99, R128, R189 to R191, R195) -/

namespace Sys2Proof.Proofs

open Sys2Proof.Machine

variable {s : State}

/-! ### The reply stored and the tally (R190) -/

/-- The record with the reply, the tally increased (R190). -/
def probeStored (n : Nat) (o : Observation) (s : State) : State :=
  { s with ltu := { s.ltu with
    lockers := vset s.ltu.lockers n ((s.locker n).observe o), answered := min (s.ltu.answered + 1) 48 } }

theorem probeStored_locker (n : Nat) (o : Observation) (s : State) (hn : n < 48) :
    (probeStored n o s).locker n = (s.locker n).observe o := vget_vset_same _ _ _ _ hn

theorem tallyAnswered_modLocker (n : Nat) (o : Observation) (s : State) :
    tallyAnswered (s.modLocker n (Locker.observe o)) = probeStored n o s := rfl

/-- A report is the same whatever the tally. -/
theorem tallyAnswered_submit (k : ReportKind) (fs : List Field) (s : State) :
    tallyAnswered (submit k fs s) = submit k fs (tallyAnswered s) := by
  by_cases on : groupEnabled s.params k.group = true
  · have taken : submit k fs s = s.withLki (enqueueReport ⟨k, s.uptime, 0, fs⟩ s.lki) := if_pos on
    have taken' : submit k fs (tallyAnswered s) =
        (tallyAnswered s).withLki (enqueueReport ⟨k, s.uptime, 0, fs⟩ s.lki) := if_pos on
    rw [taken, taken']
    rfl
  · have masked : groupEnabled s.params k.group = false := by simpa using on
    rw [submit_masked k fs s masked, submit_masked k fs (tallyAnswered s) masked]

/-- A change of phase is the same whatever the tally. -/
theorem tallyAnswered_moveTo (p : Phase) (n : Nat) (s : State) :
    tallyAnswered (moveTo p n s) = moveTo p n (tallyAnswered s) := by
  by_cases h : (s.locker n).phase = .free
  · have moved : moveTo p n s = leftFree (s.locker n).cls n (s.setLocker n ((s.locker n).enter p)) := if_pos h
    have moved' : moveTo p n (tallyAnswered s) =
        leftFree (s.locker n).cls n ((tallyAnswered s).setLocker n ((s.locker n).enter p)) := if_pos h
    rw [moved, moved']
    cases (s.locker n).cls <;> rfl
  · rw [moveTo_of_not_free p n s h, moveTo_of_not_free p n (tallyAnswered s) h]
    rfl

theorem tallyAnswered_setExcluded (n : Nat) (s : State) :
    tallyAnswered (setExcluded n s) = setExcluded n (tallyAnswered s) := by
  cases h : (s.locker n).heaterExcluded
  · rw [setExcluded_clear n s h, setExcluded_clear n (tallyAnswered s) h, tallyAnswered_submit]
    rfl
  · have set : setExcluded n s = s := if_pos h
    have set' : setExcluded n (tallyAnswered s) = tallyAnswered s := if_pos h
    rw [set, set']

/-! ### The rows of R190's table -/

/-- A locker found occupied, or in doubt (R190). -/
def probeQuarantined (n : Nat) (s : State) : State := submit .quarantined [.b1 n, .b4 0] (moveTo .quarantine n s)

theorem settleProbed_doorFault (n : Nat) (on mark : Bool) (s : State) (f : Finding)
    (h : doorFinding (s.locker n) = some f) :
    settleProbed n on mark s =
      submit .doorFault [.b1 n, .b1 f.code, .orderId (s.locker n).orderRef] (moveTo .service n s) := by
  simp only [settleProbed, h]

theorem settleProbed_heater (n : Nat) (on mark : Bool) (s : State) (hd : doorFinding (s.locker n) = none)
    (hh : heaterFinding (s.locker n) on mark = true) :
    settleProbed n on mark s =
      if (s.locker n).occupancy = .empty then moveTo .service n (setExcluded n s)
      else probeQuarantined n (setExcluded n s) := by
  simp only [settleProbed, hd, hh, if_true]
  cases (s.locker n).occupancy <;> rfl

theorem settleProbed_empty (n : Nat) (on mark : Bool) (s : State) (hd : doorFinding (s.locker n) = none)
    (hh : ¬ heaterFinding (s.locker n) on mark = true) (ho : (s.locker n).occupancy = .empty) :
    settleProbed n on mark s = moveTo (if (s.locker n).heaterExcluded then .service else .purging) n s := by
  simp only [settleProbed, hd, if_neg hh, ho, moveToUnlessExcluded, redirect]
  cases (s.locker n).heaterExcluded <;> rfl

theorem settleProbed_occupied (n : Nat) (on mark : Bool) (s : State) (hd : doorFinding (s.locker n) = none)
    (hh : ¬ heaterFinding (s.locker n) on mark = true) (ho : (s.locker n).occupancy = .occupied) :
    settleProbed n on mark s = probeQuarantined n s := by
  simp only [settleProbed, hd, if_neg hh, ho]
  rfl

/-! ### The tally and the table -/

/-- R190's table does not look at the tally, nor change it. -/
theorem tallyAnswered_settleProbed (n : Nat) (on mark : Bool) (s : State) :
    tallyAnswered (settleProbed n on mark s) = settleProbed n on mark (tallyAnswered s) := by
  have quarantined (u : State) : tallyAnswered (probeQuarantined n u) = probeQuarantined n (tallyAnswered u) := by
    rw [probeQuarantined, tallyAnswered_submit, tallyAnswered_moveTo, probeQuarantined]
  cases hd : doorFinding (s.locker n) with
  | some f =>
    rw [settleProbed_doorFault n on mark s f hd, settleProbed_doorFault n on mark (tallyAnswered s) f hd,
      tallyAnswered_submit, tallyAnswered_moveTo]
    rfl
  | none =>
    by_cases hh : heaterFinding (s.locker n) on mark = true
    · rw [settleProbed_heater n on mark s hd hh, settleProbed_heater n on mark (tallyAnswered s) hd hh,
        ← tallyAnswered_setExcluded, ← tallyAnswered_moveTo, ← quarantined, apply_ite tallyAnswered]
      rfl
    · cases ho : (s.locker n).occupancy with
      | empty =>
        rw [settleProbed_empty n on mark s hd hh ho, settleProbed_empty n on mark (tallyAnswered s) hd hh ho,
          tallyAnswered_moveTo]
        rfl
      | occupied =>
        rw [settleProbed_occupied n on mark s hd hh ho, settleProbed_occupied n on mark (tallyAnswered s) hd hh ho,
          quarantined]

theorem probeAnswered_eq (n : Nat) (o : Observation) (mark : Bool) (s : State) :
    probeAnswered n o mark s = settleProbed n o.heaterOn mark (probeStored n o s) := by
  rw [probeAnswered, tallyAnswered_settleProbed, tallyAnswered_modLocker]

/-- The record as a reply with a heater finding leaves it in the bank (R21, R190). -/
theorem setExcluded_probeStored (n : Nat) (o : Observation) (s : State) (hn : n < 48) :
    let l := (s.locker n).observe o
    let stored := probeStored n o s
    setExcluded n stored =
      if l.heaterExcluded then stored
      else submit .moduleFault [.b1 n, .b1 2] { stored with ltu := { stored.ltu with
        lockers := vset s.ltu.lockers n { l with heaterExcluded := true } } } := by
  intro l stored
  have record : stored.locker n = l := probeStored_locker n o s hn
  cases h : l.heaterExcluded
  · have twice := setLocker_setLocker s n l { l with heaterExcluded := true }
    have lockers : (stored.setLocker n { l with heaterExcluded := true }).ltu.lockers =
        vset s.ltu.lockers n { l with heaterExcluded := true } := congrArg (fun x => x.ltu.lockers) twice
    rw [setExcluded_clear n stored (by rw [record, h]), excludedRecord, record, ← lockers]
    rfl
  · exact if_pos (by rw [record, h])

/-- The door findings of a record, in the order R20 lists them (log entry 14). -/
theorem doorFinding_none_iff (l : Locker) :
    doorFinding l = none ↔
      ¬ ((l.kDoor ≠ .latched ∧ l.cDoor ≠ .latched) ∨ l.fault = .latchFault ∨ l.fault = .occupancyFault) := by
  unfold doorFinding
  split
  case isTrue both => simp [both]
  case isFalse both =>
    split
    case isTrue latch => simp [latch]
    case isFalse latch => simp [both, latch]

theorem doorFinding_code_of_some (l : Locker) (f : Finding) (h : doorFinding l = some f) :
    f.code = if l.kDoor ≠ .latched ∧ l.cDoor ≠ .latched then 0 else if l.fault = .latchFault then 1 else 2 := by
  unfold doorFinding at h
  split at h
  case isTrue both =>
    cases h
    exact (if_pos both).symm
  case isFalse both =>
    rw [if_neg both]
    split at h
    case isTrue latch =>
      cases h
      exact (if_pos latch).symm
    case isFalse latch =>
      rw [if_neg latch]
      split at h <;> cases h
      rfl

/-! ### A failed probe (R190) -/

theorem unlisted_ltu (n : Nat) (s : State) : (unlisted n s).ltu = s.ltu := by
  unfold unlisted
  split
  · exact leftFree_ltu _ _ _
  · rfl

theorem probeFailed_eq (n : Nat) (s : State) :
    let v := moveTo .offline n s
    probeFailed n s =
      { v with ltu := { s.ltu with
        lockers := vset s.ltu.lockers n { v.locker n with pollFails := 3, resume := none } } } := by
  intro v
  have failed : probeFailed n s = v.setLocker n { v.locker n with pollFails := 3, resume := none } := rfl
  have moved : v = (unlisted n s).setLocker n ((s.locker n).enter .offline) := moveTo_eq .offline n s
  rw [failed]
  generalize { v.locker n with pollFails := 3, resume := none } = l
  rw [moved, setLocker_setLocker]
  simp only [State.setLocker, unlisted_ltu]

/-! ### The end of a discovery (R128, R191, R195) -/

theorem countPhase_absent_iff (s : State) : countPhase s .absent = 48 ↔ AllAbsent s := by
  have all : countPhase s .absent = Config.allLockers.length ↔ _ := List.length_filter_eq_length_iff
  rw [show 48 = Config.allLockers.length from rfl, all]
  simp [AllAbsent, Config.allLockers]

/-- The bus as a cycle begins: resting at once where every locker is ABSENT and POLL_GAP_MS is not 0, else RUNNING from
0 (R99). -/
def cycleBegun (s : State) : Bbm :=
  { s.bbm with
    cycle := if countPhase s .absent = 48 ∧ s.params.pollGapMs ≠ 0 then .gap else .running
    cursor := 0
    pollGap := if countPhase s .absent = 48 ∧ s.params.pollGapMs ≠ 0 then some (0, s.params.pollGapMs) else none }

theorem beginCycle_eq (s : State) : beginCycle s = { s with bbm := cycleBegun s } := by
  unfold cycleBegun
  by_cases absent : AllAbsent s
  · have count := (countPhase_absent_iff s).mpr absent
    by_cases gap : s.params.pollGapMs = 0
    · have runs : ¬ (countPhase s .absent = 48 ∧ s.params.pollGapMs ≠ 0) := fun h => h.2 gap
      rw [beginCycle_restarts s absent gap, if_neg runs, if_neg runs]
    · rw [beginCycle_rests s absent gap, if_pos ⟨count, gap⟩, if_pos ⟨count, gap⟩]
  · have runs : ¬ (countPhase s .absent = 48 ∧ s.params.pollGapMs ≠ 0) := fun ⟨count, _⟩ =>
      absent ((countPhase_absent_iff s).mp count)
    rw [beginCycle_polls s absent, if_neg runs, if_neg runs]

/-- The bank as a discovery leaves it before its timers start: STARTED reported, the flag cleared, the poll cycle
begun (R191). -/
def discoveryOver (k : DiscoveryKind) (s : State) : State :=
  { reportStarted k s with ltu := { s.ltu with discovery := none }, bbm := cycleBegun s }

theorem beginCycle_reported (k : DiscoveryKind) (s : State) :
    beginCycle ((reportStarted k s).withLtu { (reportStarted k s).ltu with discovery := none }) =
      discoveryOver k s := by
  have link : OnlyLink s (reportStarted k s) := submit_onlyLink _ _ _
  rw [beginCycle_eq, discoveryOver, link.ltu]
  set cleared := (reportStarted k s).withLtu { s.ltu with discovery := none }
  have params : cleared.params = s.params := link.params
  have bus : cleared.bbm = s.bbm := link.bbm
  have count : countPhase cleared .absent = countPhase s .absent := rfl
  have begun : cycleBegun cleared = cycleBegun s := by simp only [cycleBegun, params, bus, count]
  rw [begun]
  rfl

/-- The tick and silence timers start (R191). -/
def timersStarted (s : State) : State := { s with hau := ⟨some 0⟩, lki := { s.lki with silenceTimer := some 0 } }

@[simp] theorem timersStarted_txu (s : State) : (timersStarted s).txu = s.txu := rfl

@[simp] theorem timersStarted_ltu (s : State) : (timersStarted s).ltu = s.ltu := rfl

theorem SurveyKept.discovery {t : State} (h : SurveyKept s t) : t.ltu.discovery = s.ltu.discovery :=
  congrArg Prod.fst h.1

theorem endDiscovery_timers (s : State) :
    endDiscovery .powerOn s = endLongOp .ok (timersStarted (frameStart (discoveryOver .powerOn s))) := by
  simp only [endDiscovery, beginCycle_reported, timersStarted, State.withLki]

/-- After a POWER_ON the first frame start is taken, the tick and silence timers start and the place is freed (R191). -/
theorem endDiscovery_powerOn (s : State) (hop : s.txu.longOp = some ⟨.powerOnDiscovery, none⟩) :
    endDiscovery .powerOn s =
      { timersStarted (frameStart (discoveryOver .powerOn s)) with txu := { s.txu with longOp := none } } := by
  have txu : (timersStarted (frameStart (discoveryOver .powerOn s))).txu = s.txu := by
    rw [timersStarted_txu, (frameStart_kept _).2, discoveryOver, reportStarted, submit_txu]
  rw [endDiscovery_timers, endLongOp_untagged .powerOnDiscovery .ok ((congrArg Txu.longOp txu).trans hop), txu]

theorem endDiscovery_done (s : State) : endDiscovery .rescan s = endLongOp .ok (discoveryOver .rescan s) := by
  simp only [endDiscovery, beginCycle_reported]

/-- After a RESCAN its DONE follows (R128, R191). -/
theorem endDiscovery_rescan (s : State) (tag : Nat) (hop : s.txu.longOp = some ⟨.rescan, some tag⟩) :
    endDiscovery .rescan s =
      { submitTagged tag .done [.b1 tag, .b1 1, .b1 0] (discoveryOver .rescan s) with
        txu := { s.txu with longOp := none } } := by
  have txu : (discoveryOver .rescan s).txu = s.txu := submit_txu _ _ _
  rw [endDiscovery_done, endLongOp_requested .rescan tag .ok (txu ▸ hop), txu]
  rfl

theorem endDiscovery_discovery (k : DiscoveryKind) (s : State) : (endDiscovery k s).ltu.discovery = none := by
  have cleared : (discoveryOver k s).ltu.discovery = none := rfl
  cases k with
  | powerOn =>
    rw [endDiscovery_timers, (endLongOp_frame _ _).1, timersStarted_ltu, (frameStart_kept _).discovery, cleared]
  | rescan => rw [endDiscovery_done, (endLongOp_frame _ _).1, cleared]

/-! ### The end of a probe (R91, R92, R189) -/

theorem endOfProbe_left (k : DiscoveryKind) (hd : s.ltu.discovery = some ⟨k, .probing⟩) (h : LeftToProbe s) :
    endOfProbe s = { s with ltu := { s.ltu with probing := none } } :=
  endDiscoveryIfSurveyed_left (s := { s with ltu := { s.ltu with probing := none } }) k hd h

theorem endOfProbe_surveyed (k : DiscoveryKind) (hd : s.ltu.discovery = some ⟨k, .probing⟩) (h : ¬ LeftToProbe s) :
    endOfProbe s = endDiscovery k { s with ltu := { s.ltu with probing := none } } :=
  endDiscoveryIfSurveyed_surveyed (s := { s with ltu := { s.ltu with probing := none } }) k hd rfl h

/-- A discovery that probes waits for no pulse, before and after its last probe (R188). -/
theorem afterExchange_endOfProbe (k : DiscoveryKind) (v : State) (hd : v.ltu.discovery = some ⟨k, .probing⟩) :
    afterExchange (endOfProbe v) = chooseBus (endOfProbe v) := by
  refine if_neg fun wanted => ?_
  obtain ⟨j, hj, -⟩ := (pulseWanted_iff _).mp wanted
  by_cases left : LeftToProbe v
  · rw [endOfProbe_left k hd left] at hj
    simp [hd] at hj
  · rw [endOfProbe_surveyed k hd left, endDiscovery_discovery] at hj
    cases hj

/-- A probe that fails: its count, its locker OFFLINE (R92, R94, R190). -/
theorem probeEnded_none (n : Nat) (m : Bool) (k : DiscoveryKind) (hd : s.ltu.discovery = some ⟨k, .probing⟩) :
    probeEnded n none m s.clearPorts = chooseBus (endOfProbe (probeFailed n { s with
      ports := [], bbm := { s.bbm with
        exchange := none, failedPolls := min (s.bbm.failedPolls + 1) 65535 } })) :=
  afterExchange_endOfProbe k (probeFailed n (countFailedPoll (clearExchange s.clearPorts)))
    ((probeFailed_records _ _).discovery.trans hd)

theorem probeEnded_some (n : Nat) (o : Observation) (m : Bool) (k : DiscoveryKind)
    (hd : s.ltu.discovery = some ⟨k, .probing⟩) :
    probeEnded n (some o) m s.clearPorts =
      chooseBus (endOfProbe (probeAnswered n o (m && decide (s.bbm.mapState = .sent))
        { s with ports := [], bbm := { s.bbm with exchange := none } })) := by
  refine afterExchange_endOfProbe k
    (probeAnswered n o (m && decide (s.bbm.mapState = .sent)) (clearExchange s.clearPorts)) ?_
  rw [probeAnswered_eq, (settleProbed_records _ _ _ _).discovery]
  exact hd

theorem exec_reply_probe (n a : Nat) (m : Bool) (r : Reply) (bytes : List Byte)
    (hx : s.bbm.exchange = some (.probe n a m)) (hr : readReply n 1 bytes = some r) :
    exec (.replyReceived bytes) s = .next (chooseTransmit (attemptSucceeded r s.clearPorts)) := by
  have hx' : s.clearPorts.bbm.exchange = some (.probe n a m) := hx
  simp only [exec, execReplyReceived, awaited, hx', hr]

/-- Settles O55. -/
theorem probesSettleTheBank : Obligations.ProbesSettleTheBank := by
  refine ⟨fun n a m k s hd hx hn => ?_, fun n o mark s hn => ?_, fun n s _ => probeFailed_eq n s,
    fun k s hd => ⟨endOfProbe_left k hd, endOfProbe_surveyed k hd⟩, fun s => ⟨fun hop => ?_, fun tag hop => ?_⟩⟩
  · have hx' : s.clearPorts.bbm.exchange = some (.probe n a m) := hx
    have awaits : awaited s ≠ none := by simp [awaited, hx]
    refine ⟨fun o hT hk hc => ?_, fun r => ?_, fun third => ?_, fun again => ?_⟩
    · rw [exec_reply_probe n a m _ _ hx (readReply_observation n o hT hk hc)]
      simp only [attemptSucceeded, hx', probeEnded_some n o m k hd]
    · rw [exec_reply_probe n a m _ _ hx (readReply_refused n 1 r)]
      simp only [attemptSucceeded, hx', probeEnded_none n m k hd]
    · rw [exec_replyTimeout awaits]
      simp only [attemptFailed, hx', if_neg (Nat.not_lt.mpr third), probeEnded_none n m k hd]
    · rw [exec_replyTimeout awaits]
      simp only [attemptFailed, hx', if_pos again]
      rfl
  · have record := probeStored_locker n o s hn
    have granted : ((s.locker n).observe o).granted = (s.locker n).granted := rfl
    have found := heaterFinding_iff ((s.locker n).observe o) o.heaterOn mark
    have sound := doorFinding_none_iff ((s.locker n).observe o)
    simp only [probeAnswered_eq]
    refine ⟨fun door => ?_, fun noDoor heater => ?_, fun noDoor noHeater empty => ?_,
      fun noDoor noHeater occupied => ?_⟩
    · obtain ⟨f, hf⟩ := Option.ne_none_iff_exists'.mp (mt sound.mp (not_not.mpr door))
      rw [settleProbed_doorFault n _ _ _ f (by rw [record, hf]), doorFinding_code_of_some _ f hf, record]
      rfl
    · rw [settleProbed_heater n _ _ _ (by rw [record]; exact sound.mpr noDoor) (by rw [record]; exact found.mpr heater),
        setExcluded_probeStored n o s hn, record]
      rfl
    · rw [settleProbed_empty n _ _ _ (by rw [record]; exact sound.mpr noDoor)
        (by rw [record]; exact mt found.mp noHeater) (by rw [record]; exact empty), record]
      rfl
    · rw [settleProbed_occupied n _ _ _ (by rw [record]; exact sound.mpr noDoor)
        (by rw [record]; exact mt found.mp noHeater) (by rw [record]; exact occupied)]
      rfl
  · intro v
    have taken : v = frameStart (discoveryOver .powerOn s) := rfl
    have ended := endDiscovery_powerOn s hop
    have timer := (frameStart_started (discoveryOver .powerOn s)).1.frameTimer
    rw [← taken] at ended timer
    clear_value v
    exact ⟨ended, timer⟩
  · exact endDiscovery_rescan s tag hop

end Sys2Proof.Proofs

/-! ## The locker module as bus partner (R103 to R107, R152, R153) -/

namespace Sys2Proof.Proofs

open Sys2Proof.Machine

variable {m : LockerModule}

/-! ### UNLATCH (R103) -/

/-- What an UNLATCH that passes makes of its door: released, with a window that starts anew. -/
def releasedDoor (x : ModuleDoor) (w : Nat) : ModuleDoor :=
  { x with released := true, windowMs := some (w * 1000), opened := if x.released then x.opened else false }

@[simp] theorem setDoor_door_same (m : LockerModule) (d : Door) (x : ModuleDoor) : (m.setDoor d x).door d = x := by
  cases d <;> rfl

@[simp] theorem setDoor_door_other (m : LockerModule) (d : Door) (x : ModuleDoor) :
    (m.setDoor d x).door d.other = m.door d.other := by
  cases d <;> rfl

@[simp] theorem Door.ofCode_code (d : Door) : Door.ofCode d.code = some d := by cases d <;> rfl

theorem unlatch_refused (m : LockerModule) (d : Door) (w : Nat) (r : Reason) (h : m.checkUnlatch d w = some r) :
    m.unlatch d.code w = (m, .refused r) := by
  simp only [LockerModule.unlatch, Door.ofCode_code, h]

theorem unlatch_taken (m : LockerModule) (d : Door) (w : Nat) (h : m.checkUnlatch d w = none) :
    m.unlatch d.code w = (m.setDoor d (releasedDoor (m.door d) w), .ok) := by
  simp only [LockerModule.unlatch, Door.ofCode_code, h, releasedDoor]

theorem checkUnlatch_window (m : LockerModule) (d : Door) (w : Nat) (h : w < 5 ∨ 60 < w) :
    m.checkUnlatch d w = some .badRequest := if_pos h

theorem checkUnlatch_inWindow (m : LockerModule) (d : Door) (w : Nat) (lo : 5 ≤ w) (hi : w ≤ 60) :
    m.checkUnlatch d w =
      if (m.door d).latchWorks = false then some .latchFault
      else if (m.door d.other).state ≠ .latched then some .interlock else none :=
  if_neg (by omega)

/-! ### The released door (R103, R104) -/

section

variable {x : ModuleDoor} (w : Nat)

theorem release_state (shut : x.shut = true) : (releasedDoor x w).state = .closed := by
  simp [ModuleDoor.state, releasedDoor, shut]

/-- A door that has not opened is latched at its window's end. -/
theorem release_after_state (shut : x.shut = true) : ((releasedDoor x w).after (w * 1000)).state = .latched := by
  simp [ModuleDoor.after, ModuleDoor.state, releasedDoor, shut]

theorem release_openDoor (shut : x.shut = true) :
    (releasedDoor x w).openDoor =
      { releasedDoor x w with shut := false, opened := true, count := (x.count + 1) % 256 } := by
  simp [ModuleDoor.openDoor, releasedDoor, shut]

theorem openDoor_state (x : ModuleDoor) : x.openDoor.state = .opened := by
  unfold ModuleDoor.openDoor
  split
  · rfl
  · simp_all [ModuleDoor.state]

theorem closeDoor_open (x : ModuleDoor) (h : x.shut = false) :
    x.closeDoor = { x with shut := true, released := false, windowMs := none, opened := false } := by
  simp [ModuleDoor.closeDoor, h]

end

/-! ### Heating (R105) -/

theorem after_map (m : LockerModule) (t : Nat) :
    (m.after t).map = m.map.map fun x => { x with ageMs := x.ageMs + t } := by
  unfold LockerModule.after
  dsimp only
  split <;> rfl

theorem takeMap_after_heaterOn (m : LockerModule) (f took t : Nat) (slots : List Nat) :
    ((m.takeMap f took slots).after t).heaterOn =
      (decide (f + took + t < 2000) && slots.contains ((f + took + t) / 100)) := by
  rw [LockerModule.heaterOn, after_map]
  rfl

/-! ### Reset and the start after it (R107) -/

/-- The module at its reset before it knows whether it has started. -/
def resetBare (m : LockerModule) : LockerModule :=
  { m with
    k := m.k.reset
    c := m.c.reset
    latchFault := false
    occupancyFault := false
    heaterFault := false
    map := none
    startMs := min m.startTakes 500
    lamp := 0
    strip := []
    items := m.defaults }

theorem reset_eq (m : LockerModule) :
    m.reset = if (resetBare m).started then (resetBare m).findFaults else resetBare m := rfl

theorem resetBare_started_iff (m : LockerModule) : (resetBare m).started = true ↔ m.startTakes = 0 := by
  simp [LockerModule.started, resetBare]

theorem reset_instant (h : m.startTakes = 0) : m.reset = (resetBare m).findFaults := by
  rw [reset_eq, if_pos ((resetBare_started_iff m).mpr h)]

theorem reset_starts (h : 0 < m.startTakes) : m.reset = resetBare m := by
  rw [reset_eq, if_neg (mt (resetBare_started_iff m).mp (by omega))]

/-- What the reset makes of everything but the faults, whether or not the module takes time to start. -/
theorem reset_cases (m : LockerModule) : m.reset = (resetBare m).findFaults ∨ m.reset = resetBare m := by
  rcases Nat.eq_zero_or_pos m.startTakes with h | h
  · exact .inl (reset_instant h)
  · exact .inr (reset_starts h)

theorem reset_door (m : LockerModule) (d : Door) : m.reset.door d = (m.door d).reset := by
  rcases reset_cases m with h | h <;> rw [h] <;> cases d <;> rfl

theorem reset_map (m : LockerModule) : m.reset.map = none := by
  rcases reset_cases m with h | h <;> rw [h] <;> rfl

theorem reset_items (m : LockerModule) : m.reset.items = m.defaults := by
  rcases reset_cases m with h | h <;> rw [h] <;> rfl

theorem reset_startMs (m : LockerModule) : m.reset.startMs = min m.startTakes 500 := by
  rcases reset_cases m with h | h <;> rw [h] <;> rfl

/-- The module `d` ms later, but for the faults it may find at the end of its start. -/
def timePassed (d : Nat) (m : LockerModule) : LockerModule :=
  { m with
    k := m.k.after d
    c := m.c.after d
    map := m.map.map fun x => { x with ageMs := x.ageMs + d }
    startMs := m.startMs - d }

theorem after_started (d : Nat) (h : m.started = true) : m.after d = timePassed d m := by
  unfold LockerModule.after
  exact if_neg (by simp [h])

theorem after_startEnds (d : Nat) (h : m.started = false) (passed : m.startMs ≤ d) :
    m.after d = (timePassed d m).findFaults := by
  unfold LockerModule.after
  exact if_pos ⟨h, decide_eq_true (Nat.sub_eq_zero_of_le passed)⟩

theorem timePassed_started (d : Nat) (passed : m.startMs ≤ d) : (timePassed d m).started = true :=
  decide_eq_true (Nat.sub_eq_zero_of_le passed)

theorem findFaults_started (m : LockerModule) : m.findFaults.started = m.started := rfl

theorem timePassed_fault (d : Nat) (m : LockerModule) : (timePassed d m).fault = m.fault := rfl

theorem moduleDoor_after_latchWorks (d : Nat) (x : ModuleDoor) : (x.after d).latchWorks = x.latchWorks := by
  unfold ModuleDoor.after
  split
  · rfl
  · split
    · rfl
    · split <;> rfl

theorem timePassed_findFaults_fault (d : Nat) (m : LockerModule) :
    (timePassed d m).findFaults.fault = m.findFaults.fault := by
  simp only [LockerModule.fault, LockerModule.findFaults, timePassed, moduleDoor_after_latchWorks]
  rfl

/-- 500 ms later every module has started, and has found the faults that persist and no others. -/
theorem reset_after_start (m : LockerModule) :
    (m.reset.after 500).started = true ∧ (m.reset.after 500).fault = (resetBare m).findFaults.fault := by
  have passed : m.reset.startMs ≤ 500 := by rw [reset_startMs]; omega
  rcases Nat.eq_zero_or_pos m.startTakes with h | h
  · have started : m.reset.started = true := by simp [LockerModule.started, reset_startMs, h]
    rw [after_started 500 started, timePassed_fault]
    exact ⟨timePassed_started 500 passed, by rw [reset_instant h]⟩
  · rw [reset_starts h] at passed ⊢
    have waits : (resetBare m).started = false := by
      rw [← Bool.not_eq_true, resetBare_started_iff]
      omega
    rw [after_startEnds 500 waits passed, findFaults_started, timePassed_findFaults_fault]
    exact ⟨timePassed_started 500 passed, rfl⟩

theorem resetBare_findFaults_fault (m : LockerModule) :
    (resetBare m).findFaults.fault =
      if m.k.latchWorks = false ∨ m.c.latchWorks = false then .latchFault
      else if m.sensorWorks = false then .occupancyFault
      else if m.heaterWorks = false then .heaterFault else .none := by
  simp [LockerModule.fault, LockerModule.findFaults, resetBare, ModuleDoor.reset]

/-! ### Frames heard (R105, R107, R152) -/

theorem receive_starting (h : m.started = false) (n took : Nat) (bytes : List Byte) :
    m.receive n took bytes = (m, none) := if_pos h

theorem receive_badCheck (n took : Nat) (bytes : List Byte) (h : parseBusFrame bytes = none) :
    m.receive n took bytes = (m, none) := by
  unfold LockerModule.receive
  rw [h]
  exact ite_self _

/-- A frame for another module is not for this one (R152). -/
theorem receive_otherAddress (n took : Nat) (f : BusFrame) (hf : f.payload.length ≤ 200) (hn : f.addr ≠ n)
    (hb : f.addr ≠ 0xFF) : m.receive n took f.bytes = (m, none) := by
  unfold LockerModule.receive
  rw [parseBusFrame_bytes f hf]
  simp [hn, hb]

/-- A module that has started serves a frame with its address (R152). -/
theorem receive_addressed (n took : Nat) (f : BusFrame) (hf : f.payload.length ≤ 200) (h : m.started = true)
    (ha : f.addr = n) (hn : n < 48) : m.receive n took f.bytes = ((m.serve f).1, some (m.serve f).2) := by
  have broadcast : ¬ (f.addr = 0xFF ∧ f.kind = 0x07) := by omega
  unfold LockerModule.receive
  rw [parseBusFrame_bytes f hf, if_neg (by simp [h])]
  dsimp only
  rw [if_neg broadcast, if_pos ha]

theorem serve_poll (m : LockerModule) (n : Nat) : m.serve ⟨n, 0x01, []⟩ = (m, .observation m.observation) := rfl

theorem serve_unlatch (m : LockerModule) (n d w : Nat) : m.serve ⟨n, 0x02, [d, w]⟩ = m.unlatch d w := rfl

/-- A POLL with payload bytes (log entry 34). -/
theorem serve_poll_payload (m : LockerModule) (f : BusFrame) (hk : f.kind = 0x01) (hp : f.payload ≠ []) :
    m.serve f = (m, .refused .badRequest) := by
  obtain ⟨addr, kind, payload⟩ := f
  cases payload with
  | nil => exact absurd rfl hp
  | cons b rest =>
    cases hk
    rfl

/-- A request of a kind R152 does not list (log entry 34). -/
theorem serve_unknownKind (m : LockerModule) (f : BusFrame) (hk : f.kind ∉ [1, 2, 3, 4, 5, 6]) :
    m.serve f = (m, .refused .badRequest) := by
  simp only [List.mem_cons, List.not_mem_nil, or_false, not_or] at hk
  unfold LockerModule.serve
  split <;> simp_all

/-! ### The HEAT_MAP broadcast (R105, R153) -/

/-- Distinct powers of two below `2 ^ k` added up: the number is below `2 ^ k`, its bits say which were added. -/
theorem foldl_bits (p : Nat → Bool) (k : Nat) :
    let b := (List.range k).foldl (fun b i => if p i then b + 2 ^ i else b) 0
    b < 2 ^ k ∧ ∀ i, i < k → b.testBit i = p i := by
  induction k with
  | zero => simp
  | succ k ih =>
    obtain ⟨small, bits⟩ := ih
    rw [List.range_succ, List.foldl_append]
    generalize (List.range k).foldl (fun b i => if p i then b + 2 ^ i else b) 0 = b at small bits
    simp only [List.foldl_cons, List.foldl_nil]
    cases hp : p k with
    | false =>
      refine ⟨by simp only [Bool.false_eq_true, if_false]; omega, fun i hi => ?_⟩
      simp only [Bool.false_eq_true, if_false]
      rcases Nat.lt_succ_iff_lt_or_eq.mp hi with h | rfl
      · exact bits i h
      · rw [hp, Nat.testBit_lt_two_pow small]
    | true =>
      simp only [if_true, Nat.add_comm b]
      refine ⟨by omega, fun i hi => ?_⟩
      rcases Nat.lt_succ_iff_lt_or_eq.mp hi with h | rfl
      · rw [Nat.testBit_two_pow_add_gt h, bits i h]
      · rw [Nat.testBit_two_pow_add_eq, Nat.testBit_lt_two_pow small, hp]
        rfl

theorem slotByte_testBit (slots : List Nat) (base i : Nat) (hi : i < 8) (hb : base + i < 20) :
    (slotByte slots base).testBit i = slots.contains (base + i) := by
  have bits := (foldl_bits (fun i => slots.contains (base + i) && decide (base + i < 20)) 8).2 i hi
  rw [slotByte, bits]
  simp [hb]

/-- The three bytes of a locker are read back as its granted slots (R153). -/
theorem slotsOf_slotBytes (slots : List Nat) :
    slotsOf (slotBytes slots) = (List.range 20).filter fun k => slots.contains k := by
  refine List.filter_congr fun k hk => ?_
  have hk : k < 20 := List.mem_range.mp hk
  have byte : (slotBytes slots).getD (k / 8) 0 = slotByte slots (8 * (k / 8)) := by
    have : k / 8 = 0 ∨ k / 8 = 1 ∨ k / 8 = 2 := by omega
    rcases this with h | h | h <;> rw [h] <;> rfl
  rw [byte, slotByte_testBit slots _ _ (Nat.mod_lt k (by omega)) (by omega), Nat.div_add_mod]

/-- Of entries of three bytes each, those of the entry `n` (R153). -/
theorem take_drop_flatMap_three {α : Type} (g : Nat → List α) (hg : ∀ i, (g i).length = 3) (k n : Nat) (hn : n < k) :
    (((List.range k).flatMap g).drop (3 * n)).take 3 = g n := by
  have before (j : Nat) : ((List.range j).flatMap g).length = 3 * j := by
    simp [List.length_flatMap, hg, Nat.mul_comm]
  obtain ⟨j, rfl⟩ := Nat.exists_eq_add_of_lt hn
  rw [show n + j + 1 = n + (j + 1) from rfl, List.range_add, List.flatMap_append, ← before n, List.drop_left,
    List.range_succ_eq_map, List.map_cons, List.flatMap_cons, Nat.add_zero, ← hg n, List.take_left]

theorem slotBytes_length (slots : List Nat) : (slotBytes slots).length = 3 := rfl

theorem heatMapFrame_length (off : Nat) (map : Vector (List Nat) 48) : (heatMapFrame off map).payload.length = 146 := by
  simp [heatMapFrame, Field.bytes, Config.allLockers, List.length_flatMap, slotBytes_length]

/-- Each module finds the offset and its own list in the broadcast (R153). -/
theorem readHeatMap_heatMapFrame (n off : Nat) (map : Vector (List Nat) 48) (hn : n < 48) (ho : off < 65536) :
    readHeatMap n (heatMapFrame off map).payload =
      some (off, (List.range 20).filter fun k => (vget map n []).contains k) := by
  have offset : rd2 (heatMapFrame off map).payload 0 = off := by
    simp [heatMapFrame, Field.bytes, rd2, rd1]
    omega
  have own : ((heatMapFrame off map).payload.drop (2 + 3 * n)).take 3 = slotBytes (vget map n []) := by
    rw [← List.drop_drop]
    exact take_drop_flatMap_three (fun i => slotBytes (vget map i [])) (fun _ => rfl) 48 n hn
  rw [readHeatMap, if_pos (heatMapFrame_length off map), offset, own, slotsOf_slotBytes]

theorem receive_heatMap (n took off : Nat) (map : Vector (List Nat) 48) (hn : n < 48) (ho : off < 65536)
    (h : m.started = true) :
    m.receive n took (heatMapFrame off map).bytes =
      (m.takeMap off took ((List.range 20).filter fun k => (vget map n []).contains k), none) := by
  unfold LockerModule.receive
  rw [parseBusFrame_bytes _ (by rw [heatMapFrame_length]; omega), if_neg (by simp [h])]
  dsimp only
  rw [if_pos ⟨rfl, rfl⟩, readHeatMap_heatMapFrame n off map hn ho]

/-- Settles O60. -/
theorem moduleKeepsItsSide : Obligations.ModuleKeepsItsSide := by
  refine fun m d w => ⟨fun h => ?_, fun lo hi broken => ?_, fun lo hi works other => ?_,
    fun lo hi works other shut => ?_, fun f took slots t early => ?_, fun f took slots t late => ?_, ?_, fun n took f hn ha hk hf => ?_,
    fun n took off map hn ho h => receive_heatMap n took off map hn ho h⟩
  · exact unlatch_refused m d w _ (checkUnlatch_window m d w h)
  · refine unlatch_refused m d w _ ?_
    rw [checkUnlatch_inWindow m d w lo hi, if_pos broken]
  · refine unlatch_refused m d w _ ?_
    rw [checkUnlatch_inWindow m d w lo hi, if_neg (by simp [works]), if_pos other]
  · have taken := unlatch_taken m d w
      (by rw [checkUnlatch_inWindow m d w lo hi, if_neg (by simp [works]), if_neg (not_not.mpr other)])
    simp only [taken, setDoor_door_same, setDoor_door_other]
    refine ⟨trivial, release_state w shut, trivial, release_after_state w shut, openDoor_state _, ?_, ?_, ?_⟩
    · rw [release_openDoor w shut]
      simp [ModuleDoor.after, releasedDoor]
    · rw [closeDoor_open _ (by rw [release_openDoor w shut])]
      rfl
    · rw [release_openDoor w shut]
  · rw [takeMap_after_heaterOn, decide_eq_true early, Bool.true_and]
  · rw [takeMap_after_heaterOn, decide_eq_false (by omega), Bool.false_and]
  · obtain ⟨started, fault⟩ := reset_after_start m
    rw [resetBare_findFaults_fault] at fault
    refine ⟨by rw [LockerModule.heaterOn, reset_map], by rw [reset_door]; rfl, by rw [reset_door]; rfl,
      by rw [reset_door]; rfl, reset_items m, by rw [reset_startMs]; omega, fun waits => ?_, started, fun broken => ?_,
      fun k c broken => ?_, fun k c sensor => ?_, fun ajar => ?_⟩
    · rw [reset_starts waits]
      refine ⟨rfl, ?_⟩
      rw [← Bool.not_eq_true, resetBare_started_iff]
      omega
    · rw [fault, if_pos broken]
    · rw [fault, if_neg (by simp [k, c]), if_pos broken]
    · rw [fault, if_neg (by simp [k, c]), if_neg (by simp [sensor])]
      cases m.heaterWorks <;> rfl
    · rw [closeDoor_open _ ajar, reset_door]
      exact ⟨rfl, rfl⟩
  · have served (h : m.started = true) (here : f.addr = n) := receive_addressed (m := m) n took f hf h here hn
    refine ⟨fun h => receive_starting h n took _, fun hn hb => receive_otherAddress n took f hf hn hb,
      fun bytes h => receive_badCheck n took bytes h, ?_, fun h here kind bytes => ?_, ?_, fun h here kind => ?_⟩
    · rintro h rfl
      rw [served h rfl, serve_poll]
    · rw [served h here, serve_poll_payload m f kind bytes]
    · rintro h rfl
      rw [served h rfl, serve_unlatch]
    · rw [served h here, serve_unknownKind m f kind]

end Sys2Proof.Proofs

/-! ## Reports on a queue with room and on a full queue (R128, R141 to R143, R150, R174) -/

namespace Sys2Proof.Proofs

open Sys2Proof.Machine

/-! ### The oldest maskable report (R143) -/

theorem dropOldestMaskable_none {q : List Report} (h : ∀ x ∈ q, x.kind.group.maskable = false) :
    dropOldestMaskable q = none := by
  induction q with
  | nil => rfl
  | cons r rest ih =>
    obtain ⟨kept, others⟩ := List.forall_mem_cons.mp h
    simp [dropOldestMaskable, kept, ih others]

theorem dropOldestMaskable_first {before behind : List Report} {x : Report} (hx : x.kind.group.maskable = true)
    (h : ∀ y ∈ before, y.kind.group.maskable = false) :
    dropOldestMaskable (before ++ x :: behind) = some (before ++ behind) := by
  induction before with
  | nil => simp [dropOldestMaskable, hx]
  | cons r rest ih =>
    obtain ⟨kept, others⟩ := List.forall_mem_cons.mp h
    simp [dropOldestMaskable, kept, ih others]

/-! ### A full queue (R143) -/

/-- The link with queue `q` and one more report counted lost. -/
def Lki.losing (l : Lki) (q : List Report) : Lki :=
  { l with reportQ := q, lostReports := min (l.lostReports + 1) 65535 }

variable {r : Report} {l : Lki}

theorem enqueueReport_fullMaskable (full : 32 ≤ l.reportQ.length) (hr : r.kind.group.maskable = true) :
    enqueueReport r l = Lki.losing l l.reportQ := by
  rw [enqueueReport, if_neg (Nat.not_lt.mpr full), if_pos hr]
  rfl

theorem enqueueReport_fullUnmaskable (full : 32 ≤ l.reportQ.length) (hr : r.kind.group.maskable = false) :
    enqueueReport r l =
      Lki.losing l (match dropOldestMaskable l.reportQ with | some q => q ++ [r] | none => l.reportQ) := by
  rw [enqueueReport, if_neg (Nat.not_lt.mpr full), if_neg (by simp [hr])]
  cases dropOldestMaskable l.reportQ <;> rfl

/-! ### Groups (R141, R174) -/

theorem maskable_false_iff (g : Group) : g.maskable = false ↔ g = .order ∨ g = .system := by
  cases g <;> simp [Group.maskable]

theorem groupEnabled_unmaskable (p : Params) {g : Group} (h : g.maskable = false) : groupEnabled p g = true := by
  rcases (maskable_false_iff g).mp h with rfl | rfl <;> rfl

/-- The bit of REPORT_MASK that stands for a group is its place among the maskable groups. -/
theorem groupEnabled_bit (p : Params) (g : Group) (i : Nat)
    (h : [Group.locker, .thermal, .power, .panel][i]? = some g) : groupEnabled p g = p.reportMask.testBit i := by
  match i with
  | 0 | 1 | 2 | 3 =>
    cases h
    rfl
  | i + 4 => simp at h

/-! ### Submissions (R142, R143, R150) -/

/-- The report of an enabled group goes to the queue, stamped with the uptime (R142). -/
theorem submitTagged_enabled (tag : Nat) (k : ReportKind) (fs : List Field) (s : State)
    (on : groupEnabled s.params k.group = true) :
    submitTagged tag k fs s = { s with lki := enqueueReport ⟨k, s.uptime, tag, fs⟩ s.lki } := if_pos on

/-- Settles O23. -/
theorem reportQueueRule : Obligations.ReportQueueRule := by
  refine ⟨fun tag k fs s => ?_, fun p g => ⟨maskable_false_iff g, groupEnabled_unmaskable p, groupEnabled_bit p g⟩, rfl⟩
  refine ⟨fun h => by rw [h]; rfl, fun off => if_neg off, submitTagged_room tag k fs s, fun on full mask => ?_,
    fun on full mask allKept => ?_, fun before x behind on full mask hq hx older => ?_⟩
  · rw [submitTagged_enabled tag k fs s on, enqueueReport_fullMaskable full mask]
    rfl
  · rw [submitTagged_enabled tag k fs s on, enqueueReport_fullUnmaskable full mask, dropOldestMaskable_none allKept]
    rfl
  · rw [submitTagged_enabled tag k fs s on, enqueueReport_fullUnmaskable full mask, hq,
      dropOldestMaskable_first hx older]
    rfl

end Sys2Proof.Proofs

/-! ## Module commands and long operations at acceptance (R116 to R118, R127) -/

namespace Sys2Proof.Proofs

open Sys2Proof.Machine

variable {s : State}

/-! ### TXU's checks of a confirmed command (R118, R119) -/

theorem tagInTable_iff (s : State) (tag : Nat) : tagInTable s tag = true ↔ ∃ e ∈ s.txu.table, e.tag = some tag := by
  simp [tagInTable]

theorem tagOfLongOp_iff (s : State) (tag : Nat) :
    tagOfLongOp s tag = true ↔ ∃ op, s.txu.longOp = some op ∧ op.tag = some tag := by
  unfold tagOfLongOp
  cases s.txu.longOp <;> simp

theorem tableTakes_iff (s : State) (n : Nat) :
    tableTakes s n = true ↔ s.txu.table.length < 8 ∧ ∀ e ∈ s.txu.table, e.locker ≠ n := by
  simp [tableTakes]

theorem tableTakes_false_iff (s : State) (n : Nat) :
    tableTakes s n = false ↔ 8 ≤ s.txu.table.length ∨ ∃ e ∈ s.txu.table, e.locker = n := by
  rw [← Bool.not_eq_true, tableTakes_iff]
  simp only [not_and_or, not_lt, not_forall, not_not, exists_prop]

/-- The tag stands in the table or with the long operation (R118). -/
def TagUsed (s : State) (tag : Nat) : Prop :=
  (∃ e ∈ s.txu.table, e.tag = some tag) ∨ ∃ op, s.txu.longOp = some op ∧ op.tag = some tag

theorem tagUsed_iff (s : State) (tag : Nat) : (tagInTable s tag || tagOfLongOp s tag) = true ↔ TagUsed s tag := by
  rw [Bool.or_eq_true, tagInTable_iff, tagOfLongOp_iff, TagUsed]

theorem checkServer_tagUsed (tag n : Nat) (h : TagUsed s tag) : checkServer s tag n = some .tagInUse :=
  if_pos ((tagUsed_iff s tag).mpr h)

theorem checkServer_tagFree (tag n : Nat) (h : ¬ TagUsed s tag) :
    checkServer s tag n = if tableTakes s n then none else some .retry :=
  if_neg (mt (tagUsed_iff s tag).mp h)

/-- A MODULE_READ that passes every check is taken into the table (R118). -/
theorem serveModuleRead_taken (tag n item : Nat) (quiet : s.discovering = false) (hn : n < 48) (hi : item ≤ 255)
    (ha : (s.locker n).phase ≠ .absent) (ho : (s.locker n).phase ≠ .offline) (hc : checkServer s tag n = none) :
    serveModuleRead tag n item s =
      chooseBus (addEntry .server (some tag) .moduleRead n none (some item) s) := by
  have inRange : ¬ (47 < n ∨ 255 < item) := by omega
  simp [serveModuleRead, quiet, inRange, ha, ho, hc]

/-- Settles O36. -/
theorem moduleReadByRule : Obligations.ModuleReadByRule := by
  refine ⟨fun tag n s => ⟨checkServer_tagUsed tag n, fun free full => ?_, fun free room other => ?_⟩,
    fun tag n item s hp hd hn hi ha ho hc => ?_⟩
  · rw [checkServer_tagFree tag n free, (tableTakes_false_iff s n).mpr full]
    rfl
  · rw [checkServer_tagFree tag n free, (tableTakes_iff s n).mpr ⟨room, other⟩]
    rfl
  · have taken := serveModuleRead_taken tag n item (accepted_quiet hd) hn hi (by rwa [accepted_locker])
      (by rwa [accepted_locker]) ((checkServer_accepted s tag n).trans hc)
    rw [exec_served (.moduleRead tag n item) s rfl hp, serveRequest, taken]
    simp only [addEntry, bumpSeq, State.withTxu, accepted_txu]

/-! ### Posted commands (R116, R117) -/

variable {k : Kind} {tag n : Nat} {c : PostedContent} {st : Status}

/-- Past LKI and the discovery, LTU's and TXU's checks in order (R116, R117). -/
theorem servePosted_checks (quiet : s.discovering = false) (hn : n < 48) :
    servePosted k tag n true c st s =
      if (s.locker n).phase = .absent then answer k tag .noTarget [] s
      else if (s.locker n).phase = .offline then answer k tag .offline [] s
      else if 8 ≤ s.txu.posted.length then answer k tag .retry [] s
      else chooseBus (answer k tag st [] (addPosted n tag c s)) := by
  have inRange : ¬ (47 < n ∨ true = false) := by simp; omega
  rw [servePosted, if_neg (by simp [quiet]), if_neg inRange]

/-- What the answer of a request served by `servePosted` is, check by check; the clauses of O37 for one command. -/
theorem exec_posted (i : Instr) (s : State) (hi : IsRequest i) (hp : s.lki.placesHeld < 32) (hn : n < 48)
    (hs : serveRequest i s.accepted = servePosted k tag n true c st s.accepted) :
    let a := s.accepted
    let refused (x : Status) : Prop := exec i s = .next (chooseTransmit (answer k tag x [] a))
    (s.ltu.discovery ≠ none → refused .busy) ∧
    (s.ltu.discovery = none → (s.locker n).phase = .absent → refused .noTarget) ∧
    (s.ltu.discovery = none → (s.locker n).phase = .offline → refused .offline) ∧
    (s.ltu.discovery = none → (s.locker n).phase ≠ .absent → (s.locker n).phase ≠ .offline →
      8 ≤ s.txu.posted.length → refused .retry) ∧
    (s.ltu.discovery = none → (s.locker n).phase ≠ .absent → (s.locker n).phase ≠ .offline →
      s.txu.posted.length < 8 →
      exec i s = .next (chooseTransmit (chooseBus (answer k tag st []
        { a with txu := { a.txu with
          posted := s.txu.posted ++ [⟨n, tag, c, s.txu.nextSeq, .waiting⟩]
          nextSeq := (s.txu.nextSeq + 1) % 65536 } })))) := by
  dsimp only
  rw [exec_served i s hi hp, hs]
  refine ⟨fun hd => ?_, fun hd ha => ?_, fun hd ho => ?_, fun hd ha ho full => ?_, fun hd ha ho room => ?_⟩
  · rw [servePosted_busy k tag n true c st (by simpa [State.discovering, Option.isSome_iff_ne_none] using hd)]
  all_goals rw [servePosted_checks (accepted_quiet hd) hn]
  · simp [ha]
  · simp [ho]
  · simp [ha, ho, full]
  · simp [ha, ho, Nat.not_le.mpr room, addPosted, bumpSeq, State.withTxu]

/-- Settles O37. -/
theorem postedCommandsByRule : Obligations.PostedCommandsByRule := by
  intro tag n s hp hn
  refine ⟨fun p h => ?_, fun x => ?_, fun i v hi hv => ?_⟩
  · exact exec_posted (.lamp tag n p) s rfl hp hn (by simp [serveRequest, serveLamp, h])
  · exact exec_posted (.label tag n x) s rfl hp hn rfl
  · exact exec_posted (.moduleWrite tag n i v) s rfl hp hn (by simp [serveRequest, serveModuleWrite, hi, hv])

end Sys2Proof.Proofs

/-! ## ABORT by where its tag is found (R12, R122, R124, R125) -/

namespace Sys2Proof.Proofs

open Sys2Proof.Machine

variable {s : State} {e : Entry}

/-! ### The record after a reverted reservation (R7, R12) -/

theorem enter_unlatchPending {p : Phase} (l : Locker) (h : p.transient = false) :
    (l.enter p).unlatchPending = l.unlatchPending := by
  have left : l.leave.unlatchPending = l.unlatchPending := by
    unfold Locker.leave
    split <;> rfl
  rw [← left, Locker.enter]
  cases p
  case loading | pickup | clearing => cases h
  all_goals rfl

/-- A reservation reverts to a phase that lasts, where a CLEARING was entered from one (R12, R17). -/
theorem revertPhase_settled (s : State) {l : Locker} (hl : l.phase ∈ [.loading, .pickup, .clearing])
    (h : ∀ p, l.clearOrigin = some p → p.transient = false) : (revertPhase s l).transient = false := by
  simp only [List.mem_cons, List.not_mem_nil, or_false] at hl
  unfold revertPhase
  rcases hl with hp | hp | hp <;> simp only [hp]
  · rfl
  · split <;> rfl
  · cases ho : l.clearOrigin with
    | none => rfl
    | some p => exact h p ho

theorem reverted_unlatchPending (s : State) {r : CmdRequest} {l : Locker} (hr : r ≠ .moduleRead)
    (h : ∀ p, l.clearOrigin = some p → p.transient = false) : (l.reverted s r).unlatchPending = none := by
  rw [reverted_eq s r l hr]
  split
  case isTrue hp => exact enter_unlatchPending _ (revertPhase_settled s (CmdRequest.phase_mem _ _ hp) h)
  case isFalse => rfl

theorem reverted_phase (s : State) {r : CmdRequest} {l : Locker} (hr : r ≠ .moduleRead) :
    (l.reverted s r).phase = if r.phase = some l.phase then revertPhase s l else l.phase := by
  rw [reverted_eq s r l hr]
  split
  · exact enter_phase _ _
  · rfl

/-! ### An entry withdrawn (R122, R124, R125) -/

/-- LTU's part of an abort: only the record of the entry's locker changes, and for a MODULE_READ not even that. -/
theorem lockerCommandEnd_aborted (e : Entry) (s : State) (hn : e.locker < 48) :
    let v := lockerCommandEnd e .aborted s
    v = { s with ltu := v.ltu } ∧ OtherLockersSame e.locker s v ∧
      (e.request = .moduleRead → v.locker e.locker = s.locker e.locker) ∧
      (e.request ≠ .moduleRead → v.locker e.locker = (s.locker e.locker).reverted s e.request) := by
  dsimp only
  by_cases hr : e.request = .moduleRead
  · have same : lockerCommandEnd e .aborted s = s := by simp [lockerCommandEnd_read e .aborted s hr]
    rw [same]
    exact ⟨rfl, fun _ _ => rfl, fun _ => rfl, fun h => absurd hr h⟩
  · have reverts : lockerCommandEnd e .aborted s =
        s.setLocker e.locker ((s.locker e.locker).reverted s e.request) :=
      (lockerCommandEnd_unlatch e .aborted s hr).trans (doorCommandEnd_eq e .aborted s hn hr (by simp))
    rw [reverts]
    exact ⟨rfl, fun m hm => State.setLocker_ne _ _ _ _ hm, fun h => absurd h hr, fun _ => State.setLocker_same _ _ _ hn⟩

/-! ### The places a tag is looked for (R125) -/

theorem entryByTag_tag {t : Txu} {target : Nat} (h : entryByTag t target = some e) : e.tag = some target := by
  simpa using List.find?_some h

theorem serveAbort_waiting (tag target : Nat) (h : entryByTag s.txu target = some e) (hw : e.stage = .waiting) :
    serveAbort tag target s = answer kAbort tag .ok [] (endConfirmed e .aborted s) := by
  simp [serveAbort, h, hw]

theorem serveAbort_onBus (tag target : Nat) (h : entryByTag s.txu target = some e) (hw : e.stage = .onBus) :
    serveAbort tag target s = answer kAbort tag .abortLate [] s := by
  simp [serveAbort, h, hw]

theorem serveAbort_notInTable (tag target : Nat) (h : entryByTag s.txu target = none) :
    serveAbort tag target s =
      if (∃ op, s.txu.longOp = some op ∧ op.tag = some target) ∨ target ∈ s.txu.recent then
        answer kAbort tag .abortLate [] s
      else answer kAbort tag .unknownOrder [] s := by
  simp [serveAbort, h, tagOfLongOp_iff]

/-- Settles O38. -/
theorem abortByWhereTheTagIs : Obligations.AbortByWhereTheTagIs := by
  intro tag target s hp
  dsimp only
  rw [exec_served (.abort tag target) s rfl hp, serveRequest]
  refine ⟨fun e he hw => ?_, fun hf late => ?_, fun hf late => ?_, fun e he hw ho hn => ?_⟩
  · rw [serveAbort_onBus tag target (by rwa [accepted_txu]) hw]
  · rw [serveAbort_notInTable tag target (by rwa [accepted_txu]), accepted_txu, if_pos late]
  · rw [serveAbort_notInTable tag target (by rwa [accepted_txu]), accepted_txu, if_neg late]
  · have found : entryByTag s.accepted.txu target = some e := by rwa [accepted_txu]
    obtain ⟨frame, others, read, door⟩ := lockerCommandEnd_aborted e s.accepted hn
    rw [serveAbort_waiting tag target found hw, endConfirmed,
      completeEntry_tagged e .aborted _ target ho (entryByTag_tag found)]
    generalize lockerCommandEnd e .aborted s.accepted = v at frame others read door
    have lki : v.lki = s.accepted.lki := by rw [frame]
    have txu : v.txu = s.txu := by rw [frame, accepted_txu]
    have oru : v.oru = s.oru := by rw [frame, accepted_oru]
    have bbm : v.bbm = s.bbm := by rw [frame, accepted_bbm]
    have sst : v.sst = s.sst := by rw [frame, accepted_sst]
    have pni : v.pni = s.pni := by rw [frame, accepted_pni]
    simp only [accepted_locker] at read door
    have phase (hr : e.request ≠ .moduleRead) : (v.locker e.locker).phase =
        if e.request.phase = some (s.locker e.locker).phase then revertPhase s.accepted (s.locker e.locker)
        else (s.locker e.locker).phase := by
      rw [door hr, reverted_phase _ hr]
    refine ⟨_, rfl, by rw [txu], by rw [txu], by rw [txu], by rw [txu], by rw [lki, accepted_answerQ]; rfl,
      by rw [oru], bbm, sst, pni, fun m hm => (others m hm).trans (accepted_locker s m), read,
      fun hr settled => ?_, fun hr hs => (phase (by simp [hr])).trans ?_, fun hr hs => (phase (by simp [hr])).trans ?_,
      fun hr hs => (phase (by simp [hr])).trans ?_, fun p hr hs hc => ?_⟩
    · exact (congrArg Locker.unlatchPending (door hr)).trans (reverted_unlatchPending _ hr settled)
    · simp [hr, hs, CmdRequest.phase]
    · simp [hr, hs, CmdRequest.phase, revertPhase]
    · simp [hr, hs, CmdRequest.phase, revertPhase, orderCondemned_accepted]
    · have entered : e.request.phase = some .clearing := by rcases hr with hr | hr <;> rw [hr] <;> rfl
      have notRead : e.request ≠ .moduleRead := by rcases hr with hr | hr <;> simp [hr]
      refine (phase notRead).trans ?_
      simp [entered, hs, revertPhase, hc]

end Sys2Proof.Proofs

/-! ## STORE and its end (R127, R128, R166, R182) -/

namespace Sys2Proof.Proofs

open Sys2Proof.Machine

variable {s : State}

/-! ### The copy that is written (R166, R182) -/

theorem newerGeneration_succ {a b : Nat} (ha : a < 65536) (h : (a + 1) % 65536 = b) : newerGeneration a b = true := by
  have one : (b + 65536 - a) % 65536 = 1 := by omega
  rw [newerGeneration, one]
  rfl

theorem newerGeneration_pred {a b : Nat} (hb : b < 65536) (h : (b + 1) % 65536 = a) : newerGeneration a b = false := by
  have behind : (b + 65536 - a) % 65536 = 65535 := by omega
  rw [newerGeneration, behind]
  rfl

theorem storeTarget_olderA {x b : StoreCopy} (h : newerGeneration x.generation b.generation = true) :
    storeTarget (some x) (some b) = (.a, (b.generation + 1) % 65536) := if_pos h

theorem storeTarget_olderB {x b : StoreCopy} (h : newerGeneration x.generation b.generation = false) :
    storeTarget (some x) (some b) = (.b, (x.generation + 1) % 65536) := if_neg (by simp [h])

theorem setCopy_eq (t : Sst) (side : StoreSide) (c : Option StoreCopy) :
    t.setCopy side c = { t with
      copyA := if side = .a then c else t.copyA
      copyB := if side = .b then c else t.copyB } := by
  cases side <;> rfl

/-! ### The beginning (R127, R182) -/

/-- The settings store once STORE has begun to write copy `side` with generation `g` (R182). -/
def storeBegun (t : Sst) (side : StoreSide) (g : Nat) : Sst :=
  { t with
    copyA := if side = .a then none else t.copyA
    copyB := if side = .b then none else t.copyB
    snapshot := some t.working, busy := true, target := some (side, g) }

theorem beginStore_sst (side : StoreSide) (g : Nat) (h : storeTarget s.sst.copyA s.sst.copyB = (side, g)) :
    beginStore s = { s with sst := storeBegun s.sst side g } := by
  simp only [beginStore, h, setCopy_eq, State.withSst, storeBegun]

theorem serveStore_begins (tag : Nat) (side : StoreSide) (g : Nat) (hc : checkLongOp s tag = none)
    (h : storeTarget s.sst.copyA s.sst.copyB = (side, g)) :
    serveStore tag s = { answer kStore tag .accepted [] s with
      txu := { s.txu with longOp := some ⟨.store, some tag⟩ }
      sst := storeBegun s.sst side g } := by
  have target : storeTarget (acceptLongOp kStore .store tag s).sst.copyA (acceptLongOp kStore .store tag s).sst.copyB =
      (side, g) := h
  simp only [serveStore, hc]
  rw [beginStore_sst side g target]
  rfl

/-! ### The end (R128, R182) -/

/-- The settings store once the write of copy `side` has ended (R182). -/
def storeEnded (t : Sst) (side : StoreSide) (written : Option StoreCopy) : Sst :=
  { t with
    copyA := if side = .a then written else t.copyA
    copyB := if side = .b then written else t.copyB
    snapshot := none, busy := false, target := none }

theorem finishStore_sst (good : Bool) (side : StoreSide) (g : Nat) (snap : Settings)
    (ht : s.sst.target = some (side, g)) (hs : s.sst.snapshot = some snap) :
    finishStore good s = { s with sst := storeEnded s.sst side (if good then some ⟨g, snap⟩ else none) } := by
  cases good <;> simp [finishStore, ht, hs, setCopy_eq, State.withSst, storeEnded]

/-- A report of a group that no mask turns off is the same whatever the settings store holds (R141). -/
theorem submitTagged_sst_of_unmaskable (tag : Nat) {k : ReportKind} (fs : List Field) (t : Sst)
    (h : k.group.maskable = false) :
    submitTagged tag k fs { s with sst := t } = { submitTagged tag k fs s with sst := t } := by
  rw [submitTagged_enabled tag k fs s (groupEnabled_unmaskable _ h)]
  exact submitTagged_enabled tag k fs { s with sst := t } (groupEnabled_unmaskable _ h)

/-- Settles O44. -/
theorem storeWritesTheOlderCopy : Obligations.StoreWritesTheOlderCopy := by
  refine ⟨fun tag s hp => ?_, fun good tag g side snap s busy ht hs hop => ?_⟩
  · have refused (st : Status) (h : checkLongOp s tag = some st) :
        serveRequest (.store tag) s.accepted = answer kStore tag st [] s.accepted := by
      simp only [serveRequest, serveStore, checkLongOp_accepted, h]
    dsimp only
    rw [exec_served (.store tag) s rfl hp]
    refine ⟨fun running => ?_, fun idle used => ?_, fun idle free => ?_⟩
    · rw [refused .busy (checkLongOp_refused tag _ (.inl ⟨running, rfl⟩))]
    · rw [refused .tagInUse (checkLongOp_refused tag _ (.inr ⟨idle, used, rfl⟩))]
    · have check : checkLongOp s.accepted tag = none :=
        (checkLongOp_accepted s tag).trans (checkLongOp_clear s tag idle fun e he ht => free ⟨e, he, ht⟩)
      have begun (side : StoreSide) (g : Nat) (h : storeTarget s.sst.copyA s.sst.copyB = (side, g)) :
          serveRequest (.store tag) s.accepted = { answer kStore tag .accepted [] s.accepted with
            txu := { s.txu with longOp := some ⟨.store, some tag⟩ }
            sst := storeBegun s.sst side g } := by
        have served := serveStore_begins tag side g check (by rwa [accepted_sst])
        rwa [accepted_txu, accepted_sst] at served
      refine ⟨fun ha hb => ?_, fun b ha hb => ?_, fun x ha hb => ?_, fun x b ha hb hx hg => ?_, fun x b ha hb hx hg => ?_⟩
      · rw [begun .a 1 (by rw [ha, hb]; rfl)]
        rfl
      · rw [begun .a ((b.generation + 1) % 65536) (by rw [ha, hb]; rfl)]
        rfl
      · rw [begun .b ((x.generation + 1) % 65536) (by rw [ha, hb]; rfl)]
        rfl
      · rw [begun .a _ (by rw [ha, hb, storeTarget_olderA (newerGeneration_succ hx hg)])]
        rfl
      · rw [begun .b _ (by rw [ha, hb, storeTarget_olderB (newerGeneration_pred hx hg)])]
        rfl
  · have ended : exec (.storeEnd good) s = .next (chooseTransmit
        (endLongOp (if good then .ok else .storeFault) (finishStore good s.clearPorts))) := if_pos busy
    have code : (if good then Status.ok else .storeFault).code = if good then 0 else 25 := by cases good <;> rfl
    rw [ended, finishStore_sst (s := s.clearPorts) good side g snap ht hs,
      endLongOp_requested (s := { s.clearPorts with sst := _ }) .store tag _ hop, code, submitTagged_sst_of_unmaskable tag _ _ rfl]
    rfl

end Sys2Proof.Proofs

/-! ## A scan by its checks and findings (R119, R156 to R158, R163) -/

namespace Sys2Proof.Proofs

open Sys2Proof.Machine

variable {s : State}

/-! ### The checks of R156 -/

/-- The outcome of a scan that PNI refuses with a message and a cause (R156 to R158, R163). -/
theorem refuseScan_eq (m : PanelMessage) (c : PanelCause) (id n : Option Nat) (s : State) :
    refuseScan m c id n s.clearPorts =
      submit .panelRefused [.b1 m.refusalCode, .b1 c.code, .orderId id, .opt1 n] { s with ports := [.display m] } := rfl

theorem takeScan_lockedOut (chars : List Nat) (h : s.pni.lockoutTimer ≠ none) :
    takeScan chars s = refuseScan .lockedOut .lockout none none s :=
  if_pos (Option.isSome_iff_ne_none.mpr h)

theorem takeScan_disabled (chars : List Nat) (h : s.pni.lockoutTimer = none) (hp : s.params.panelEnable = false) :
    takeScan chars s = refuseScan .notAvailable .disabled none none s := by
  simp [takeScan, lockedOut, h, hp]

theorem takeScan_discovering (chars : List Nat) (h : s.pni.lockoutTimer = none) (hp : s.params.panelEnable = true)
    (hd : s.ltu.discovery ≠ none) : takeScan chars s = refuseScan .busy .discovery none none s := by
  simp [takeScan, lockedOut, h, hp, State.discovering, Option.isSome_iff_ne_none, hd]

theorem scanCode_digits {chars : List Nat} (hlen : chars.length = 8) (hdig : ∀ c ∈ chars, 48 ≤ c ∧ c ≤ 57) :
    scanCode chars = some (chars.foldl (fun v c => v * 10 + (c - 48)) 0) :=
  if_pos ⟨hlen, List.all_eq_true.mpr fun c hc => by simp [isDigit, hdig c hc]⟩

/-- A scan that passes the checks of R156 and names an order is decided on that order (R157). -/
theorem takeScan_order {chars : List Nat} {code id : Nat} {o : Order} (h : s.pni.lockoutTimer = none)
    (hp : s.params.panelEnable = true) (hd : s.ltu.discovery = none) (hc : scanCode chars = some code)
    (hm : (s.oru.codeMap.find? fun e => e.1 == code) = some (code, id)) (ho : s.order? id = some o) :
    takeScan chars s = decideScan o s := by
  have named : orderOfCode s code = some o := by simp [orderOfCode, hm, ho]
  simp [takeScan, lockedOut, h, hp, State.discovering, hd, hc, named]

/-! ### The findings of R157 -/

variable {o : Order} {n : Nat}

theorem decideScan_condemned (h : o.condemned ≠ none) :
    decideScan o s = refuseScan .expired .condemned (some o.id) o.locker s :=
  if_pos (Option.isSome_iff_ne_none.mpr h)

theorem decideScan_pending (h : o.condemned = none) (hl : o.locker = none) :
    decideScan o s = refuseScan .notReady .notLoaded (some o.id) none s := by
  simp [decideScan, h, hl]

theorem decideScan_notLoaded (h : o.condemned = none) (hl : o.locker = some n) (hh : o.hold = none) :
    decideScan o s = refuseScan .notReady .notLoaded (some o.id) (some n) s := by
  simp [decideScan, h, hl, Order.loaded, hh]

theorem decideScan_inPickup (h : o.condemned = none) (hl : o.locker = some n) (hh : o.hold ≠ none)
    (hp : (s.locker n).phase = .pickup) :
    decideScan o s = refuseScan .busy .inPickup (some o.id) (some n) s := by
  simp [decideScan, h, hl, Order.loaded, hh, hp]

theorem decideScan_releases (h : o.condemned = none) (hl : o.locker = some n) (hh : o.hold ≠ none)
    (hp : (s.locker n).phase ≠ .pickup) : decideScan o s = panelRelease o.id n s := by
  simp [decideScan, h, hl, Order.loaded, hh, hp]

/-! ### The panel release (R119, R158) -/

theorem panelRelease_refused (id n : Nat) (st : Status) (h : checkRelease s (s.locker n) = some st) :
    panelRelease id n s = refuseScan (releaseRefusal st).1 (releaseRefusal st).2 (some id) (some n) s := by
  simp only [panelRelease, h]

theorem panelRelease_noRoom (id n : Nat) (h : checkRelease s (s.locker n) = none) (ht : tableTakes s n = false) :
    panelRelease id n s = refuseScan .busy .table (some id) (some n) s := by
  simp [panelRelease, h, ht]

/-- The state in which a panel release has been taken: a WAITING entry, the locker in PICKUP, the outstanding release
(R119, R158). -/
def panelReleaseTaken (id n : Nat) (s : State) : State :=
  let t := (addEntry .panel none .panelRelease n (some .c) none s).modLocker n (Locker.enter .pickup)
  { t with pni := { t.pni with releases := t.pni.releases ++ [(n, id)] } }

theorem panelRelease_taken (id n : Nat) (h : checkRelease s (s.locker n) = none) (ht : tableTakes s n = true) :
    panelRelease id n s = chooseBus (panelReleaseTaken id n s) := by
  simp only [panelRelease, h, ht, if_true]
  rfl

theorem panelReleaseTaken_eq (id n : Nat) (s : State) :
    panelReleaseTaken id n s = { s with
      txu := { s.txu with
        table := s.txu.table ++ [⟨.panel, none, .panelRelease, n, some .c, none, s.txu.nextSeq, .waiting⟩]
        nextSeq := (s.txu.nextSeq + 1) % 65536 }
      pni := { s.pni with releases := s.pni.releases ++ [(n, id)] }
      ltu := { s.ltu with lockers := (panelReleaseTaken id n s).ltu.lockers } } := rfl

theorem panelReleaseTaken_locker_ne (id : Nat) {n m : Nat} (s : State) (h : m ≠ n) :
    (panelReleaseTaken id n s).locker m = s.locker m := State.modLocker_ne _ _ _ _ h

theorem panelReleaseTaken_locker_same (id : Nat) {n : Nat} (s : State) (hn : n < 48)
    (h : (s.locker n).phase = .holding) :
    (panelReleaseTaken id n s).locker n = { s.locker n with
      phase := .pickup, openedNoted := some false, transientTimer := some 0, doorHeld := some false
      unlatchPending := some .c } :=
  (State.modLocker_same _ _ _ hn).trans (enter_transient .pickup (s.locker n) (by simp) (by simp [h]))

/-- LTU's checks of a panel release for an order that is not condemned (R15, R158). -/
theorem checkRelease_sound {l : Locker} (h : orderCondemned s l = false) :
    (l.phase = .offline → checkRelease s l = some .offline) ∧
    (l.phase = .holding → ¬ (l.kDoor = .latched ∧ l.unlatchPending = none) → checkRelease s l = some .interlock) ∧
    (l.phase = .holding → l.kDoor = .latched → l.unlatchPending = none → checkRelease s l = none) := by
  refine ⟨fun off => ?_, fun hold locked => ?_, fun hold latched idle => ?_⟩
  · simp [checkRelease, h, off]
  · simp [checkRelease, h, hold, interlockHolds_not l .c locked]
  · simp [checkRelease, h, hold, interlockHolds_of l .c (by simp [hold]) ⟨latched, idle⟩]

/-- Settles O58. -/
theorem scanByRule : Obligations.ScanByRule := by
  intro chars s
  have scanned : exec (.scan chars) s = .next (chooseTransmit (takeScan chars s.clearPorts)) := rfl
  dsimp only
  rw [scanned]
  refine ⟨fun h => ?_, fun h hp => ?_, fun h hp hd => ?_, fun id o ⟨h, hp, hd⟩ hlen hdig hm ho => ?_⟩
  · rw [takeScan_lockedOut chars (s := s.clearPorts) h, refuseScan_eq]
    rfl
  · rw [takeScan_disabled chars (s := s.clearPorts) h hp, refuseScan_eq]
    rfl
  · rw [takeScan_discovering chars (s := s.clearPorts) h hp hd, refuseScan_eq]
    rfl
  · obtain rfl : o.id = id := s.order_id id o ho
    rw [takeScan_order (s := s.clearPorts) h hp hd (scanCode_digits hlen hdig) hm ho]
    refine ⟨fun hc => ?_, fun hc hl => ?_, fun n hc hl hn => ?_⟩
    · rw [decideScan_condemned hc, refuseScan_eq]
      rfl
    · rw [decideScan_pending hc hl, refuseScan_eq]
      rfl
    refine ⟨fun hh => ?_, fun hh hpick => ?_, fun hh href => ?_⟩
    · rw [decideScan_notLoaded hc hl hh, refuseScan_eq]
      rfl
    · rw [decideScan_inPickup (s := s.clearPorts) hc hl hh hpick, refuseScan_eq]
      rfl
    have sound : orderCondemned s.clearPorts (s.locker n) = false := by
      rw [orderCondemned_of s.clearPorts _ o.id o href ho, hc]
      rfl
    obtain ⟨offline, interlock, passes⟩ := checkRelease_sound sound
    have releases (hpick : (s.locker n).phase ≠ .pickup) :
        decideScan o s.clearPorts = panelRelease o.id n s.clearPorts := decideScan_releases hc hl hh hpick
    refine ⟨fun off => ?_, fun hold locked => ?_, fun hold latched idle => ?_⟩
    · rw [releases (by simp [off]), panelRelease_refused o.id n .offline (offline off), refuseScan_eq]
      rfl
    · rw [releases (by simp [hold]), panelRelease_refused o.id n .interlock (interlock hold locked), refuseScan_eq]
      rfl
    · rw [releases (by simp [hold])]
      have passed := passes hold latched idle
      refine ⟨fun full => ?_, fun room other => ?_⟩
      · rw [panelRelease_noRoom o.id n passed ((tableTakes_false_iff s n).mpr full), refuseScan_eq]
        rfl
      · rw [panelRelease_taken o.id n passed ((tableTakes_iff s n).mpr ⟨room, other⟩)]
        exact ⟨_, rfl, panelReleaseTaken_eq o.id n s.clearPorts, fun m hm => panelReleaseTaken_locker_ne o.id _ hm,
          panelReleaseTaken_locker_same o.id s.clearPorts hn hold⟩

end Sys2Proof.Proofs

/-! ## Every answer owed keeps its place (R112, R122, R127, R136, R139, R148) -/

namespace Sys2Proof.Proofs

open Sys2Proof.Machine

variable {s t u : State}

/-! ### Places to spare -/

/-- `n` of the places held belong to no answer queued and to none owed, and no more than the 32 are held (R136). -/
def Spare (n : Nat) (s : State) : Prop :=
  s.lki.answerQ.length + s.owed + n ≤ s.lki.placesHeld ∧ s.lki.placesHeld ≤ 32

theorem placesCover_iff_spare (s : State) : s.PlacesCover ↔ Spare 0 s := Iff.rfl

/-- What every act but an answer, an entry with a tag and a RESTART does: the places to spare stay to spare. -/
def SpareKept (s t : State) : Prop := ∀ n, Spare n s → Spare n t

theorem SpareKept.refl (s : State) : SpareKept s s := fun _ => id

theorem SpareKept.trans (h : SpareKept s t) (k : SpareKept t u) : SpareKept s u := fun n => k n ∘ h n

theorem SpareKept.foldl {α : Type} (f : State → α → State) (hf : ∀ x a, SpareKept x (f x a)) (as : List α)
    (s : State) : SpareKept s (as.foldl f s) := by
  induction as generalizing s with
  | nil => exact .refl s
  | cons a as ih => exact (hf s a).trans (ih _)

/-- The service of a request takes the place held for it, for an answer that it queues or owes (R136). -/
def PlaceUsed (s t : State) : Prop := Spare 1 s → Spare 0 t

theorem SpareKept.thenUsed (h : SpareKept s t) (k : PlaceUsed t u) : PlaceUsed s u := k ∘ h 1

theorem PlaceUsed.andThen (h : PlaceUsed s t) (k : SpareKept t u) : PlaceUsed s u := k 0 ∘ h

/-- A command that uses no place leaves the one held for it to spare. -/
theorem SpareKept.used (h : SpareKept s t) : PlaceUsed s t := by
  intro k
  obtain ⟨cover, most⟩ := h 1 k
  exact ⟨by omega, most⟩

theorem owed_congr (h : t.txu.table = s.txu.table) : t.owed = s.owed := by
  unfold State.owed
  rw [h]

/-- An act that leaves the answers, the places and the transaction table alone. -/
theorem SpareKept.of_same (ha : t.lki.answerQ = s.lki.answerQ) (hp : t.lki.placesHeld = s.lki.placesHeld)
    (ht : t.txu.table = s.txu.table) : SpareKept s t := by
  unfold SpareKept Spare
  rw [ha, hp, owed_congr ht]
  exact fun _ => id

/-- An act that leaves the link interface alone and owes no more than before. -/
theorem SpareKept.of_owed (hl : t.lki = s.lki) (ho : t.owed ≤ s.owed) : SpareKept s t := by
  unfold SpareKept Spare
  rw [hl]
  rintro n ⟨cover, most⟩
  exact ⟨by omega, most⟩

theorem recordsOnly_spare (h : RecordsOnly s t) : SpareKept s t :=
  .of_same h.answerQ h.placesHeld (by rw [h.txu])

/-! ### Answers and the transmit framer (R136, R139, R140) -/

theorem answer_used (k : Kind) (tag : Nat) (st : Status) (b : List Field) (s : State) :
    PlaceUsed s (answer k tag st b s) := by
  rintro ⟨cover, most⟩
  have same : (answer k tag st b s).owed = s.owed := owed_congr rfl
  refine ⟨?_, most⟩
  rw [same, answer_lki, List.length_append, List.length_singleton]
  simp only
  omega

theorem submitReportsLost_spare (s : State) : SpareKept s (submitReportsLost s) := by
  refine .of_same ?_ ?_ (by rw [(submitReportsLost_onlyLink s).txu]) <;> rw [submitReportsLost_eq]

/-- The frame begun takes its answer out of the queue and releases the answer's place. -/
theorem chooseTransmit_spare (s : State) : SpareKept s (chooseTransmit s) := by
  unfold chooseTransmit
  split
  · exact .refl s
  · split
    case h_1 a rest hq =>
      rintro n ⟨cover, most⟩
      rw [hq, List.length_cons] at cover
      have places : rest.length + s.owed + n ≤ s.lki.placesHeld - 1 := by omega
      exact ⟨places, (Nat.sub_le _ _).trans most⟩
    case h_2 =>
      split
      case h_1 r rest hq =>
        have begun : SpareKept s (beginTransmit (.report r) (s.withLki { s.lki with reportQ := rest })) :=
          .of_same rfl rfl rfl
        exact begun.trans (submitReportsLost_spare _)
      case h_2 => exact .refl s

/-- A request that finds a free place holds it (R136). -/
theorem accepted_spare (h : Spare 0 s) (free : s.lki.placesHeld < 32) : Spare 1 s.accepted := by
  obtain ⟨cover, -⟩ := h
  have same : s.accepted.owed = s.owed := owed_congr (by simp)
  refine ⟨?_, ?_⟩
  · rw [same, accepted_answerQ, accepted_placesHeld]
    omega
  · rw [accepted_placesHeld]
    omega

theorem heard_spare (s : State) : SpareKept s s.heard := .of_same (by simp) (by simp) (by simp)

theorem takeRequest_spare (serve : State → State) (hs : ∀ x, PlaceUsed x (serve x)) (s : State) (h : Spare 0 s) :
    Spare 0 (takeRequest serve s) := by
  by_cases free : s.lki.placesHeld < 32
  · rw [takeRequest_free serve s free]
    exact chooseTransmit_spare _ 0 (hs _ (accepted_spare h free))
  · rw [takeRequest_full serve s (by omega)]
    have discarded : SpareKept s.heard (discardFrame .overrun s.heard) := .of_same rfl rfl rfl
    exact chooseTransmit_spare _ 0 (discarded 0 (heard_spare s 0 h))

/-! ### The transaction table (R112, R122, R123) -/

/-- An entry with a tag is an answer owed (R112). -/
theorem addEntry_used (o : Origin) (tag : Option Nat) (r : CmdRequest) (n : Nat) (d : Option Door) (i : Option Nat)
    (s : State) : PlaceUsed s (addEntry o tag r n d i s) := by
  rintro ⟨cover, most⟩
  have more : (addEntry o tag r n d i s).owed ≤ s.owed + 1 := by
    unfold State.owed
    simp only [addEntry, State.withTxu, List.filter_append, List.length_append]
    exact Nat.add_le_add_left (List.length_filter_le _ _) _
  have link : (addEntry o tag r n d i s).lki = s.lki := rfl
  refine ⟨?_, most⟩
  rw [link]
  omega

/-- A panel release has no tag, and no answer is owed for it (R119). -/
theorem addEntry_untagged_spare (o : Origin) (r : CmdRequest) (n : Nat) (d : Option Door) (i : Option Nat) (s : State) :
    SpareKept s (addEntry o none r n d i s) :=
  .of_owed rfl (by simp [State.owed, addEntry, List.filter_append])

theorem putOnBus_spare (q : Nat) (s : State) : SpareKept s (putOnBus q s) := by
  have sameTag : ((fun e : Entry => e.tag.isSome) ∘
      fun e : Entry => if e.seq == q then { e with stage := .onBus } else e) = fun e => e.tag.isSome := by
    funext e
    dsimp only [Function.comp]
    split <;> rfl
  refine .of_owed rfl (le_of_eq ?_)
  simp only [State.owed, putOnBus, State.withTxu, List.filter_map, List.length_map, sameTag]

theorem removeEntry_spare (q : Nat) (s : State) : SpareKept s (removeEntry q s) :=
  .of_owed rfl (List.filter_sublist.filter _).length_le

/-- An entry of the table that carries a tag takes the answer owed with it. -/
theorem removeEntry_owed {e : Entry} (he : e ∈ s.txu.table) (ht : e.tag.isSome = true) :
    (removeEntry e.seq s).owed + 1 ≤ s.owed := by
  have taken : e ∈ s.txu.table.filter fun x => x.tag.isSome := List.mem_filter.mpr ⟨he, ht⟩
  have fewer : ((s.txu.table.filter fun x => x.tag.isSome).filter fun x => x.seq != e.seq).length < s.owed :=
    List.length_filter_lt_length_iff_exists.mpr ⟨e, taken, by simp⟩
  rwa [List.filter_comm] at fewer

theorem panelReleaseEnd_spare (n : Nat) (o : CmdOutcome) (s : State) : SpareKept s (panelReleaseEnd n o s) := by
  have shown (m : PanelMessage) : SpareKept s (display m (dropRelease n s)) := .of_same rfl rfl rfl
  unfold panelReleaseEnd
  dsimp only
  split
  · exact (shown _).trans (recordsOnly_spare (submit_records _ _ _))
  · exact (shown _).trans (recordsOnly_spare (submit_records _ _ _))

/-- The end of a confirmed command queues the answer it owed (R122). -/
theorem completeEntry_spare (e : Entry) (o : CmdOutcome) (s : State) (he : e ∈ s.txu.table) :
    SpareKept s (completeEntry e o s) := by
  unfold completeEntry
  dsimp only
  split
  · exact (removeEntry_spare e.seq s).trans (panelReleaseEnd_spare _ _ _)
  · split
    · exact removeEntry_spare e.seq s
    case h_2 tag ht =>
      refine SpareKept.trans (t := answer e.request.kind tag (completionAnswer e o).1 (completionAnswer e o).2
        (removeEntry e.seq s)) ?_ (.of_same rfl rfl rfl)
      rintro n ⟨cover, most⟩
      have paid := removeEntry_owed he (by rw [ht]; rfl)
      have same : (answer e.request.kind tag (completionAnswer e o).1 (completionAnswer e o).2
        (removeEntry e.seq s)).owed = (removeEntry e.seq s).owed := owed_congr rfl
      have link : (removeEntry e.seq s).lki = s.lki := rfl
      refine ⟨?_, most⟩
      rw [same, answer_lki, link, List.length_append, List.length_singleton]
      simp only
      omega

theorem endConfirmed_spare (e : Entry) (o : CmdOutcome) (s : State) (he : e ∈ s.txu.table) :
    SpareKept s (endConfirmed e o s) := by
  have records := lockerCommandEnd_records e o s
  exact (recordsOnly_spare records).trans (completeEntry_spare e o _ (by rw [records.txu]; exact he))

theorem endPosted_spare (p : Posted) (o : CmdOutcome) (s : State) : SpareKept s (endPosted p o s) := by
  have counted : SpareKept s (countPostedLost (removePosted p.seq s)) := .of_same rfl rfl rfl
  unfold endPosted
  dsimp only
  split
  · exact .of_same rfl rfl rfl
  · split
    · exact counted.trans (recordsOnly_spare (submit_records _ _ _))
    · exact counted
  · exact counted.trans (recordsOnly_spare (submit_records _ _ _))
  · exact counted

theorem endCommand_spare (q : Nat) (o : CmdOutcome) (s : State) : SpareKept s (endCommand q o s) := by
  unfold endCommand
  split
  case h_1 e he => exact endConfirmed_spare e o s (entryBySeq_mem _ _ _ he)
  case h_2 =>
    split
    · exact endPosted_spare _ _ _
    · exact .refl s

theorem discardPosted_spare (s : State) : SpareKept s (discardPosted s) := .of_same rfl rfl rfl

theorem txuBankReset_spare (s : State) : SpareKept s (txuBankReset s) :=
  (SpareKept.foldl _ (fun x q => endCommand_spare q _ x) _ s).trans (discardPosted_spare _)

theorem acceptLongOp_used (k : Kind) (op : LongOpKind) (tag : Nat) (s : State) :
    PlaceUsed s (acceptLongOp k op tag s) := by
  have taken : SpareKept s (s.withTxu { s.txu with longOp := some ⟨op, some tag⟩ }) := .of_same rfl rfl rfl
  exact taken.thenUsed (answer_used k tag .accepted [] _)

theorem endLongOp_spare (st : Status) (s : State) : SpareKept s (endLongOp st s) := by
  have freed (x : State) : SpareKept x (x.withTxu { x.txu with longOp := none }) := .of_same rfl rfl rfl
  unfold endLongOp
  split
  · exact .refl s
  · dsimp only
    split
    · exact (recordsOnly_spare (submitTagged_records _ _ _ s)).trans (freed _)
    · exact freed s

/-! ### The poll cycle and the arbiter (chapter 05) -/

/-- A change of BBM's state is none of link or commands. -/
theorem withBbm_spare (b : Bbm) (s : State) : SpareKept s (s.withBbm b) := .of_same rfl rfl rfl

theorem startGap_spare (s : State) : SpareKept s (startGap s) := by
  unfold startGap
  split <;> exact withBbm_spare _ s

theorem beginCycle_spare (s : State) : SpareKept s (beginCycle s) := by
  have begun := withBbm_spare { s.bbm with cycle := .running, cursor := 0, pollGap := none } s
  unfold beginCycle
  dsimp only
  split
  · exact begun.trans (startGap_spare _)
  · exact begun

theorem endOfPoll_spare (s : State) : SpareKept s (endOfPoll s) := by
  unfold endOfPoll
  split
  · exact startGap_spare s
  · exact .refl s

theorem cycleAfterLayoutWrite_spare (s : State) : SpareKept s (cycleAfterLayoutWrite s) := by
  unfold cycleAfterLayoutWrite
  split
  · exact startGap_spare s
  · exact .refl s

theorem cycleAfterQuiet_spare (s : State) : SpareKept s (cycleAfterQuiet s) := by
  unfold cycleAfterQuiet
  split
  · exact startGap_spare s
  · exact .refl s

theorem beginPoll_spare (r : PollRequest) (s : State) : SpareKept s (beginPoll r s) := by
  cases r <;> exact .of_same rfl rfl rfl

theorem beginExchange_spare (n q : Nat) (f : BusFrame) (s : State) : SpareKept s (beginExchange n q f s) :=
  .of_same rfl rfl rfl

theorem beginCommand_spare (q : Nat) (s : State) : SpareKept s (beginCommand q s) := by
  have on := (withBbm_spare { s.bbm with lastWinner := .command } s).trans (putOnBus_spare q _)
  unfold beginCommand
  dsimp only
  split
  · split
    · split
      · exact on.trans (endCommand_spare _ _ _)
      · exact on.trans (beginExchange_spare _ _ _ _)
    · exact on.trans (beginExchange_spare _ _ _ _)
  · split
    · exact on.trans (beginExchange_spare _ _ _ _)
    · exact on

theorem chooseBusLoop_spare (k : Nat) (s : State) : SpareKept s (chooseBusLoop k s) := by
  induction k generalizing s with
  | zero => exact .refl s
  | succ k ih =>
    unfold chooseBusLoop
    split
    · split
      · exact .of_same rfl rfl rfl
      · split
        · split
          · exact beginPoll_spare _ s
          · exact (beginCommand_spare _ s).trans (ih _)
        · exact (beginCommand_spare _ s).trans (ih _)
        · exact beginPoll_spare _ s
        · exact .refl s
    · exact .refl s

theorem chooseBus_spare (s : State) : SpareKept s (chooseBus s) := chooseBusLoop_spare _ s

/-- A door request is answered by a refusal, or owed its answer once it is taken (R10, R118). -/
theorem takeDoorCommand_used (r : CmdRequest) (tag n : Nat) (d : Door) (enter : State → State) (s : State)
    (he : ∀ x, RecordsOnly x (enter x)) : PlaceUsed s (takeDoorCommand r tag n d enter s) := by
  unfold takeDoorCommand
  split
  · exact answer_used _ _ _ _ s
  · exact ((addEntry_used _ _ _ _ _ _ s).andThen (recordsOnly_spare (he _))).andThen (chooseBus_spare _)

/-! ### The reset pulse, discovery and the frame start (R71, R109, R188 to R191) -/

theorem cutOff_spare (s : State) : SpareKept s (cutOff s) := by
  have cleared := withBbm_spare { s.bbm with exchange := none } s
  unfold cutOff
  split
  · exact .refl s
  · exact cleared.trans (endCommand_spare _ _ _)
  · exact .of_same rfl rfl rfl
  · exact cleared

theorem startPulse_spare (s : State) : SpareKept s (startPulse s) := by
  have pulse : SpareKept s (pulsed s) :=
    (((cutOff_spare s).trans (withBbm_spare _ _)).trans (txuBankReset_spare _)).trans
      (recordsOnly_spare (resetNotice_records _))
  rw [startPulse_eq]
  split
  · exact pulse.trans (recordsOnly_spare (setAsideAll_records _))
  · exact pulse

theorem pulseIfIdle_spare (s : State) : SpareKept s (pulseIfIdle s) := by
  unfold pulseIfIdle
  split
  · exact startPulse_spare s
  · exact .refl s

theorem beginDiscovery_spare (k : DiscoveryKind) (s : State) : SpareKept s (beginDiscovery k s) := by
  have begun : SpareKept s ((s.withLtu { s.ltu with
      discovery := some ⟨k, .reset⟩, probeCursor := 0, probing := none, answered := 0 }).withBbm
        { s.bbm with cycle := .stopped, pollGap := none }) := .of_same rfl rfl rfl
  unfold beginDiscovery
  dsimp only
  split
  · exact (begun.trans (recordsOnly_spare (setAsideAll_records _))).trans (pulseIfIdle_spare _)
  · exact begun.trans (pulseIfIdle_spare _)

theorem latchFeed_spare (f : Nat) (s : State) : SpareKept s (latchFeed f s) := by
  have latched (h : Hta) : SpareKept s { s with hta := h } := .of_same rfl rfl rfl
  unfold latchFeed
  dsimp only
  split
  · exact (latched _).trans (recordsOnly_spare (submit_records _ _ _))
  · split
    · exact (latched _).trans (recordsOnly_spare (submit_records _ _ _))
    · exact latched _

theorem grantFrame_spare (demands : List Nat) (s : State) : SpareKept s (grantFrame demands s) := by
  unfold grantFrame
  dsimp only
  refine SpareKept.trans ?_ (.foldl _ (fun x n => recordsOnly_spare (creditAndStarve_records _ _ _ n x)) _ _)
  exact .of_same rfl rfl rfl

theorem frameStart_spare (s : State) : SpareKept s (frameStart s) := by
  unfold frameStart
  dsimp only
  refine ((((SpareKept.trans ?_ (.foldl _ (fun x f => latchFeed_spare f x) _ _)).trans
    (.foldl _ (fun x n => recordsOnly_spare (purgeDone_records n x)) _ _)).trans
    (.foldl _ (fun x n => recordsOnly_spare (suspendOrResume_records n x)) _ _)).trans
    (.foldl _ (fun x n => recordsOnly_spare (examineInhibit_records n x)) _ _)).trans (grantFrame_spare _ _)
  exact .of_same rfl rfl rfl

/-- A change of LTU's discovery state. -/
theorem withLtu_spare (l : Ltu) (s : State) : SpareKept s (s.withLtu l) := .of_same rfl rfl rfl

theorem endDiscovery_spare (k : DiscoveryKind) (s : State) : SpareKept s (endDiscovery k s) := by
  have ended : SpareKept s
      (beginCycle ((reportStarted k s).withLtu { (reportStarted k s).ltu with discovery := none })) :=
    ((recordsOnly_spare (submit_records _ _ s)).trans (withLtu_spare _ _)).trans (beginCycle_spare _)
  cases k
  · have framed := ended.trans (frameStart_spare _)
    unfold endDiscovery
    dsimp only
    generalize frameStart _ = x at framed ⊢
    have timed : SpareKept x (State.withLki { x with hau := { x.hau with tickTimer := some 0 } }
      { x.lki with silenceTimer := some 0 }) := .of_same rfl rfl rfl
    exact (framed.trans timed).trans (endLongOp_spare _ _)
  · exact ended.trans (endLongOp_spare _ _)

theorem endDiscoveryIfSurveyed_spare (s : State) : SpareKept s (endDiscoveryIfSurveyed s) := by
  unfold endDiscoveryIfSurveyed
  split
  · split
    · exact endDiscovery_spare _ s
    · exact .refl s
  · exact .refl s

theorem endNotice_spare (s : State) : SpareKept s (endNotice s) := by
  unfold endNotice
  split
  · unfold beginProbing
    split
    · exact (withLtu_spare _ s).trans (endDiscoveryIfSurveyed_spare _)
    · exact .refl s
  · split
    · exact endLongOp_spare _ s
    · exact .refl s

/-! ### The ends of exchanges (R91, R92, R96) -/

theorem afterExchange_spare (s : State) : SpareKept s (afterExchange s) := by
  unfold afterExchange
  split
  · exact startPulse_spare s
  · exact chooseBus_spare s

theorem pollEnded_spare (n : Nat) (r : Option Observation) (m : Bool) (s : State) :
    SpareKept s (pollEnded n r m s) := by
  unfold pollEnded
  dsimp only
  refine SpareKept.trans ?_ ((endOfPoll_spare _).trans (afterExchange_spare _))
  split
  · exact (withBbm_spare _ s).trans (recordsOnly_spare (goodPoll_records _ _ _ _))
  · exact ((withBbm_spare _ s).trans (withBbm_spare _ _)).trans (recordsOnly_spare (failedPoll_records _ _))

theorem probeEnded_spare (n : Nat) (r : Option Observation) (m : Bool) (s : State) :
    SpareKept s (probeEnded n r m s) := by
  have handled (x : State) : SpareKept x (endOfProbe x) :=
    (withLtu_spare _ x).trans (endDiscoveryIfSurveyed_spare _)
  unfold probeEnded
  dsimp only
  refine SpareKept.trans ?_ ((handled _).trans (afterExchange_spare _))
  split
  · exact (((withBbm_spare _ s).trans (recordsOnly_spare (modLocker_records _ _ _))).trans
      (recordsOnly_spare (settleProbed_records _ _ _ _))).trans (withLtu_spare _ _)
  · exact ((withBbm_spare _ s).trans (withBbm_spare _ _)).trans (recordsOnly_spare (probeFailed_records _ _))

theorem commandEnded_spare (q : Nat) (o : CmdOutcome) (s : State) : SpareKept s (commandEnded q o s) := by
  unfold commandEnded
  dsimp only
  refine SpareKept.trans ?_ ((endCommand_spare _ _ _).trans (afterExchange_spare _))
  split
  · exact (withBbm_spare _ s).trans (withBbm_spare _ _)
  · exact withBbm_spare _ s

theorem attemptFailed_spare (s : State) : SpareKept s (attemptFailed s) := by
  have retried (b : Bbm) (f : BusFrame) : SpareKept s ((s.withBbm b).emit (.bus f)) := .of_same rfl rfl rfl
  unfold attemptFailed
  split
  · split
    · exact retried _ _
    · exact pollEnded_spare _ _ _ s
  · split
    · exact retried _ _
    · exact probeEnded_spare _ _ _ s
  · split
    · exact retried _ _
    · exact commandEnded_spare _ _ s
  · exact .refl s

theorem attemptSucceeded_spare (r : Reply) (s : State) : SpareKept s (attemptSucceeded r s) := by
  unfold attemptSucceeded
  split
  · exact pollEnded_spare _ _ _ s
  · exact pollEnded_spare _ _ _ s
  · exact probeEnded_spare _ _ _ s
  · exact probeEnded_spare _ _ _ s
  · exact commandEnded_spare _ _ s
  · exact .refl s

end Sys2Proof.Proofs

/-! ## The places for answers under every command (R116 to R119, R127, R136, R139, R148) -/

namespace Sys2Proof.Proofs

open Sys2Proof.Machine

variable {s t u : State}

/-! ### Requests of class ORDER (chapters 01 to 03) -/

/-- An answer after an act on the records. -/
theorem recorded_used (k : Kind) (tag : Nat) (st : Status) (b : List Field) (h : RecordsOnly s t) :
    PlaceUsed s (answer k tag st b t) := (recordsOnly_spare h).thenUsed (answer_used k tag st b t)

theorem serveBook_used (tag id code cls p bu de : Nat) (s : State) :
    PlaceUsed s (serveBook tag id code cls p bu de s) := by
  have refused (st : Status) : PlaceUsed s (answer kBook tag st [] s) := answer_used _ _ _ _ s
  unfold serveBook
  split
  · exact refused _
  · split
    · exact refused _
    · split
      · exact refused _
      · dsimp only
        unfold bookAllocate
        split
        · exact recorded_used _ _ _ _ ((oru_records _ s).trans (join_records _ _ _))
        · split
          · exact recorded_used _ _ _ _ (oru_records _ s)
          · exact refused _

theorem serveCancel_used (tag id : Nat) (s : State) : PlaceUsed s (serveCancel tag id s) := by
  have plain (st : Status) : PlaceUsed s (answer kCancel tag st [] s) := answer_used _ _ _ _ s
  have condemned : PlaceUsed s (answer kCancel tag .ok [] (condemn id .cancelled s)) :=
    recorded_used _ _ _ _ (condemn_records _ _ s)
  have removed : RecordsOnly s (removeOrder id s) := removeOrder_records id s
  unfold serveCancel
  split
  · exact plain _
  · split
    · exact plain _
    · split
      · exact recorded_used _ _ _ _ removed
      · unfold cancelPlaced
        dsimp only
        split
        · exact recorded_used _ _ _ _
            ((removed.trans (moveToUnlessExcluded_records _ _ _)).trans (announceFree_records _ _))
        · exact condemned
        · exact plain _
        · exact plain _
        · split
          · exact recorded_used _ _ _ _ (removed.trans (modLocker_records _ _ _))
          · exact condemned
          · exact plain _
          · exact plain _
          · exact plain _
        · exact plain _

theorem serveExtend_used (tag id seconds : Nat) (s : State) : PlaceUsed s (serveExtend tag id seconds s) := by
  have refused (st : Status) : PlaceUsed s (answer kExtend tag st [] s) := answer_used _ _ _ _ s
  unfold serveExtend
  split
  · exact refused _
  · split
    · exact refused _
    · split
      · exact refused _
      · split
        · exact refused _
        · split
          · exact refused _
          · unfold applyExtend
            split <;> exact recorded_used _ _ _ _ (modOrder_records _ _ s)

theorem withPlacedOrder_used (k : Kind) (tag id : Nat) (rest : Nat → State → State) (s : State)
    (hr : ∀ n, PlaceUsed s (rest n s)) : PlaceUsed s (withPlacedOrder k tag id rest s) := by
  unfold withPlacedOrder
  split
  · exact answer_used _ _ _ _ s
  · split
    · exact answer_used _ _ _ _ s
    · split
      · exact answer_used _ _ _ _ s
      · exact hr _

theorem serveLoadOpen_used (tag id : Nat) (s : State) : PlaceUsed s (serveLoadOpen tag id s) := by
  refine withPlacedOrder_used _ _ _ _ s fun n => ?_
  split
  · exact answer_used _ _ _ _ s
  · exact takeDoorCommand_used _ _ _ _ _ s fun x => modLocker_records _ _ x

theorem serveRelease_used (tag id : Nat) (s : State) : PlaceUsed s (serveRelease tag id s) := by
  refine withPlacedOrder_used _ _ _ _ s fun n => ?_
  split
  · exact answer_used _ _ _ _ s
  · exact takeDoorCommand_used _ _ _ _ _ s fun x => modLocker_records _ _ x

theorem serveClear_used (tag id : Nat) (s : State) : PlaceUsed s (serveClear tag id s) := by
  refine withPlacedOrder_used _ _ _ _ s fun n => ?_
  split
  · exact answer_used _ _ _ _ s
  · exact takeDoorCommand_used _ _ _ _ _ s fun x => enterClearing_records _ x

theorem serveQueryOrder_used (tag id : Nat) (s : State) : PlaceUsed s (serveQueryOrder tag id s) := by
  unfold serveQueryOrder
  split
  · exact answer_used _ _ _ _ s
  · split <;> exact answer_used _ _ _ _ s

/-! ### Requests of class MODULE (chapter 06) -/

theorem servePosted_used (k : Kind) (tag n : Nat) (ok : Bool) (c : PostedContent) (st : Status) (s : State) :
    PlaceUsed s (servePosted k tag n ok c st s) := by
  have refused (x : Status) : PlaceUsed s (answer k tag x [] s) := answer_used _ _ _ _ s
  have queued : SpareKept s (addPosted n tag c s) := .of_same rfl rfl rfl
  unfold servePosted
  split
  · exact refused _
  · split
    · exact refused _
    · split
      · exact refused _
      · split
        · exact refused _
        · split
          · exact refused _
          · exact (queued.thenUsed (answer_used _ _ _ _ _)).andThen (chooseBus_spare _)

theorem serveModuleRead_used (tag n item : Nat) (s : State) : PlaceUsed s (serveModuleRead tag n item s) := by
  have refused (x : Status) : PlaceUsed s (answer kModuleRead tag x [] s) := answer_used _ _ _ _ s
  unfold serveModuleRead
  split
  · exact refused _
  · split
    · exact refused _
    · split
      · exact refused _
      · split
        · exact refused _
        · split
          · exact refused _
          · exact (addEntry_used _ _ _ _ _ _ s).andThen (chooseBus_spare _)

/-- An aborted command and the ABORT are both answered, each in its own place (R125). -/
theorem serveAbort_used (tag target : Nat) (s : State) : PlaceUsed s (serveAbort tag target s) := by
  unfold serveAbort
  split
  case h_1 e he =>
    split
    · exact (endConfirmed_spare e _ s (List.mem_of_find?_eq_some he)).thenUsed (answer_used _ _ _ _ _)
    · exact answer_used _ _ _ _ s
  case h_2 => split <;> exact answer_used _ _ _ _ s

/-! ### Requests of class MGMT (chapters 01, 06, 07, 09, 10) -/

/-- A change of the settings touches neither link nor commands. -/
theorem withSst_spare (x : Sst) (s : State) : SpareKept s (s.withSst x) := .of_same rfl rfl rfl

theorem serveTableRead_used (tag a i : Nat) (s : State) : PlaceUsed s (serveTableRead tag a i s) := by
  unfold serveTableRead
  split <;> exact answer_used _ _ _ _ s

theorem writeLayout_used (tag n p c f w : Nat) (s : State) : PlaceUsed s (writeLayout tag n p c f w s) := by
  have refused (st : Status) : PlaceUsed s (refuseWrite tag st s) := answer_used _ _ _ _ s
  unfold writeLayout
  split
  · exact refused _
  · split
    · split
      · exact refused _
      · split
        · exact refused _
        · exact (SpareKept.thenUsed
            (((withSst_spare _ s).trans (recordsOnly_spare (layoutAccepted_records n _ _))).trans
              (cycleAfterLayoutWrite_spare _))
            (answer_used _ _ _ _ _)).andThen (chooseBus_spare _)
    · exact refused _

theorem serveTableWrite_used (tag i : Nat) (r : TableRecord) (s : State) :
    PlaceUsed s (serveTableWrite tag i r s) := by
  have refused (st : Status) : PlaceUsed s (refuseWrite tag st s) := answer_used _ _ _ _ s
  have written (w : Settings) (a : Nat) (c : Bool) (b : List Field) :
      PlaceUsed s (answerWrite tag a i c b (s.withWorking w)) :=
    (withSst_spare _ s).thenUsed (answer_used _ _ _ _ _)
  unfold serveTableWrite
  split
  · exact writeLayout_used _ _ _ _ _ _ s
  · unfold writeProfile
    split
    · exact refused _
    · split
      · exact refused _
      · split
        · exact written _ _ _ _
        · exact refused _
  · unfold writeFeed
    split
    · exact refused _
    · split
      · exact refused _
      · exact written _ _ _ _

theorem serveParamGet_used (tag p : Nat) (s : State) : PlaceUsed s (serveParamGet tag p s) := by
  unfold serveParamGet
  split <;> exact answer_used _ _ _ _ s

theorem serveParamSet_used (tag p v : Nat) (s : State) : PlaceUsed s (serveParamSet tag p v s) := by
  unfold serveParamSet
  split
  · exact answer_used _ _ _ _ s
  · split
    · unfold writeStrictHold
      split
      · exact answer_used _ _ _ _ s
      · exact (withSst_spare _ s).thenUsed (answer_used _ _ _ _ _)
    · exact ((withSst_spare _ s).trans (recordsOnly_spare (paramActs_records _ _ _))).thenUsed (answer_used _ _ _ _ _)

theorem serveStore_used (tag : Nat) (s : State) : PlaceUsed s (serveStore tag s) := by
  unfold serveStore
  split
  · exact answer_used _ _ _ _ s
  · exact (acceptLongOp_used _ _ _ s).andThen (withSst_spare _ _)

theorem serveRescan_used (tag : Nat) (s : State) : PlaceUsed s (serveRescan tag s) := by
  unfold serveRescan
  split
  · exact answer_used _ _ _ _ s
  · split
    · exact answer_used _ _ _ _ s
    · exact (acceptLongOp_used _ _ _ s).andThen (beginDiscovery_spare _ _)

theorem serveBankReset_used (tag : Nat) (s : State) : PlaceUsed s (serveBankReset tag s) := by
  unfold serveBankReset
  split
  · exact answer_used _ _ _ _ s
  · exact (acceptLongOp_used _ _ _ s).andThen (startPulse_spare _)

theorem serveServiceOn_used (tag n : Nat) (s : State) : PlaceUsed s (serveServiceOn tag n s) := by
  unfold serveServiceOn
  split
  · exact answer_used _ _ _ _ s
  · split
    · split
      · exact answer_used _ _ _ _ s
      · exact recorded_used _ _ _ _ (moveTo_records _ _ s)
    · exact answer_used _ _ _ _ s

theorem serveServiceOff_used (tag n : Nat) (s : State) : PlaceUsed s (serveServiceOff tag n s) := by
  unfold serveServiceOff
  split
  · exact answer_used _ _ _ _ s
  · dsimp only
    split
    · exact answer_used _ _ _ _ s
    · split
      · exact answer_used _ _ _ _ s
      · exact recorded_used _ _ _ _ ((modLocker_records _ _ s).trans (moveTo_records _ _ _))

theorem serveServiceUnlatch_used (tag n d : Nat) (s : State) : PlaceUsed s (serveServiceUnlatch tag n d s) := by
  unfold serveServiceUnlatch
  split
  · exact answer_used _ _ _ _ s
  · split
    · exact answer_used _ _ _ _ s
    · split
      · exact answer_used _ _ _ _ s
      · exact takeDoorCommand_used _ _ _ _ _ s fun x => modLocker_records _ _ x

theorem serveClearLocker_used (tag n : Nat) (s : State) : PlaceUsed s (serveClearLocker tag n s) := by
  unfold serveClearLocker
  split
  · exact answer_used _ _ _ _ s
  · split
    · exact answer_used _ _ _ _ s
    · exact takeDoorCommand_used _ _ _ _ _ s fun x => enterClearing_records _ x

/-- RESTART keeps its own place alone: the queued answers are cleared, and no entry keeps a tag (R130, R148). -/
theorem restarted_spare (s : State) : Spare 1 (restartCommands (s.withLki (restartLink s.lki))) := by
  have owes : (restartCommands (s.withLki (restartLink s.lki))).owed = 0 := by
    simp only [State.owed, restartCommands_eq, State.withTxu, List.length_eq_zero_iff, List.filter_eq_nil_iff,
      List.mem_map]
    rintro _ ⟨x, -, rfl⟩
    simp
  have link : (restartCommands (s.withLki (restartLink s.lki))).lki = restartLink s.lki := by
    rw [restartCommands_eq]
    exact foldl_discardFound_lki _ _
  unfold Spare
  rw [owes, link]
  simp [restartLink]

theorem serveRestart_used (tag : Nat) (s : State) : PlaceUsed s (serveRestart tag s) := by
  unfold serveRestart
  split
  · exact answer_used _ _ _ _ s
  · have answered := (answer_used kRestart tag .ok [] _).andThen (submitReportsLost_spare _) (restarted_spare s)
    intro _
    exact SpareKept.foldl _ (fun x r => recordsOnly_spare (submit_records _ _ x)) _ _ 0 answered

theorem serveRequest_used (i : Instr) (s : State) : PlaceUsed s (serveRequest i s) := by
  cases i with
  | book => exact serveBook_used _ _ _ _ _ _ _ s
  | cancel => exact serveCancel_used _ _ s
  | extend => exact serveExtend_used _ _ _ s
  | loadOpen => exact serveLoadOpen_used _ _ s
  | release => exact serveRelease_used _ _ s
  | clear => exact serveClear_used _ _ s
  | queryOrder => exact serveQueryOrder_used _ _ s
  | lamp => exact servePosted_used _ _ _ _ _ _ s
  | label => exact servePosted_used _ _ _ _ _ _ s
  | moduleWrite => exact servePosted_used _ _ _ _ _ _ s
  | moduleRead => exact serveModuleRead_used _ _ _ s
  | abort => exact serveAbort_used _ _ s
  | tableRead => exact serveTableRead_used _ _ _ s
  | tableWrite => exact serveTableWrite_used _ _ _ s
  | paramGet => exact serveParamGet_used _ _ s
  | paramSet => exact serveParamSet_used _ _ _ s
  | store => exact serveStore_used _ s
  | rescan => exact serveRescan_used _ s
  | bankReset => exact serveBankReset_used _ s
  | serviceOn => exact serveServiceOn_used _ _ s
  | serviceOff => exact serveServiceOff_used _ _ s
  | serviceUnlatch => exact serveServiceUnlatch_used _ _ _ s
  | clearLocker => exact serveClearLocker_used _ _ s
  | status => exact answer_used _ _ _ _ s
  | restart => exact serveRestart_used _ s
  | _ => exact (SpareKept.refl s).used

/-! ### Events of the link and the panel (chapters 07 and 08) -/

theorem serveFrame_used (cls kind tag : Nat) (p : List Byte) (s : State) :
    PlaceUsed s (serveFrame cls kind tag p s) := by
  unfold serveFrame
  split
  · exact serveRequest_used _ s
  · exact answer_used _ _ _ _ s
  · exact answer_used _ _ _ _ s

/-- The receive framer and the discards touch neither answers nor places (R133, R135). -/
theorem setRx_spare (r : RxFramer) (g : Option Nat) (s : State) : SpareKept s (s.setRx r g) := .of_same rfl rfl rfl

theorem discardFrame_spare (c : LinkError) (s : State) : SpareKept s (discardFrame c s) := .of_same rfl rfl rfl

theorem completeFrame_spare (bytes : List Byte) (check : Nat) (s : State) (h : Spare 0 s) :
    Spare 0 (completeFrame bytes check s) := by
  have hunting : Spare 0 (s.setRx .hunt none) := setRx_spare _ _ s 0 h
  unfold completeFrame
  dsimp only
  split
  · exact discardFrame_spare _ _ 0 hunting
  · split
    · exact takeRequest_spare _ (serveFrame_used _ _ _ _) _ hunting
    · exact discardFrame_spare _ _ 0 hunting

theorem receive_spare (b : Byte) (s : State) (h : Spare 0 s) : Spare 0 (receive b s) := by
  have rx (r : RxFramer) (g : Option Nat) : Spare 0 (s.setRx r g) := setRx_spare r g s 0 h
  unfold receive
  split
  · split
    · exact rx _ _
    · exact h
  · split
    · exact rx _ _
    · exact discardFrame_spare _ _ 0 (rx _ _)
  · dsimp only
    split <;> exact rx _ _
  · exact rx _ _
  · exact completeFrame_spare _ _ s h

theorem refuseScan_spare (m : PanelMessage) (c : PanelCause) (id n : Option Nat) (s : State) :
    SpareKept s (refuseScan m c id n s) := by
  have shown : SpareKept s (display m s) := .of_same rfl rfl rfl
  exact shown.trans (recordsOnly_spare (submit_records _ _ _))

theorem countUnknown_spare (s : State) : SpareKept s (countUnknown s) := by
  have shown (m : PanelMessage) (p : Pni) : SpareKept s (display m { s with pni := p }) := .of_same rfl rfl rfl
  unfold countUnknown
  split
  · exact shown _ _
  · exact shown _ _
  · exact shown _ _
  · exact shown _ _
  · exact (shown _ _).trans (recordsOnly_spare (submit_records _ _ _))

theorem panelRelease_spare (id n : Nat) (s : State) : SpareKept s (panelRelease id n s) := by
  have released (x : State) (p : Pni) : SpareKept x { x with pni := p } := .of_same rfl rfl rfl
  unfold panelRelease
  split
  · exact refuseScan_spare _ _ _ _ s
  · split
    · exact (((addEntry_untagged_spare _ _ _ _ _ s).trans (recordsOnly_spare (modLocker_records _ _ _))).trans
        (released _ _)).trans (chooseBus_spare _)
    · exact refuseScan_spare _ _ _ _ s

theorem takeScan_spare (chars : List Nat) (s : State) : SpareKept s (takeScan chars s) := by
  have refused (m : PanelMessage) (c : PanelCause) (id n : Option Nat) : SpareKept s (refuseScan m c id n s) :=
    refuseScan_spare m c id n s
  unfold takeScan
  split
  · exact refused _ _ _ _
  · split
    · exact refused _ _ _ _
    · split
      · exact refused _ _ _ _
      · split
        · exact countUnknown_spare s
        · split
          · exact countUnknown_spare s
          · unfold decideScan
            split
            · exact refused _ _ _ _
            · split
              · exact refused _ _ _ _
              · split
                · exact refused _ _ _ _
                · split
                  · exact refused _ _ _ _
                  · exact panelRelease_spare _ _ s

/-! ### Every command -/

theorem clearPorts_spare (s : State) : SpareKept s s.clearPorts := .of_same rfl rfl rfl

/-- An expiry lets the rest of its period pass with the outputs cleared (log entries 2 and 8). -/
theorem expiry_spare (d : Nat) (s : State) : SpareKept s (s.clearPorts.elapse d) := .of_same rfl rfl rfl

/-- The power-on values hold no place and owe no answer (R115, R132). -/
theorem powerOnValues_spare (shed : Vector Bool 4) (s : State) : Spare 0 (s.powerOnValues shed) :=
  ⟨Nat.le_refl 0, Nat.zero_le _⟩

/-- What an event, which uses no place, leaves. -/
def EventSpares (s : State) (o : Host.Outcome State Fault Refusal) : Prop := ∀ t, o = .next t → SpareKept s t

theorem SpareKept.next (h : SpareKept s t) : EventSpares s (.next t) := by
  rintro _ ⟨⟩
  exact h

/-- An event that leaves link and commands alone. -/
theorem same_next (ha : t.lki.answerQ = s.lki.answerQ) (hp : t.lki.placesHeld = s.lki.placesHeld)
    (ht : t.txu.table = s.txu.table) : EventSpares s (.next t) := (SpareKept.of_same ha hp ht).next

theorem execTransmitEnd_spare (s : State) : EventSpares s (execTransmitEnd s) := by
  have idle : SpareKept s (s.clearPorts.withLki { s.lki with tx := none }) := .of_same rfl rfl rfl
  unfold execTransmitEnd
  dsimp only
  split
  · exact (clearPorts_spare s).next
  · exact (idle.trans (chooseTransmit_spare _)).next

theorem execGapTimerExpiry_spare (s : State) : EventSpares s (execGapTimerExpiry s) := by
  unfold execGapTimerExpiry
  dsimp only
  split <;> exact same_next rfl rfl rfl

theorem execSilenceTimerExpiry_spare (s : State) : EventSpares s (execSilenceTimerExpiry s) := by
  unfold execSilenceTimerExpiry
  dsimp only
  split
  · exact (clearPorts_spare s).next
  · split <;> exact same_next rfl rfl rfl

theorem execWindowTimerExpiry_spare (s : State) : EventSpares s (execWindowTimerExpiry s) := by
  unfold execWindowTimerExpiry
  dsimp only
  split <;> exact same_next rfl rfl rfl

theorem execLockoutTimerExpiry_spare (s : State) : EventSpares s (execLockoutTimerExpiry s) := by
  unfold execLockoutTimerExpiry
  dsimp only
  split <;> exact same_next rfl rfl rfl

theorem execHoldTick_spare (s : State) : EventSpares s (execHoldTick s) := by
  have restarted (x : State) : SpareKept x { x with hau := { x.hau with tickTimer := some 0 } } := .of_same rfl rfl rfl
  unfold execHoldTick
  dsimp only
  split
  · exact (clearPorts_spare s).next
  · exact ((((expiry_spare _ s).trans (restarted _)).trans (recordsOnly_spare (holdTick_records _))).trans
      (chooseTransmit_spare _)).next

theorem execFrameStart_spare (l0 l1 l2 l3 : Bool) (s : State) : EventSpares s (execFrameStart l0 l1 l2 l3 s) := by
  have levels (x : State) : SpareKept x (x.setShedLines l0 l1 l2 l3) := .of_same rfl rfl rfl
  unfold execFrameStart
  dsimp only
  split
  · exact ((clearPorts_spare s).trans (levels _)).next
  · exact (((((expiry_spare _ s).trans (levels _)).trans (frameStart_spare _)).trans (chooseBus_spare _)).trans
      (chooseTransmit_spare _)).next

theorem execPollGapTimerExpiry_spare (s : State) : EventSpares s (execPollGapTimerExpiry s) := by
  unfold execPollGapTimerExpiry
  dsimp only
  split
  · exact (clearPorts_spare s).next
  · exact ((((expiry_spare _ s).trans (beginCycle_spare _)).trans (chooseBus_spare _)).trans
      (chooseTransmit_spare _)).next

theorem execDoorHeld_spare (n : Nat) (s : State) : EventSpares s (execDoorHeld n s) := by
  unfold execDoorHeld
  dsimp only
  split
  · exact (clearPorts_spare s).next
  · exact (((expiry_spare _ s).trans (recordsOnly_spare (examineDoorHeld_records n _))).trans
      (chooseTransmit_spare _)).next

theorem execPulseEnd_spare (s : State) : EventSpares s (execPulseEnd s) := by
  unfold execPulseEnd
  dsimp only
  split <;> exact same_next rfl rfl rfl

theorem execQuietEnd_spare (s : State) : EventSpares s (execQuietEnd s) := by
  unfold execQuietEnd
  dsimp only
  split
  · exact ((((((expiry_spare _ s).trans (withBbm_spare _ _)).trans (endNotice_spare _)).trans
      (cycleAfterQuiet_spare _)).trans (chooseBus_spare _)).trans (chooseTransmit_spare _)).next
  · exact (clearPorts_spare s).next

theorem execStoreEnd_spare (good : Bool) (s : State) : EventSpares s (execStoreEnd good s) := by
  unfold execStoreEnd
  dsimp only
  split
  · exact ((((clearPorts_spare s).trans (withSst_spare _ _)).trans (endLongOp_spare _ _)).trans
      (chooseTransmit_spare _)).next
  · exact (clearPorts_spare s).next

theorem execReplyReceived_spare (frame : List Byte) (s : State) : EventSpares s (execReplyReceived frame s) := by
  unfold execReplyReceived
  dsimp only
  split
  · exact (clearPorts_spare s).next
  · split
    · exact (((clearPorts_spare s).trans (attemptSucceeded_spare _ _)).trans (chooseTransmit_spare _)).next
    · exact (((clearPorts_spare s).trans (attemptFailed_spare _)).trans (chooseTransmit_spare _)).next

theorem execReplyTimeout_spare (s : State) : EventSpares s (execReplyTimeout s) := by
  unfold execReplyTimeout
  dsimp only
  split
  · exact (((clearPorts_spare s).trans (attemptFailed_spare _)).trans (chooseTransmit_spare _)).next
  · exact (clearPorts_spare s).next

theorem execBroadcastEnd_spare (s : State) : EventSpares s (execBroadcastEnd s) := by
  unfold execBroadcastEnd
  dsimp only
  split
  · exact ((((clearPorts_spare s).trans (withBbm_spare _ _)).trans (afterExchange_spare _)).trans
      (chooseTransmit_spare _)).next
  · exact (clearPorts_spare s).next

theorem exec_spare (i : Instr) (s t : State) (h : exec i s = .next t) (k : Spare 0 s) : Spare 0 t := by
  by_cases hi : IsRequest i
  · rw [exec_request i s hi] at h
    cases h
    exact takeRequest_spare _ (serveRequest_used i) s k
  cases i with
  | receiveByte b =>
    cases h
    exact receive_spare b _ (clearPorts_spare s 0 k)
  | powerOn l0 l1 l2 l3 =>
    cases h
    exact beginDiscovery_spare _ _ 0 (powerOnValues_spare _ s)
  | gapTimerExpiry => exact execGapTimerExpiry_spare s t h 0 k
  | silenceTimerExpiry => exact execSilenceTimerExpiry_spare s t h 0 k
  | transmitEnd => exact execTransmitEnd_spare s t h 0 k
  | scan chars =>
    cases h
    exact (((clearPorts_spare s).trans (takeScan_spare chars _)).trans (chooseTransmit_spare _)) 0 k
  | windowTimerExpiry => exact execWindowTimerExpiry_spare s t h 0 k
  | lockoutTimerExpiry => exact execLockoutTimerExpiry_spare s t h 0 k
  | holdTick => exact execHoldTick_spare s t h 0 k
  | frameStart l0 l1 l2 l3 => exact execFrameStart_spare l0 l1 l2 l3 s t h 0 k
  | pollGapTimerExpiry => exact execPollGapTimerExpiry_spare s t h 0 k
  | doorHeld n => exact execDoorHeld_spare n s t h 0 k
  | pulseEnd => exact execPulseEnd_spare s t h 0 k
  | quietEnd => exact execQuietEnd_spare s t h 0 k
  | storeEnd x => exact execStoreEnd_spare x s t h 0 k
  | replyReceived f => exact execReplyReceived_spare f s t h 0 k
  | replyTimeout => exact execReplyTimeout_spare s t h 0 k
  | broadcastEnd => exact execBroadcastEnd_spare s t h 0 k
  | _ => exact absurd rfl hi

/-- Settles O7: every answer queued comes out of the place of its request or of the entry that owed it. -/
theorem answerPlacesCoverAnswers : Obligations.AnswerPlacesCoverAnswers := by
  intro s t hs h
  rw [placesCover_iff_spare] at hs ⊢
  unfold step at h
  split at h
  case h_1 =>
    cases h
    exact expiry_spare 1 s 0 hs
  case h_2 c rest hp =>
    have taken : SpareKept s { s with pending := rest } := .of_same rfl rfl rfl
    exact exec_spare c _ t h (taken 0 hs)

end Sys2Proof.Proofs

/-! ## The transmit framer: its choice, and that it never rests while a frame waits (R140, R143, R144, R150, R151) -/

namespace Sys2Proof.Proofs

open Sys2Proof.Machine

variable {s t : State}

/-! ### After its choice the framer sends, or nothing waits, or island lasts (R140) -/

theorem settled_of_busy (h : s.lki.tx ≠ none ∨ s.lki.island = true) : s.TransmitSettled := by
  intro idle clear
  rcases h with h | h
  · exact absurd idle h
  · simp [clear] at h

theorem chooseTransmit_settled (s : State) : (chooseTransmit s).TransmitSettled := by
  by_cases busy : s.lki.tx ≠ none ∨ s.lki.island = true
  · rw [chooseTransmit_busy s busy]
    exact settled_of_busy busy
  obtain ⟨idle, clear⟩ := not_or.mp busy
  rw [not_not] at idle
  rw [Bool.not_eq_true] at clear
  cases ha : s.lki.answerQ with
  | cons a rest =>
    rw [chooseTransmit_answer s a rest idle clear ha]
    exact settled_of_busy (.inl (by simp))
  | nil =>
    cases hr : s.lki.reportQ with
    | cons r rest =>
      rw [chooseTransmit_report s r rest idle clear ha hr, submitReportsLost_eq]
      exact settled_of_busy (.inl (by simp [beginTransmit]))
    | nil =>
      rw [chooseTransmit_empty s ha hr]
      exact fun _ _ => ⟨ha, hr⟩

/-- What leaves the framer, island and the two queues alone leaves the framer at rest only where it was. -/
theorem settled_of_same (htx : t.lki.tx = s.lki.tx) (hi : t.lki.island = s.lki.island)
    (ha : t.lki.answerQ = s.lki.answerQ) (hr : t.lki.reportQ = s.lki.reportQ) (h : s.TransmitSettled) :
    t.TransmitSettled := by
  unfold State.TransmitSettled
  rw [htx, hi, ha, hr]
  exact h

theorem takeRequest_settled (serve : State → State) (s : State) : (takeRequest serve s).TransmitSettled := by
  unfold takeRequest
  split <;> exact chooseTransmit_settled _

theorem completeFrame_settled (bytes : List Byte) (check : Nat) (h : s.TransmitSettled) :
    (completeFrame bytes check s).TransmitSettled := by
  unfold completeFrame
  dsimp only
  split
  · exact settled_of_same rfl rfl rfl rfl h
  · split
    · exact takeRequest_settled _ _
    · exact settled_of_same rfl rfl rfl rfl h

theorem receive_settled (b : Byte) (h : s.TransmitSettled) : (receive b s).TransmitSettled := by
  have rx (r : RxFramer) (g : Option Nat) : (s.setRx r g).TransmitSettled := settled_of_same rfl rfl rfl rfl h
  unfold receive
  split
  · split
    · exact rx _ _
    · exact h
  · split
    · exact rx _ _
    · exact settled_of_same rfl rfl rfl rfl h
  · dsimp only
    split <;> exact rx _ _
  · exact rx _ _
  · exact completeFrame_settled _ _ h

/-- The pulse of the power-on discovery finds no command to end, and so queues no frame (R186). -/
theorem powerOn_lki (shed : Vector Bool 4) (s : State) :
    (beginDiscovery .powerOn (s.powerOnValues shed)).lki = Lki.powerOn := rfl

/-! ### Every command -/

/-- The outcome of a command, if it is a next state, leaves the framer settled. -/
def SettledAfter (o : Host.Outcome State Fault Refusal) : Prop := ∀ t, o = .next t → t.TransmitSettled

theorem next_settled (h : t.TransmitSettled) : SettledAfter (.next t) := by
  rintro _ ⟨⟩
  exact h

/-- A command that ends with the framer's choice. -/
theorem chosen_settled (s : State) : SettledAfter (.next (chooseTransmit s)) := next_settled (chooseTransmit_settled s)

/-- A command that leaves the framer, island and the queues alone. -/
theorem same_settled (h : s.TransmitSettled) (htx : t.lki.tx = s.lki.tx) (hi : t.lki.island = s.lki.island)
    (ha : t.lki.answerQ = s.lki.answerQ) (hr : t.lki.reportQ = s.lki.reportQ) : SettledAfter (.next t) :=
  next_settled (settled_of_same htx hi ha hr h)

theorem execGapTimerExpiry_settled (h : s.TransmitSettled) : SettledAfter (execGapTimerExpiry s) := by
  unfold execGapTimerExpiry
  dsimp only
  split <;> exact same_settled h rfl rfl rfl rfl

/-- During island the framer may rest (R140, R146). -/
theorem execSilenceTimerExpiry_settled (h : s.TransmitSettled) : SettledAfter (execSilenceTimerExpiry s) := by
  unfold execSilenceTimerExpiry
  dsimp only
  split
  · exact same_settled h rfl rfl rfl rfl
  · split
    · exact same_settled h rfl rfl rfl rfl
    · exact next_settled (settled_of_busy (.inr rfl))

theorem execTransmitEnd_settled (h : s.TransmitSettled) : SettledAfter (execTransmitEnd s) := by
  unfold execTransmitEnd
  dsimp only
  split
  · exact same_settled h rfl rfl rfl rfl
  · exact chosen_settled _

theorem execWindowTimerExpiry_settled (h : s.TransmitSettled) : SettledAfter (execWindowTimerExpiry s) := by
  unfold execWindowTimerExpiry
  dsimp only
  split <;> exact same_settled h rfl rfl rfl rfl

theorem execLockoutTimerExpiry_settled (h : s.TransmitSettled) : SettledAfter (execLockoutTimerExpiry s) := by
  unfold execLockoutTimerExpiry
  dsimp only
  split <;> exact same_settled h rfl rfl rfl rfl

theorem execHoldTick_settled (h : s.TransmitSettled) : SettledAfter (execHoldTick s) := by
  unfold execHoldTick
  dsimp only
  split
  · exact same_settled h rfl rfl rfl rfl
  · exact chosen_settled _

theorem execFrameStart_settled (l0 l1 l2 l3 : Bool) (h : s.TransmitSettled) :
    SettledAfter (execFrameStart l0 l1 l2 l3 s) := by
  unfold execFrameStart
  dsimp only
  split
  · exact same_settled h rfl rfl rfl rfl
  · exact chosen_settled _

theorem execPollGapTimerExpiry_settled (h : s.TransmitSettled) : SettledAfter (execPollGapTimerExpiry s) := by
  unfold execPollGapTimerExpiry
  dsimp only
  split
  · exact same_settled h rfl rfl rfl rfl
  · exact chosen_settled _

theorem execDoorHeld_settled (n : Nat) (h : s.TransmitSettled) : SettledAfter (execDoorHeld n s) := by
  unfold execDoorHeld
  dsimp only
  split
  · exact same_settled h rfl rfl rfl rfl
  · exact chosen_settled _

theorem execPulseEnd_settled (h : s.TransmitSettled) : SettledAfter (execPulseEnd s) := by
  unfold execPulseEnd
  dsimp only
  split <;> exact same_settled h rfl rfl rfl rfl

theorem execQuietEnd_settled (h : s.TransmitSettled) : SettledAfter (execQuietEnd s) := by
  unfold execQuietEnd
  dsimp only
  split
  · exact chosen_settled _
  · exact same_settled h rfl rfl rfl rfl

theorem execStoreEnd_settled (good : Bool) (h : s.TransmitSettled) : SettledAfter (execStoreEnd good s) := by
  unfold execStoreEnd
  dsimp only
  split
  · exact chosen_settled _
  · exact same_settled h rfl rfl rfl rfl

theorem execReplyReceived_settled (frame : List Byte) (h : s.TransmitSettled) :
    SettledAfter (execReplyReceived frame s) := by
  unfold execReplyReceived
  dsimp only
  split
  · exact same_settled h rfl rfl rfl rfl
  · split <;> exact chosen_settled _

theorem execReplyTimeout_settled (h : s.TransmitSettled) : SettledAfter (execReplyTimeout s) := by
  unfold execReplyTimeout
  dsimp only
  split
  · exact chosen_settled _
  · exact same_settled h rfl rfl rfl rfl

theorem execBroadcastEnd_settled (h : s.TransmitSettled) : SettledAfter (execBroadcastEnd s) := by
  unfold execBroadcastEnd
  dsimp only
  split
  · exact chosen_settled _
  · exact same_settled h rfl rfl rfl rfl

theorem exec_settled (i : Instr) (h : s.TransmitSettled) : SettledAfter (exec i s) := by
  by_cases hi : IsRequest i
  · rw [exec_request i s hi]
    exact next_settled (takeRequest_settled _ s)
  cases i with
  | receiveByte b => exact next_settled (receive_settled b (settled_of_same rfl rfl rfl rfl h))
  | gapTimerExpiry => exact execGapTimerExpiry_settled h
  | silenceTimerExpiry => exact execSilenceTimerExpiry_settled h
  | transmitEnd => exact execTransmitEnd_settled h
  | scan chars => exact chosen_settled _
  | windowTimerExpiry => exact execWindowTimerExpiry_settled h
  | lockoutTimerExpiry => exact execLockoutTimerExpiry_settled h
  | powerOn l0 l1 l2 l3 =>
    refine next_settled fun _ _ => ?_
    rw [powerOn_lki]
    exact ⟨rfl, rfl⟩
  | holdTick => exact execHoldTick_settled h
  | frameStart l0 l1 l2 l3 => exact execFrameStart_settled l0 l1 l2 l3 h
  | pollGapTimerExpiry => exact execPollGapTimerExpiry_settled h
  | doorHeld n => exact execDoorHeld_settled n h
  | pulseEnd => exact execPulseEnd_settled h
  | quietEnd => exact execQuietEnd_settled h
  | storeEnd good => exact execStoreEnd_settled good h
  | replyReceived frame => exact execReplyReceived_settled frame h
  | replyTimeout => exact execReplyTimeout_settled h
  | broadcastEnd => exact execBroadcastEnd_settled h
  | _ => exact absurd rfl hi

/-- Settles O8: a command that may queue a frame or end island ends with the framer's choice. -/
theorem transmitFramerNeverRests : Obligations.TransmitFramerNeverRests := by
  intro s t hs h
  unfold step at h
  split at h
  case h_1 =>
    cases h
    exact settled_of_same rfl rfl rfl rfl hs
  case h_2 c rest hp =>
    have taken : State.TransmitSettled { s with pending := rest } := settled_of_same rfl rfl rfl rfl hs
    exact exec_settled c taken t h

/-! ### What it sends (R140, R144, R150, R151) -/

/-- REPORTS_LOST finds room in the queue (R144). -/
theorem submitReportsLost_room (s : State) (lost : s.lki.lostReports ≠ 0) (room : s.lki.reportQ.length < 32) :
    submitReportsLost s = s.withLki { s.lki with
      reportQ := s.lki.reportQ ++ [⟨.reportsLost, s.uptime, 0, [.b2 s.lki.lostReports]⟩], lostReports := 0 } := by
  rw [submitReportsLost, if_neg lost, submit_room .reportsLost _ s (groupEnabled_unmaskable _ rfl) room]
  rfl

/-- With reports lost, REPORTS_LOST follows the report begun, which has made room in the queue (R144). -/
theorem chooseTransmit_reportLost (s : State) (r : Report) (rest : List Report) (htx : s.lki.tx = none)
    (hi : s.lki.island = false) (ha : s.lki.answerQ = []) (hq : s.lki.reportQ = r :: rest)
    (lost : s.lki.lostReports ≠ 0) (most : s.lki.reportQ.length ≤ 32) :
    chooseTransmit s = (s.withLki { s.lki with
      tx := some (.report r)
      reportQ := rest ++ [⟨.reportsLost, s.uptime, 0, [.b2 s.lki.lostReports]⟩]
      lostReports := 0 }).emit (.link (.report r)) := by
  rw [hq, List.length_cons] at most
  have room : rest.length < 32 := by omega
  exact (chooseTransmit_report s r rest htx hi ha hq).trans
    (submitReportsLost_room (beginTransmit (.report r) (s.withLki { s.lki with reportQ := rest })) lost room)

/-- With none lost, nothing follows it (R144). -/
theorem chooseTransmit_reportNoneLost (s : State) (r : Report) (rest : List Report) (htx : s.lki.tx = none)
    (hi : s.lki.island = false) (ha : s.lki.answerQ = []) (hq : s.lki.reportQ = r :: rest)
    (lost : s.lki.lostReports = 0) :
    chooseTransmit s = beginTransmit (.report r) (s.withLki { s.lki with reportQ := rest }) := by
  rw [chooseTransmit_report s r rest htx hi ha hq, submitReportsLost]
  exact if_pos lost

/-- TRANSMIT_END of a frame in transmission (R140). -/
theorem execTransmitEnd_sending (s : State) (f : UpFrame) (h : s.lki.tx = some f) :
    execTransmitEnd s = .next (chooseTransmit { s with ports := [], lki := { s.lki with tx := none } }) := by
  have sending : s.clearPorts.lki.tx.isNone ≠ true := by simp [h]
  exact if_neg sending

/-- Settles O22. -/
theorem transmitChoice : Obligations.TransmitChoice := by
  refine ⟨fun s => ⟨chooseTransmit_onlyLink s, chooseTransmit_busy s, fun htx hi => ?_⟩,
    fun s f h => execTransmitEnd_sending s f h, fun _ => rfl, fun _ => rfl⟩
  refine ⟨fun a rest hq => chooseTransmit_answer s a rest htx hi hq, fun r rest ha hq lost => ?_,
    fun r rest ha hq lost most => chooseTransmit_reportLost s r rest htx hi ha hq lost most, chooseTransmit_empty s⟩
  exact chooseTransmit_reportNoneLost s r rest htx hi ha hq lost

end Sys2Proof.Proofs

/-! ## Frames from the server: heard, served or discarded, and the timers of the link (R133 to R136, R145 to R147) -/

namespace Sys2Proof.Proofs

open Sys2Proof.Machine

variable {s : State}

/-! ### A valid frame is heard (R134, R136, R147) -/

/-- Outside island only the silence timer restarts (R145). -/
theorem heard_clear (h : s.lki.island = false) :
    s.heard = s.clearPorts.withLki { s.lki with silenceTimer := s.lki.silenceTimer.map fun _ => 0 } := by
  refine if_neg ?_
  simp [h]

/-- During island the frame ends it with ISLAND_END, which carries its start and its length (R147). -/
theorem heard_island (start : Nat) (h : s.lki.island = true) (hs : s.lki.islandStart = some start) :
    s.heard =
      submit .islandEnd [.b4 (uptimeOfSeconds start), .b4 (uptimeOfSeconds (s.uptimeSeconds - start))]
        (s.clearPorts.withLki { s.lki with
          silenceTimer := s.lki.silenceTimer.map fun _ => 0, island := false, islandStart := none }) := by
  refine (if_pos (by simp [h])).trans ?_
  dsimp only [State.withLki, State.clearPorts]
  rw [hs]
  rfl

@[simp] theorem heard_errors (s : State) : s.heard.lki.errors = s.lki.errors := by rw [heard_eq]

/-- A request with every place held is discarded in the state that has heard its frame (R136). -/
theorem exec_overrun (i : Instr) (s : State) (hi : IsRequest i) (full : 32 ≤ s.lki.placesHeld) :
    exec i s = .next (chooseTransmit (discardFrame .overrun s.heard)) := by
  rw [exec_request i s hi, takeRequest_full _ s full]

/-- Settles O17. -/
theorem requestsAreHeardThenServed : Obligations.RequestsAreHeardThenServed := by
  refine ⟨fun s => ⟨fun h => ?_, fun start h hs => ?_⟩, fun i s hi => ⟨exec_served i s hi, fun full => ?_⟩⟩
  · rw [State.accepted, heard_clear h]
    rfl
  · rw [State.accepted, heard_island start h hs]
    rfl
  · refine ⟨exec_overrun i s hi full, (heard_onlyLink s).trans (discardFrame_onlyLink _ _), rfl, ?_⟩
    rw [← heard_errors s]
    rfl

/-! ### The receive framer by its state (R133) -/

theorem receive_sync (h : s.lki.rx = .hunt) : receive 0xC3 s = s.setRx .length (some 0) := by
  simp [receive, h]

theorem receive_noSync {b : Byte} (h : s.lki.rx = .hunt) (hb : b ≠ 0xC3) : receive b s = s := by
  simp [receive, h, hb]

theorem receive_length {b : Byte} (h : s.lki.rx = .length) (low : 4 ≤ b) (high : b ≤ 250) :
    receive b s = s.setRx (.body b [b]) (some 0) := by
  simp [receive, h, low, high]

theorem receive_badLength {b : Byte} (h : s.lki.rx = .length) (out : b < 4 ∨ 250 < b) :
    receive b s = discardFrame .length (s.setRx .hunt none) := by
  have bad : ¬ (4 ≤ b ∧ b ≤ 250) := fun ⟨low, high⟩ => out.elim (Nat.not_lt.mpr low) (Nat.not_lt.mpr high)
  simp [receive, h, bad]

theorem receive_body {b : Byte} {len : Nat} {bytes : List Byte} (h : s.lki.rx = .body len bytes)
    (more : bytes.length + 1 ≠ len) : receive b s = s.setRx (.body len (bytes ++ [b])) (some 0) := by
  simp [receive, h, more]

theorem receive_lastOfBody {b : Byte} {len : Nat} {bytes : List Byte} (h : s.lki.rx = .body len bytes)
    (last : bytes.length + 1 = len) : receive b s = s.setRx (.crc (bytes ++ [b]) none) (some 0) := by
  simp [receive, h, last]

theorem receive_firstCheck {b : Byte} {bytes : List Byte} (h : s.lki.rx = .crc bytes none) :
    receive b s = s.setRx (.crc bytes (some b)) (some 0) := by
  simp [receive, h]

theorem receive_secondCheck {b hi : Byte} {bytes : List Byte} (h : s.lki.rx = .crc bytes (some hi)) :
    receive b s = completeFrame bytes (hi * 256 + b) s := by
  simp [receive, h]

/-! ### A complete frame (R134, R135) -/

theorem completeFrame_wrongCheck {bytes : List Byte} {check : Nat} (h : crc16 bytes ≠ check) :
    completeFrame bytes check s = discardFrame .crc (s.setRx .hunt none) := if_pos h

theorem completeFrame_wrongClass {bytes : List Byte} {check : Nat} (h : crc16 bytes = check)
    (hc : rd1 bytes 1 ∉ [0x10, 0x11, 0x12]) :
    completeFrame bytes check s = discardFrame .cls (s.setRx .hunt none) := by
  have unknown : ¬ (rd1 bytes 1 = clsOrder ∨ rd1 bytes 1 = clsModule ∨ rd1 bytes 1 = clsMgmt) := by
    simpa [clsOrder, clsModule, clsMgmt] using hc
  exact (if_neg (not_not.mpr h)).trans (if_neg unknown)

theorem completeFrame_valid {bytes : List Byte} {check : Nat} (h : crc16 bytes = check)
    (hc : rd1 bytes 1 ∈ [0x10, 0x11, 0x12]) :
    completeFrame bytes check s =
      takeRequest (serveFrame (rd1 bytes 1) (rd1 bytes 2) (rd1 bytes 3) (bytes.drop 4)) (s.setRx .hunt none) := by
  have known : rd1 bytes 1 = clsOrder ∨ rd1 bytes 1 = clsModule ∨ rd1 bytes 1 = clsMgmt := by
    simpa [clsOrder, clsModule, clsMgmt] using hc
  exact (if_neg (not_not.mpr h)).trans (if_pos known)

/-- The check register takes a byte with eight shifts (R134). -/
theorem crc16_append (bytes : List Byte) (b : Byte) : crc16 (bytes ++ [b]) = crcByte (crc16 bytes) b := by
  simp [crc16]

theorem crcByte_eq_foldl (r b : Nat) :
    crcByte r b = (List.range 8).foldl (fun r _ => crcBit r) (r ^^^ (b * 256 % 65536)) := by
  simp only [crcByte, List.range_succ, List.range_zero, List.nil_append, List.cons_append, List.foldl_cons,
    List.foldl_nil]

theorem exec_receiveByte {b : Byte} {t : State} (h : receive b s.clearPorts = t) :
    exec (.receiveByte b) s = .next t := congrArg Host.Outcome.next h

/-- Settles O18. -/
theorem receiveFramerByState : Obligations.ReceiveFramerByState := by
  refine ⟨fun b s => ⟨fun h hb => ?_, fun h hb => ?_, fun h low high => ?_, fun h out => ?_, fun len bytes h more => ?_,
    fun len bytes h last => ?_, fun bytes h => ?_⟩, ⟨rfl, fun bytes b => ?_⟩,
    fun b hi bytes s h => ⟨fun wrong => ?_, fun right unknown => ?_⟩⟩
  · rw [hb]
    exact exec_receiveByte (receive_sync (s := s.clearPorts) h)
  · exact exec_receiveByte (receive_noSync (s := s.clearPorts) h hb)
  · exact exec_receiveByte (receive_length (s := s.clearPorts) h low high)
  · exact exec_receiveByte (receive_badLength (s := s.clearPorts) h out)
  · exact exec_receiveByte (receive_body (s := s.clearPorts) h more)
  · exact exec_receiveByte (receive_lastOfBody (s := s.clearPorts) h last)
  · exact exec_receiveByte (receive_firstCheck (s := s.clearPorts) h)
  · rw [crc16_append, crcByte_eq_foldl]
    rfl
  · exact exec_receiveByte ((receive_secondCheck (s := s.clearPorts) h).trans (completeFrame_wrongCheck wrong))
  · exact exec_receiveByte ((receive_secondCheck (s := s.clearPorts) h).trans (completeFrame_wrongClass right unknown))

/-! ### The timers (R133, R135, R145, R146) -/

theorem execGapTimerExpiry_running {e : Nat} (h : s.lki.gapTimer = some e) :
    execGapTimerExpiry s = .next (discardFrame .gap ((s.clearPorts.elapse (5 - e)).setRx .hunt none)) := by
  have running : s.clearPorts.lki.gapTimer = some e := h
  unfold execGapTimerExpiry
  dsimp only
  rw [running]
  rfl

theorem execSilenceTimerExpiry_running {e : Nat} (h : s.lki.silenceTimer = some e) (on : s.params.linkSilenceS ≠ 0)
    (clear : s.lki.island = false) :
    execSilenceTimerExpiry s =
      .next (enterIsland (s.clearPorts.elapse (s.params.linkSilenceS * 1000 - e))) := by
  have running : s.clearPorts.lki.silenceTimer = some e := h
  unfold execSilenceTimerExpiry
  dsimp only
  rw [running]
  exact if_neg (not_or.mpr ⟨on, by simp [clear]⟩)

/-- Settles O21. -/
theorem linkTimersExpire : Obligations.LinkTimersExpire :=
  ⟨fun _ _ h => execGapTimerExpiry_running h, fun _ _ h on clear => execSilenceTimerExpiry_running h on clear⟩

end Sys2Proof.Proofs

/-! ## Requests read from the payloads the server writes (R137, R138, R168) -/

namespace Sys2Proof.Proofs

open Sys2Proof.Machine

/-! ### Fields read from their bytes (R137) -/

theorem fits1_iff (v : Nat) : fits1 v = true ↔ v < 256 := decide_eq_true_iff
theorem fits2_iff (v : Nat) : fits2 v = true ↔ v < 65536 := decide_eq_true_iff
theorem fits4_iff (v : Nat) : fits4 v = true ↔ v < 4294967296 := decide_eq_true_iff
theorem fitsSigned_iff (v : Int) : fitsSigned v = true ↔ -32768 ≤ v ∧ v < 32768 := by simp [fitsSigned]

section Reading

variable (v i : Nat) (fs : List Field)

@[simp] theorem rd1_b1 (h : fits1 v = true) : rd1 (fieldsBytes (.b1 v :: fs)) 0 = v := by
  rw [fits1_iff] at h
  exact Nat.mod_eq_of_lt h

@[simp] theorem rd2_b2 (h : fits2 v = true) : rd2 (fieldsBytes (.b2 v :: fs)) 0 = v := by
  rw [fits2_iff] at h
  show v / 256 % 256 * 256 + v % 256 = v
  omega

@[simp] theorem rd4_b4 (h : fits4 v = true) : rd4 (fieldsBytes (.b4 v :: fs)) 0 = v := by
  rw [fits4_iff] at h
  show (v / 16777216 % 256 * 256 + v / 65536 % 256) * 65536 + (v / 256 % 256 * 256 + v % 256) = v
  omega

@[simp] theorem rd1_behind_b1 : rd1 (fieldsBytes (.b1 v :: fs)) (i + 1) = rd1 (fieldsBytes fs) i := rfl
@[simp] theorem rd1_behind_b2 : rd1 (fieldsBytes (.b2 v :: fs)) (i + 2) = rd1 (fieldsBytes fs) i := rfl
@[simp] theorem rd1_behind_b4 : rd1 (fieldsBytes (.b4 v :: fs)) (i + 4) = rd1 (fieldsBytes fs) i := rfl
@[simp] theorem rd2_behind_b1 : rd2 (fieldsBytes (.b1 v :: fs)) (i + 1) = rd2 (fieldsBytes fs) i := rfl
@[simp] theorem rd2_behind_b2 : rd2 (fieldsBytes (.b2 v :: fs)) (i + 2) = rd2 (fieldsBytes fs) i := rfl
@[simp] theorem rd2_behind_b4 : rd2 (fieldsBytes (.b4 v :: fs)) (i + 4) = rd2 (fieldsBytes fs) i := rfl
@[simp] theorem rd4_behind_b4 : rd4 (fieldsBytes (.b4 v :: fs)) (i + 4) = rd4 (fieldsBytes fs) i := rfl

@[simp] theorem fieldsBytes_nil : fieldsBytes [] = [] := rfl
@[simp] theorem fieldsBytes_length_b1 : (fieldsBytes (.b1 v :: fs)).length = (fieldsBytes fs).length + 1 := rfl
@[simp] theorem fieldsBytes_length_b2 : (fieldsBytes (.b2 v :: fs)).length = (fieldsBytes fs).length + 2 := rfl
@[simp] theorem fieldsBytes_length_b4 : (fieldsBytes (.b4 v :: fs)).length = (fieldsBytes fs).length + 4 := rfl

end Reading

theorem fieldsBytes_append (fs gs : List Field) : fieldsBytes fs ++ fieldsBytes gs = fieldsBytes (fs ++ gs) :=
  List.flatMap_append.symm

/-- The bytes of fields are bytes. -/
theorem fieldsBytes_fit (fs : List Field) : (fieldsBytes fs).all fits1 = true := by
  have byte (f : Field) : f.bytes.all fits1 = true := by
    cases f <;> simp [Field.bytes, fits1_iff, Nat.mod_lt]
  rw [fieldsBytes, List.all_flatMap]
  simp [byte]

/-- A signed value takes two bytes, and its two's complement number reads as the value again (R137). -/
theorem twosComplement_fits (t : Int) : fits2 (twosComplement t) = true := by
  rw [fits2_iff]
  unfold twosComplement
  omega

theorem signedOf_twosComplement {t : Int} (h : fitsSigned t = true) : signedOf (twosComplement t) = t := by
  rw [fitsSigned_iff] at h
  unfold signedOf twosComplement
  split <;> omega

/-! ### The kinds whose length depends on a field (R137, R168, R173, R175) -/

theorem label_readBack (t l : Nat) (x : List Byte) (hl : fits1 l = true) :
    decodeRequest 0x11 2 t (fieldsBytes [.b1 l] ++ x) = .request (.label t l x) := by
  have locker : rd1 (fieldsBytes [.b1 l] ++ x) 0 = l := rd1_b1 l [] hl
  have text : (fieldsBytes [.b1 l] ++ x).drop 1 = x := rfl
  simp [decodeRequest, decodeModule, locker, text]

theorem tableRead_readBack (t a i : Nat) (ha : a ≤ 2) (hi : fits1 i = true) :
    decodeRequest 0x12 1 t (fieldsBytes [.b1 a, .b1 i]) = .request (.tableRead t a i) := by
  have table : fits1 a = true := (fits1_iff a).mpr (by omega)
  simp [decodeRequest, decodeMgmt, Decoded.sized, table, ha, hi]

/-- A TABLE_WRITE's length is that of the record its table number names. -/
theorem tableWrite_readBack (t i : Nat) (r : TableRecord) (hi : fits1 i = true) (hr : r.wf = true) :
    decodeRequest 0x12 2 t (fieldsBytes [.b1 r.number, .b1 i] ++ r.payload) = .request (.tableWrite t i r) := by
  have written (p : List Byte) : decodeRequest 0x12 2 t p = decodeTableWrite t p := rfl
  rw [written]
  cases r with
  | layout p c f w =>
    obtain ⟨⟨⟨hp, hc⟩, hf⟩, hw⟩ : ((fits1 p ∧ fits1 c) ∧ fits1 f) ∧ fits2 w := by simpa [TableRecord.wf] using hr
    have number : fits1 0 = true := rfl
    simp [decodeTableWrite, Decoded.sized, TableRecord.number, TableRecord.payload, fieldsBytes_append, number, hi, hp,
      hc, hf, hw]
  | profile s f o c w g b =>
    obtain ⟨⟨⟨⟨⟨⟨hs, hf⟩, ho⟩, hc⟩, hw⟩, hg⟩, hb⟩ :
        (((((fitsSigned s ∧ fitsSigned f) ∧ fitsSigned o) ∧ fits2 c) ∧ fits2 w) ∧ fits1 g) ∧ fits1 b := by
      simpa [TableRecord.wf] using hr
    have number : fits1 1 = true := rfl
    simp [decodeTableWrite, Decoded.sized, TableRecord.number, TableRecord.payload, fieldsBytes_append, number, hi,
      Field.signed, twosComplement_fits, signedOf_twosComplement, hs, hf, ho, hc, hw, hg, hb]
  | feed n s f =>
    obtain ⟨⟨hn, hs⟩, hf⟩ : (fits2 n ∧ fits2 s) ∧ fits1 f := by simpa [TableRecord.wf] using hr
    have number : fits1 2 = true := rfl
    simp [decodeTableWrite, Decoded.sized, TableRecord.number, TableRecord.payload, fieldsBytes_append, number, hi, hn,
      hs, hf]

/-- A parameter of the catalogue has one value byte or two (R175). -/
theorem paramBytes_listed {p : Nat} (low : 1 ≤ p) (high : p ≤ 16) :
    paramBytes p = if p ∈ [2, 3, 5, 6, 7, 8] then 2 else 1 := by
  rw [paramBytes, if_neg (by omega), if_pos high]

theorem paramGet_readBack (t p : Nat) (low : 1 ≤ p) (high : p ≤ 16) :
    decodeRequest 0x12 3 t (fieldsBytes [.b1 p]) = .request (.paramGet t p) := by
  have number : fits1 p = true := (fits1_iff p).mpr (by omega)
  have known : paramBytes p ≠ 0 := by
    rw [paramBytes_listed low high]
    split <;> decide
  simp [decodeRequest, decodeMgmt, Decoded.sized, number, known]

/-- A PARAM_SET's length is that of the value of its parameter. -/
theorem paramSet_readBack (t p v : Nat) (low : 1 ≤ p) (high : p ≤ 16)
    (hv : (if paramBytes p = 2 then fits2 v else fits1 v) = true) :
    decodeRequest 0x12 4 t (fieldsBytes [.b1 p, if paramBytes p = 2 then .b2 v else .b1 v]) =
      .request (.paramSet t p v) := by
  have number : fits1 p = true := (fits1_iff p).mpr (by omega)
  have written (q : List Byte) : decodeRequest 0x12 4 t q = decodeParamSet t q := rfl
  have bytes := paramBytes_listed low high
  rw [written]
  split at bytes
  · rw [bytes] at hv ⊢
    simp only [if_true] at hv
    simp [decodeParamSet, Decoded.sized, number, bytes, hv]
  · rw [bytes] at hv ⊢
    simp only [OfNat.one_ne_ofNat, if_false] at hv
    simp [decodeParamSet, Decoded.sized, number, bytes, hv]

/-! ### Every request (R138) -/

theorem decodeRequest_encoded (i : Instr) (cls kind tag : Nat) (p : List Byte) (w : WellFormed i = true)
    (h : encodeRequest i = some (cls, kind, tag, p)) : decodeRequest cls kind tag p = .request i := by
  cases i with
  | label t l x =>
    cases h
    simp only [WellFormed, Bool.and_eq_true] at w
    obtain ⟨⟨⟨-, hl⟩, -⟩, -⟩ := w
    exact label_readBack _ l x hl
  | tableRead t a i =>
    cases h
    simp only [WellFormed, Bool.and_eq_true, decide_eq_true_eq] at w
    obtain ⟨⟨-, ha⟩, hi⟩ := w
    exact tableRead_readBack _ a i ha hi
  | tableWrite t i r =>
    cases h
    simp only [WellFormed, Bool.and_eq_true] at w
    obtain ⟨⟨-, hi⟩, hr⟩ := w
    exact tableWrite_readBack _ i r hi hr
  | paramGet t p =>
    cases h
    simp only [WellFormed, Bool.and_eq_true, decide_eq_true_eq] at w
    obtain ⟨⟨-, low⟩, high⟩ := w
    exact paramGet_readBack _ p low high
  | paramSet t p v =>
    cases h
    simp only [WellFormed, Bool.and_eq_true, decide_eq_true_eq] at w
    obtain ⟨⟨⟨-, low⟩, high⟩, hv⟩ := w
    exact paramSet_readBack _ p v low high hv
  | book | cancel | extend | loadOpen | release | clear | queryOrder =>
    cases h
    simp only [WellFormed, Bool.and_eq_true] at w
    simp [decodeRequest, decodeOrder, Decoded.sized, w]
  | lamp | moduleWrite | moduleRead | abort =>
    cases h
    simp only [WellFormed, Bool.and_eq_true] at w
    simp [decodeRequest, decodeModule, Decoded.sized, w]
  | store | rescan | bankReset | serviceOn | serviceOff | serviceUnlatch | clearLocker | status | restart =>
    cases h
    simp only [WellFormed, Bool.and_eq_true] at w
    simp [decodeRequest, decodeMgmt, Decoded.sized, w]
  | _ => cases h

/-- Every payload but that of a LABEL is the bytes of its fields. -/
theorem encodeRequest_fields (i : Instr) (cls kind tag : Nat) (p : List Byte)
    (h : encodeRequest i = some (cls, kind, tag, p)) :
    (∃ t l x, i = .label t l x ∧ p = fieldsBytes [.b1 l] ++ x) ∨ ∃ fs, p = fieldsBytes fs ∧ fs.length ≤ 9 := by
  cases i with
  | label t l x =>
    cases h
    exact .inl ⟨_, l, x, rfl, rfl⟩
  | tableWrite t i r =>
    cases h
    cases r <;> exact .inr ⟨_, fieldsBytes_append _ _, by simp⟩
  | store | rescan | bankReset | status | restart =>
    cases h
    exact .inr ⟨[], rfl, by simp⟩
  | _ =>
    cases h <;> exact .inr ⟨_, rfl, by simp⟩

theorem fieldsBytes_length_le (fs : List Field) : (fieldsBytes fs).length ≤ 4 * fs.length := by
  induction fs with
  | nil => simp
  | cons f rest ih => cases f <;> simp <;> omega

/-- A payload is no longer than the envelope's length byte admits, and is bytes (R137, R150). -/
theorem encodeRequest_payload (i : Instr) (cls kind tag : Nat) (p : List Byte) (w : WellFormed i = true)
    (h : encodeRequest i = some (cls, kind, tag, p)) : p.length ≤ 246 ∧ p.all fits1 = true := by
  rcases encodeRequest_fields i cls kind tag p h with ⟨t, l, x, rfl, rfl⟩ | ⟨fs, rfl, few⟩
  · simp only [WellFormed, Bool.and_eq_true, decide_eq_true_eq] at w
    obtain ⟨⟨-, short⟩, bytes⟩ := w
    exact ⟨by simp; omega, by rw [List.all_append, fieldsBytes_fit, bytes]; rfl⟩
  · have := fieldsBytes_length_le fs
    exact ⟨by omega, fieldsBytes_fit fs⟩

/-- Settles O19. -/
theorem requestPayloadsReadBack : Obligations.RequestPayloadsReadBack :=
  fun i cls kind tag p w h => ⟨decodeRequest_encoded i cls kind tag p w h, encodeRequest_payload i cls kind tag p w h⟩

end Sys2Proof.Proofs

/-! ## The bytes of a request's frame do what the request does (R133, R134, R136 to R138, R150) -/

namespace Sys2Proof.Proofs

open Sys2Proof.Machine

variable {s : State}

theorem runCommands_cons {c : Instr} {rest : List Instr} {t : State} (h : exec c s = .next t) :
    runCommands (c :: rest) s = runCommands rest t := by
  simp [runCommands, h]

theorem runCommands_one (c : Instr) (s : State) : runCommands [c] s = exec c s := by
  cases h : exec c s <;> simp [runCommands, h]

/-- The framer part of the way through a frame, its gap timer just restarted (R133). -/
def framing (r : RxFramer) (s : State) : State := s.clearPorts.setRx r (some 0)

/-- A byte that does not complete the frame moves the framer alone. -/
theorem runCommands_framed {b : Byte} {r r' : RxFramer} {rest : List Instr}
    (h : receive b (framing r s) = (framing r s).setRx r' (some 0)) :
    runCommands (.receiveByte b :: rest) (framing r s) = runCommands rest (framing r' s) :=
  runCommands_cons (exec_receiveByte (s := framing r s) h)

/-- The rest of a frame's body, received byte by byte: `len` is its length byte, `got` what has come so far. -/
theorem runCommands_body (len : Nat) (got todo : List Byte) (after : List Instr) (hne : todo ≠ [])
    (hlen : got.length + todo.length = len) :
    runCommands (todo.map .receiveByte ++ after) (framing (.body len got) s) =
      runCommands after (framing (.crc (got ++ todo) none) s) := by
  induction todo generalizing got with
  | nil => exact absurd rfl hne
  | cons b todo ih =>
    rw [List.length_cons] at hlen
    rw [List.map_cons, List.cons_append]
    by_cases last : todo = []
    · subst last
      exact runCommands_framed (receive_lastOfBody (s := framing (.body len got) s) rfl hlen)
    · have more : got.length + 1 ≠ len := by
        have := List.length_pos_iff.mpr last
        omega
      rw [runCommands_framed (receive_body (s := framing (.body len got) s) rfl more),
        ih (got ++ [b]) last (by rw [List.length_append, List.length_singleton]; omega),
        List.append_assoc, List.singleton_append]

/-- The two check bytes spell the check (R134). -/
theorem crcBytes_spell (bytes : List Byte) :
    ∃ hi lo : Nat, crcBytes bytes = [hi, lo] ∧ crc16 bytes = hi * 256 + lo := by
  have small := crc16_lt bytes
  refine ⟨crc16 bytes / 256 % 256, crc16 bytes % 256, rfl, ?_⟩
  omega

/-- Between frames the framer hunts with its gap timer stopped (R133). -/
theorem setRx_hunting (hunt : s.lki.rx = .hunt) (still : s.lki.gapTimer = none) : s.setRx .hunt none = s := by
  unfold State.setRx
  rw [← hunt, ← still]
  rfl

/-- A hunting framer takes a frame of one of the downward classes byte by byte, and its request is served at the last
(R133, R134, R138). -/
theorem runCommands_frame (cls kind tag : Nat) (p : List Byte) (hc : cls ∈ [0x10, 0x11, 0x12]) (hp : p.length ≤ 246)
    (hunt : s.lki.rx = .hunt) (still : s.lki.gapTimer = none) :
    runCommands ((linkFrame cls kind tag p).map .receiveByte) s =
      .next (takeRequest (serveFrame cls kind tag p) s) := by
  obtain ⟨hi, lo, hcrc, spelled⟩ := crcBytes_spell ([p.length + 4, cls, kind, tag] ++ p)
  have bytes : linkFrame cls kind tag p = 0xC3 :: (p.length + 4) :: ([cls, kind, tag] ++ p ++ [hi, lo]) := by
    unfold linkFrame
    dsimp only
    rw [hcrc]
    simp
  have body := runCommands_body (s := s) (p.length + 4) [p.length + 4] ([cls, kind, tag] ++ p)
    [.receiveByte hi, .receiveByte lo] (by simp) (by simp; omega)
  have hunting : (framing (.crc ([p.length + 4, cls, kind, tag] ++ p) (some hi)) s).setRx .hunt none = s.clearPorts :=
    setRx_hunting (s := s.clearPorts) hunt still
  rw [bytes, List.map_cons, List.map_cons, List.map_append]
  calc runCommands _ s
    _ = runCommands _ (framing .length s) := runCommands_cons (exec_receiveByte (receive_sync (s := s.clearPorts) hunt))
    _ = runCommands _ (framing (.body (p.length + 4) [p.length + 4]) s) :=
      runCommands_framed (receive_length (s := framing .length s) rfl (Nat.le_add_left 4 _) (Nat.add_le_add_right hp 4))
    _ = runCommands [.receiveByte hi, .receiveByte lo]
        (framing (.crc ([p.length + 4, cls, kind, tag] ++ p) none) s) := body
    _ = runCommands [.receiveByte lo] (framing (.crc ([p.length + 4, cls, kind, tag] ++ p) (some hi)) s) :=
      runCommands_framed (receive_firstCheck rfl)
    _ = .next (takeRequest (serveFrame cls kind tag p) s) := by
      rw [runCommands_one]
      refine exec_receiveByte ((receive_secondCheck (s := framing _ s) rfl).trans ?_)
      rw [completeFrame_valid spelled hc, hunting]
      rfl

/-- A request goes down in one of the three downward classes (R138). -/
theorem encodeRequest_class (i : Instr) (cls kind tag : Nat) (p : List Byte)
    (h : encodeRequest i = some (cls, kind, tag, p)) : cls ∈ [0x10, 0x11, 0x12] := by
  cases i <;> cases h <;> simp

/-- Settles O20: the frame is `linkFrame` of the request's class, kind, tag and payload, which read back as it. -/
theorem frameBytesRunTheRequest : Obligations.FrameBytesRunTheRequest := by
  intro i bytes s w h hunt still
  obtain ⟨⟨cls, kind, tag, p⟩, encoded, rfl⟩ := Option.map_eq_some_iff.mp h
  obtain ⟨short, -⟩ := encodeRequest_payload i cls kind tag p w encoded
  have served : serveFrame cls kind tag p = serveRequest i := by
    funext x
    rw [serveFrame, decodeRequest_encoded i cls kind tag p w encoded]
  rw [exec_request i s (by simp [IsRequest, encoded]), ← served]
  exact runCommands_frame cls kind tag p (encodeRequest_class i cls kind tag p encoded) short hunt still

end Sys2Proof.Proofs
